-- ==== Sys2Proof/Word.lean ====
section
/-! DEFINITION. The words of the FP7440 model: the 32-bit register word, the byte, and the sparse table that
every array of the device is held in. -/

namespace Sys2Proof

/-- A register word (R9: registers are 32 bits wide). -/
abbrev Word := BitVec 32

/-- A byte of a device memory or of host memory. -/
abbrev Byte := BitVec 8

/-- A sparse table: index and entry pairs in rising order of index, holding no entry equal to the default of its
index. Every array of the device (memories, register banks, per-line-processor state) is one of these, so equal
arrays are equal data. -/
abbrev Tab (α : Type) := List (Nat × α)

end Sys2Proof
end

