-- ==== Sys2Proof/Syntax.lean ====
section
/-! DEFINITION. The commands the FP7440 block takes, one constructor for each row of spec/opcode_table.json, and the
operand types they carry. An operand is either what a sender writes (a value, an address, a register's number) or
what the world outside the block decides and the spec does not fix from the block's state (which fetch misses its
line, what a flash sector decodes to, what a received packet holds). -/

namespace Sys2Proof

/-- Who issues an access, and so in whose address space its address is (R20, Table — Master identifiers): the game
(function 0, BAR0 offsets), the custodian (function 1, BAR0 offsets), a line processor (LP I/O word addresses, R456),
or the debug port (R438). -/
inductive Src where
  | game
  | custodian
  | lp (n : Fin 4)
  | debug
  deriving DecidableEq, Repr

/-- A BAR of a function (Table — BARs). -/
inductive Bar where
  | bar0
  | bar2
  | bar4
  deriving DecidableEq, Repr

/-- The address spaces a debug access names (R438): registers (function 0 offsets, or 0x1000_0000 plus a function 1
offset), LPDDR5, the frame store and the ledger SRAM. -/
inductive DebugSpace where
  | reg
  | lpddr
  | frameStore
  | ledgerSram
  deriving DecidableEq, Repr

/-- A fetch of one 8-dot output span of one layer slot (0-13, R47) that misses its line (R117). -/
structure LateFetch where
  slot : Nat
  span : Nat
  deriving DecidableEq, Repr

/-- A frame of a voice that has not arrived when the voice is computed (R224): the voice, and which of the frames
i - 1 to i + 2 that it uses (0 to 3). -/
structure LateFrame where
  voice : Nat
  nb    : Nat
  deriving DecidableEq, Repr

/-- An entry of a timed write queue (R35): tag, target, data and issuer. -/
structure TimedWrite where
  frame  : Nat
  line   : Nat
  addr   : Nat
  data   : Word
  master : Nat
  deriving DecidableEq, Repr

/-- A host read that can fail (R265). -/
inductive HostRead where
  | doorbell (f : Fin 2)
  | descriptor (r : Fin 68)
  deriving DecidableEq, Repr

/-- What a stall timer of R266 watches. -/
inductive StallSource where
  | ring (r : Fin 68)
  | eventQueue (f : Fin 2)
  deriving DecidableEq, Repr

/-- What the flash and the sector decoder give for one 1 KiB sector (R288, R289, R291): data with the number of bits
corrected and the read-retry step that succeeded, an erased sector, or a sector no step can decode. -/
inductive SectorRead where
  | decoded (data : List Byte) (corr : Nat) (step : Nat)
  | erased
  | lost
  deriving DecidableEq, Repr

/-- A bus error as the Flume meets it (R307, R308, FM_FAULT). -/
structure FlumeFault where
  cause : BitVec 3
  space : BitVec 2
  write : Bool
  owner : Fin 2
  chan  : Option (Fin 32)
  addr  : BitVec 64
  deriving DecidableEq, Repr

/-- How an I2C command ends on the bus (R347). -/
inductive I2cEnd where
  | ok
  | nack
  | arb
  deriving DecidableEq, Repr

/-- A slot of the ledger partition as restore reads it from flash (R354, R361). -/
structure SlotImage where
  block : BitVec 4
  seq   : Word
  valid : Bool
  data  : List Byte
  deriving DecidableEq, Repr

/-- One slot of a line packet (R367, R370) as it passes a node: whether its node wrote it, its S bytes and its CRC. -/
structure LinkSlot where
  wrote : Bool
  bytes : List Byte
  crc   : BitVec 16
  deriving DecidableEq, Repr

/-- A line packet (R367): the fields of its header, its HCRC, and the slots. -/
structure Packet where
  frame : BitVec 16
  line  : BitVec 16
  cfg   : Byte
  mid   : Byte
  hcrc  : BitVec 16
  slots : List LinkSlot
  deriving DecidableEq, Repr

/-- What ends HOLD (R432). -/
inductive WakeCause where
  | pattern (u : Fin 8)
  | timer (t : Fin 16)
  | pcie
  deriving DecidableEq, Repr

/-- The block whose access meets a fabric timeout (R41): each reacts as its chapter states. -/
inductive TimeoutVictim where
  | lpRead (n : Fin 4)
  | blit
  | flume (ch : Fin 32) (write : Bool) (space : BitVec 2) (addr : BitVec 64)
  | rowWrite (p : Fin 2)
  | other (m : Fin 16)
  deriving DecidableEq, Repr

/-- The commands of the block: one constructor for each row of the table. -/
inductive Instr where
  /-- REGISTER_WRITE (R7). A write to a register that has no row of its own takes effect by its access code, after the target's access table checks it. -/
  | registerWrite (src : Src) (a : Nat) (v : Word) (be : BitVec 4)
  /-- FABRIC_STALL_RELEASE (R14). A master stalled on the fabric's outstanding-transaction limit issues its request once an entry frees. -/
  | fabricStallRelease (m : Fin 16)
  /-- BAR_READ (R246). A host read through a BAR completes only after every earlier posted write through that BAR has completed at its target. -/
  | barRead (f : Fin 2) (bar : Bar) (a : Nat)
  /-- MSIX_UNMASK (R247). Unmasking an MSI-X vector that has its pending bit set sends the held message. -/
  | msixUnmask (f : Fin 2) (vec : Fin 64)
  /-- SYS_BEAM_READ (R45). A read of SYS_BEAM_LO returns the master dot and line and copies the frame count into SYS_BEAM_HI. -/
  | sysBeamRead (src : Src)
  /-- DET_STAT_CLEAR (R44). Clearing SYS_DET_STAT class bits also clears the counters tied to them. -/
  | detStatClear (src : Src) (v : Word)
  /-- SYS_COMMIT (R25). SYS_COMMIT.GO requests that the shadowed SYS_TBASE and SYS_GLK_CFG be applied at the next master frame start. -/
  | sysCommit (src : Src)
  /-- MASTER_FRAME_START (R26). At a master frame start, SYS, HI and GL commits apply, the master source may change, and DIM may be entered. -/
  | masterFrameStart (take : Bool)
  /-- FLYWHEEL (R27). On loss of the genlock or Link reference, the master timing continues at the last measured period and sets FLYWHEEL. -/
  | flywheel
  /-- GENLOCK_LOCKED (R31). After 16 consecutive lines within ±2 dots, the output is locked and LOCKED_x is set. -/
  | genlockLocked (x : Fin 3) (phase : Byte)
  /-- GENLOCK_LOST (R31). Lock is lost on a missing reference or a large phase error; LOCKED_x clears and the genlock-lost event is raised. -/
  | genlockLost (x : Fin 3)
  /-- LINE_START (R13). A line start of the master timing is delivered to the CCLK domain and sets doorbell polls and LP beam waits. -/
  | lineStart
  /-- LINE_TICK (R28). The line start is delivered to the TCLK domain, where line-keyed actions are scheduled. -/
  | lineTick
  /-- LATCH_POINT (R34). At a pipe's latch point, timed writes, parameter-table entries and Sluice values for the line apply atomically in that order. -/
  | latchPoint (p : Fin 2) (late : List LateFetch)
  /-- FETCH_ARRIVAL (R117). Fetched pattern, bitmap or table data arrives; data that arrives after its pass reached the span is discarded. -/
  | fetchArrival (p : Fin 2) (i : Nat)
  /-- LINE_TABLE_FETCH_DONE (R77). A line-table or column-table read completes; values not arrived by the latch point leave the previous line's values in use. -/
  | lineTableFetchDone (p : Fin 2) (k : Fin 8) (col : Bool)
  /-- ROW_WRITE (R127). When the last pass of a line ends, the pipe writes the whole line into its frame-store row as one write. -/
  | rowWrite (p : Fin 2)
  /-- TIMED_WRITE_ENTRY (R36). A timed write enters its pipe's queue after the address, access-table and pipe checks. -/
  | timedWriteEntry (p : Fin 2) (e : TimedWrite)
  /-- TWQ_STALL_RELEASE (R35). An issuer stalled on a full timed write queue enters its entry once an entry frees. -/
  | twqStallRelease (p : Fin 2)
  /-- SCENE (R55). A SCENE group is checked, costed and accepted or refused, with one completion and event 80–83. -/
  | scene (r : Fin 68)
  /-- ENV (R46). An ENV descriptor outside a scene group is refused with 0x09. -/
  | env (r : Fin 68)
  /-- UPD (R261). An UPD descriptor enters its one to four writes into the pipe's timed write queue as master 0. -/
  | upd (r : Fin 68)
  /-- NOP (R260). A NOP completes with RESULT 0 when it is passed to its engine. -/
  | nop (r : Fin 68)
  /-- TIMING_COST_EVALUATION (R51). The Headgate re-evaluates admitted costs over a port's new shadow timing within 8,000 CCLK before the commit. -/
  | timingCostEvaluation (x : Fin 3)
  /-- HG_ENABLE (R63). Setting HG_CTL.ENn enables the pipe's Headgate if its fed timing runs. -/
  | hgEnable (src : Src) (p : Fin 2)
  /-- HG_DISABLE (R63). Clearing HG_CTL.ENn discards pending scenes, refuses any scene in admission and installs the empty envelope. -/
  | hgDisable (src : Src) (p : Fin 2)
  /-- TP_ENABLE (R85). Setting TPp_CTL.EN checks the tile-plane set and applies it at the next line-0 latch point. -/
  | tpEnable (src : Src) (p : Fin 2)
  /-- TP_DISABLE (R85). Clearing TPp_CTL.EN stops all eight planes at the pipe's next latch point. -/
  | tpDisable (src : Src) (p : Fin 2)
  /-- TP_COMMIT (R82). TPp_COMMIT.GO checks and applies the TP shadow set at the line-0 latch point. -/
  | tpCommit (src : Src) (p : Fin 2)
  /-- MAP_WINDOW_WRITE (R81). A write through the map-store window lands when it arrives. -/
  | mapWindowWrite (src : Src) (i : Nat) (v : Word) (be : BitVec 4)
  /-- MAP_PAIR_WRITE (R83). An LP write of TP_MAPDATAm writes the addressed cell and optionally advances CELL. -/
  | mapPairWrite (m : Fin 4) (v : Word)
  /-- MAP_PAIR_READ (R83). An LP read of TP_MAPDATAm returns the addressed cell and optionally advances CELL. -/
  | mapPairRead (m : Fin 4)
  /-- LIST_POINT (R91). At the list point, the sprite unit walks the four group lists to form the next frame's walk order. -/
  | listPoint (p : Fin 2)
  /-- SPRITE_WINDOW_WRITE (R106). A direct write to the sprite-table window lands in the table that SP_WINSEL selects. -/
  | spriteWindowWrite (src : Src) (i : Nat) (v : Word) (be : BitVec 4)
  /-- SP_ENABLE (R108). Setting SPp_CTL.EN checks the sprite and Sluice set and applies it at the next line-0 latch point. -/
  | spEnable (src : Src) (p : Fin 2)
  /-- SP_DISABLE (R108). Clearing SPp_CTL.EN stops all sprites and bindings at the next latch point. -/
  | spDisable (src : Src) (p : Fin 2)
  /-- SP_COMMIT (R107). SPp_COMMIT.GO checks and applies the SP shadow set at the line-0 latch point. -/
  | spCommit (src : Src) (p : Fin 2)
  /-- CMP_ENABLE (R124). Setting CMPp_CTL.EN checks the pipe and starts it at the first line-0 latch point after the ladder grant. -/
  | cmpEnable (src : Src) (p : Fin 2)
  /-- CMP_DISABLE (R109). Clearing CMPp_CTL.EN stops the pipe at its next latch point and discards its timed write queue. -/
  | cmpDisable (src : Src) (p : Fin 2)
  /-- CMP_COMMIT (R123). CMPp_COMMIT.GO checks and applies the CMP shadow set at the line-0 latch point. -/
  | cmpCommit (src : Src) (p : Fin 2)
  /-- LAYER_BLEND_WRITE (R124). A CMPp_LAYk write with a reserved BLEND value is dropped with 0x40 and event 0. -/
  | layerBlendWrite (src : Src) (p : Fin 2) (k : Fin 10) (v : Word)
  /-- SO_ENABLE (R129). Setting SO_x_CTL.EN checks the port and starts its pixel PLL at the ladder grant. -/
  | soEnable (src : Src) (x : Fin 3)
  /-- PIXEL_PLL_LOCK (R129). The pixel PLL locks, the timing generator starts by R23 and RUN becomes 1. -/
  | pixelPllLock (x : Fin 3)
  /-- PIXEL_PLL_LOCK_TIMEOUT (R129). If the pixel PLL has not locked 1 ms after the grant, EN returns to 0 with 0x45. -/
  | pixelPllLockTimeout (x : Fin 3)
  /-- SO_DISABLE (R150). Clearing SO_x_CTL.EN stops the port at the next CCLK unless its pipe is still enabled. -/
  | soDisable (src : Src) (x : Fin 3)
  /-- SO_COMMIT (R130). SO_x_COMMIT.GO requests a check and apply of the port's shadow set at its commit point. -/
  | soCommit (src : Src) (x : Fin 3)
  /-- PORT_LINE_START (R133). At dot 0 of an active line, scan-out begins reading that line's row from the region. -/
  | portLineStart (x : Fin 3)
  /-- HBLANK_START (R136). At dot HACTIVE of every line, the horizontal blanking start event is raised. -/
  | hblankStart (x : Fin 3)
  /-- LINE_MATCH (R136). When the beam reaches an enabled SO_x_LMm coordinate, line-match event m is raised. -/
  | lineMatch (x : Fin 3) (k : Fin 8)
  /-- LINK_TRAIN (R143). TRAIN = 1 starts DisplayPort link training with clock recovery and equalisation. -/
  | linkTrain (src : Src) (x : Fin 3)
  /-- LINK_TRAIN_END (R143). Training ends with TRAINED = 1 or with FAIL recording the cause. -/
  | linkTrainEnd (x : Fin 3) (cause : BitVec 3)
  /-- AUX_NATIVE_WRITE (R145). AUXCMD GO with TYPE 0 runs a native AUX write. -/
  | auxNativeWrite (src : Src) (x : Fin 3) (ad : BitVec 20) (len : BitVec 4)
  /-- AUX_NATIVE_READ (R145). AUXCMD GO with TYPE 1 runs a native AUX read. -/
  | auxNativeRead (src : Src) (x : Fin 3) (ad : BitVec 20) (len : BitVec 4)
  /-- I2C_OVER_AUX_WRITE (R145). AUXCMD GO with TYPE 2 runs an I2C-over-AUX write ending with a stop. -/
  | i2cOverAuxWrite (src : Src) (x : Fin 3) (ad : BitVec 20) (len : BitVec 4)
  /-- I2C_OVER_AUX_READ (R145). AUXCMD GO with TYPE 3 runs an I2C-over-AUX read ending with a stop. -/
  | i2cOverAuxRead (src : Src) (x : Fin 3) (ad : BitVec 20) (len : BitVec 4)
  /-- DDC_WRITE (R145). AUXCMD GO with TYPE 4 runs a DDC write at 100 kHz. -/
  | ddcWrite (src : Src) (x : Fin 3) (ad : BitVec 20) (len : BitVec 4)
  /-- DDC_READ (R145). AUXCMD GO with TYPE 5 runs a DDC read at 100 kHz. -/
  | ddcRead (src : Src) (x : Fin 3) (ad : BitVec 20) (len : BitVec 4)
  /-- AUX_TRANSACTION_END (R145). An AUX or DDC transaction finishes and reports DONE, ERR and COUNT in SO_x_AUXSTAT. -/
  | auxTransactionEnd (x : Fin 3) (err : BitVec 2) (cnt : BitVec 5) (bytes : List Byte)
  /-- AUX_REPLY_TIMEOUT (R145). No AUX reply within 400 µs ends the transaction with ERR 3. -/
  | auxReplyTimeout (x : Fin 3)
  /-- HPD_CHANGE (R146). The filtered hot-plug level changes, setting HPDCHG and clearing TRAINED on a fall. -/
  | hpdChange (x : Fin 3) (level : Bool)
  /-- HPD_IRQ_PULSE (R146). A DisplayPort IRQ pulse of 0.5–1 ms sets HPDIRQ. -/
  | hpdIrqPulse (x : Fin 3)
  /-- MOVE (R154). An LP instruction word issues its long move or paired short moves into registers, operand ports or state ports. -/
  | move (n : Fin 4)
  /-- ALU_ADD (R174). A write to ALU.ADD sets ALU.RES to O + v modulo 2^32. -/
  | aluAdd (n : Fin 4) (v : Word)
  /-- ALU_SUB (R174). A write to ALU.SUB sets ALU.RES to O − v modulo 2^32. -/
  | aluSub (n : Fin 4) (v : Word)
  /-- ALU_AND (R174). A write to ALU.AND sets ALU.RES to O AND v. -/
  | aluAnd (n : Fin 4) (v : Word)
  /-- ALU_OR (R174). A write to ALU.OR sets ALU.RES to O OR v. -/
  | aluOr (n : Fin 4) (v : Word)
  /-- ALU_XOR (R174). A write to ALU.XOR sets ALU.RES to O XOR v. -/
  | aluXor (n : Fin 4) (v : Word)
  /-- ALU_SHL (R175). A write to ALU.SHL shifts O left by v[7:0], giving 0 at 32 or more. -/
  | aluShl (n : Fin 4) (v : Word)
  /-- ALU_SHR (R175). A write to ALU.SHR shifts O right logically by v[7:0]. -/
  | aluShr (n : Fin 4) (v : Word)
  /-- ALU_SAR (R175). A write to ALU.SAR shifts O right arithmetically by v[7:0]. -/
  | aluSar (n : Fin 4) (v : Word)
  /-- ALU_ROT (R174). A write to ALU.ROT rotates O left by v mod 32. -/
  | aluRot (n : Fin 4) (v : Word)
  /-- ALU_NEG (R176). A write to ALU.NEG sets ALU.RES to 0 − v and sets V for 0x8000_0000. -/
  | aluNeg (n : Fin 4) (v : Word)
  /-- ALU_MIN (R174). A write to ALU.MIN sets ALU.RES to the signed smaller of O and v. -/
  | aluMin (n : Fin 4) (v : Word)
  /-- ALU_MAX (R174). A write to ALU.MAX sets ALU.RES to the signed larger of O and v. -/
  | aluMax (n : Fin 4) (v : Word)
  /-- ALU_ADDS (R174). A write to ALU.ADDS sets ALU.RES to the saturated signed sum and sets V when it saturates. -/
  | aluAdds (n : Fin 4) (v : Word)
  /-- ALU_SUBS (R174). A write to ALU.SUBS sets ALU.RES to the saturated signed difference and sets V when it saturates. -/
  | aluSubs (n : Fin 4) (v : Word)
  /-- MUL_U (R177). A write to MUL.U forms the unsigned 64-bit product in MUL.LO and MUL.HI. -/
  | mulU (n : Fin 4) (v : Word)
  /-- MUL_S (R177). A write to MUL.S forms the signed 64-bit product in MUL.LO and MUL.HI. -/
  | mulS (n : Fin 4) (v : Word)
  /-- DIV_U (R178). A write to DIV.U divides O by v unsigned, with defined results and DZ for a zero divisor. -/
  | divU (n : Fin 4) (v : Word)
  /-- DIV_S (R178). A write to DIV.S divides O by v signed, truncating, with defined edge results. -/
  | divS (n : Fin 4) (v : Word)
  /-- CMP_T (R180). A write to CMP.T evaluates CMP.CFG's condition and updates the named predicate by MODE. -/
  | cmpT (n : Fin 4) (v : Word)
  /-- LD_W (R182). A write to LD.W loads a data-space word into LS.RES. -/
  | ldW (n : Fin 4) (v : Word)
  /-- LD_H (R182). A write to LD.H loads a zero-extended half-word into LS.RES. -/
  | ldH (n : Fin 4) (v : Word)
  /-- LD_B (R182). A write to LD.B loads a zero-extended byte into LS.RES. -/
  | ldB (n : Fin 4) (v : Word)
  /-- ST_W (R182). A write to ST.W stores LS.SD as a word at the given address. -/
  | stW (n : Fin 4) (v : Word)
  /-- ST_H (R182). A write to ST.H stores LS.SD[15:0] at the given address. -/
  | stH (n : Fin 4) (v : Word)
  /-- ST_B (R182). A write to ST.B stores LS.SD[7:0] at the given address. -/
  | stB (n : Fin 4) (v : Word)
  /-- IO_RD (R163). A write to IO.RD issues an I/O read after every earlier IO write of the LP has completed. -/
  | ioRd (n : Fin 4) (v : Word)
  /-- IO_WR (R163). A write to IO.WR posts an I/O write of IO.SD, stalling when 4 are outstanding. -/
  | ioWr (n : Fin 4) (v : Word)
  /-- IO_READ_COMPLETE (R163). An IO read completes and its value becomes available in IO.RES. -/
  | ioReadComplete (n : Fin 4)
  /-- POSTED_WRITE_COMPLETE (R163). The oldest posted IO write completes, releasing an IO.WR trigger stalled on the limit. -/
  | postedWriteComplete (n : Fin 4)
  /-- LOOP_REP (R186). A write to LOOP.REP makes the next word issued execute v[15:0] times. -/
  | loopRep (n : Fin 4) (v : Word)
  /-- BR_JMP (R184). A write to BR.JMP continues at word v mod 8,192. -/
  | brJmp (n : Fin 4) (v : Word)
  /-- BR_CALL (R184). A write to BR.CALL writes the return address into g31 and continues at v. -/
  | brCall (n : Fin 4) (v : Word)
  /-- BR_RET (R184). A write to BR.RET continues at g31 mod 8,192. -/
  | brRet (n : Fin 4) (v : Word)
  /-- BR_DBNZ (R185). A write to BR.DBNZ decrements LOOP.CNT and branches to v when the result is not 0. -/
  | brDbnz (n : Fin 4) (v : Word)
  /-- CR_ADDR (R189). A write to CR.ADDR reads an IMEM word into CR.RES. -/
  | crAddr (n : Fin 4) (v : Word)
  /-- BEAM_WAITL (R162). A write to BEAM.WAITL stalls the LP until the next start of master line v. -/
  | beamWaitl (n : Fin 4) (v : Word)
  /-- BEAM_WAITD (R162). A write to BEAM.WAITD stalls the LP until the next delivery of dot v of any master line. -/
  | beamWaitd (n : Fin 4) (v : Word)
  /-- BEAM_WAIT_WAKE (R162). The awaited line or dot is delivered, and the word after the wait issues at the second LPCLK edge. -/
  | beamWaitWake (n : Fin 4)
  /-- TQ_DATA (R164). A write to TQ.DATA enters one tagged entry into the selected pipe's timed write queue and steps TQ.ADDR. -/
  | tqData (n : Fin 4) (v : Word)
  /-- IRQ_WAIT (R168). A write to IRQ.WAIT stalls the LP until an interrupt entry begins. -/
  | irqWait (n : Fin 4)
  /-- IRQ_RET (R167). A write to IRQ.RET ends the running handler by chaining or by restoring the saved context. -/
  | irqRet (n : Fin 4)
  /-- INTERRUPT_ENTRY (R166). The LP saves its context, selects and acknowledges the most urgent request and vectors to its handler in 4 LPCLK. -/
  | interruptEntry (n : Fin 4)
  /-- LP_RUN (R171). Setting LPn_CTL.RUN checks the LP and makes it leave RESET at LPn_BOOT.ADDR after the ladder grant. -/
  | lpRun (src : Src) (n : Fin 4)
  /-- LP_RESET (R171). Clearing LPn_CTL.RUN returns the LP to RESET at its next word boundary. -/
  | lpReset (src : Src) (n : Fin 4)
  /-- LP_HALT (R172). Setting LPn_CTL.HALT stops the LP at its next word boundary and sets DEBUG. -/
  | lpHalt (src : Src) (n : Fin 4)
  /-- LP_RESUME (R172). Clearing LPn_CTL.HALT resumes issue at LPn_PC. -/
  | lpResume (src : Src) (n : Fin 4)
  /-- LP_STEP (R172). LPn_CTL.STEP issues exactly one word while the LP is halted. -/
  | lpStep (src : Src) (n : Fin 4)
  /-- LP_FAULT_CLEAR (R173). FCLR in FAULT clears LPn_FAULT and puts the LP in HALT at the faulting word. -/
  | lpFaultClear (src : Src) (n : Fin 4)
  /-- LP_PC_WRITE (R172). A write to LPn_PC while halted abandons any pending repeat and wait. -/
  | lpPcWrite (src : Src) (n : Fin 4) (v : Word)
  /-- IMEM_WRITE (R170). A host IMEM write is accepted only in RESET, HALT or FAULT, and is otherwise dropped with IMEMDROP set. -/
  | imemWrite (src : Src) (n : Fin 4) (i : Nat) (v : Word) (be : BitVec 4)
  /-- DEBUG_HALT (R172). A halt from the debug port stops the LP until the debug port releases it. -/
  | debugHalt (n : Fin 4)
  /-- BLIT_COPY (R196). A copy command moves source pixels to the destination rectangle in the ordered segments of R203. -/
  | blitCopy (q : Option (Fin 68)) (segs : Nat)
  /-- BLIT_FILL (R196). A fill command writes COLA to every written destination pixel. -/
  | blitFill (q : Option (Fin 68)) (segs : Nat)
  /-- BLIT_COLOUR_KEY_COPY (R196). A colour-key copy copies pixels except those that match the masked key. -/
  | blitColourKeyCopy (q : Option (Fin 68)) (segs : Nat)
  /-- BLIT_GLYPH_EXPANSION (R196). A glyph expansion writes COLA for 1 bits and COLB, or nothing, for 0 bits. -/
  | blitGlyphExpansion (q : Option (Fin 68)) (segs : Nat)
  /-- BLIT_COMPLETE (R200). A blit command ends, its completion or BL_RSTAT is written and event 96 or 97 is raised. -/
  | blitComplete
  /-- BL_ENABLE (R209). Setting BL_CTL.EN checks the surfaces and clips and applies them. -/
  | blEnable (src : Src)
  /-- BL_DISABLE (R207). Clearing BL_CTL.EN stops a running command after its segment with 0x19. -/
  | blDisable (src : Src)
  /-- BL_COMMIT (R209). BL_COMMIT.GO checks the shadow set and applies it at the end of the command in progress. -/
  | blCommit (src : Src)
  /-- SAMPLE_TICK (R213). At sample tick n, due commands apply, inputs are taken, voices and programs run and the output stages advance. -/
  | sampleTick (lateVoices : List LateFrame) (lateTaps : List (Nat × Nat))
  /-- VSTART (R217). VSTART makes a voice active from sample T with the payload's parameters. -/
  | vstart
  /-- VSET (R222). VSET changes a voice's pitch or gains, with a ramp, from sample T. -/
  | vset
  /-- VSTOP (R222). VSTOP ramps a voice's gains to 0 and ends it at T + RAMP. -/
  | vstop
  /-- GSET (R222). GSET ramps a graph gain to VALUE from sample T. -/
  | gset
  /-- BQSET (R235). BQSET loads a biquad section's coefficients, and optionally clears its state, at T. -/
  | bqset
  /-- PLOAD (R226). PLOAD reads a page image as master 10 into the named page when it is fetched. -/
  | pload (r : Fin 68)
  /-- PAGE_LOAD_COMPLETE (R226). The page image has been read; it is checked and marked valid, or refused with event 194. -/
  | pageLoadComplete
  /-- PSWAP (R234). PSWAP makes the valid non-active page the new page at T, with an optional crossfade. -/
  | pswap
  /-- SERIAL_INPUT_FRAME (R237). A serial input completes a frame, which becomes the input sample at the next tick. -/
  | serialInputFrame (m : Fin 2) (slots : List (BitVec 24))
  /-- MCLK_LOST (R212). AUD_MCLK shows no edge for 1 µs; sample ticks stop and event 198 is raised. -/
  | mclkLost
  /-- MCLK_RESTORED (R212). AUD_MCLK edges return and ticks resume at the next division boundary. -/
  | mclkRestored
  /-- AU_ENABLE (R241). Setting AU_CTL.EN checks audio, starts the sample clock and begins sample 0. -/
  | auEnable (src : Src) (mclkHz : Nat)
  /-- AU_DISABLE (R241). Clearing AU_CTL.EN stops every voice and empties the command queue. -/
  | auDisable (src : Src)
  /-- AU_COMMIT (R241). AU_COMMIT.GO checks the AU shadow fields and applies them at the next tick. -/
  | auCommit (src : Src)
  /-- MX_ENABLE (R241). Setting MX_CTL.EN enables the mix engine when audio is enabled. -/
  | mxEnable (src : Src)
  /-- MX_DISABLE (R241). Clearing MX_CTL.EN retires both pages at the next tick. -/
  | mxDisable (src : Src)
  /-- DELAY_LINE_WRITE (R232). A write to MX_DLYBASEd or MX_DLYLENd is dropped with 0x46 while a valid page names the line. -/
  | delayLineWrite (src : Src) (line : Fin 64) (len : Bool) (v : Word)
  /-- DOORBELL_POLL (R255). At a poll line, the host interface issues reads of both functions' doorbell pages. -/
  | doorbellPoll
  /-- DOORBELL_READ_COMPLETE (R255). The doorbell read returns, and its indices become the sample for the poll. -/
  | doorbellReadComplete (f : Fin 2) (words : List (Word))
  /-- DESCRIPTOR_ARRIVAL (R258). A fetched descriptor arrives whole and is passed to its engine, held, or refused. -/
  | descriptorArrival (r : Fin 68) (w : BitVec 512)
  /-- DEADLINE_RELEASE (R253). A descriptor held by DL = 1 is passed to its engine when the master timing reaches its deadline. -/
  | deadlineRelease (r : Fin 68)
  /-- COMPLETION_WRITE (R251). A completion entry is written as one posted write once the command's writes are complete and the queue has room. -/
  | completionWrite (r : Fin 68)
  /-- MBOX (R262). MBOX writes payload bytes into an LP's DMEM as master 0. -/
  | mbox (r : Fin 68)
  /-- HOST_READ_TIMEOUT (R265). A host read with no completion after 50 ms fails, raising event 504. -/
  | hostReadTimeout (which : HostRead)
  /-- STALL_TIMEOUT (R266). A completion or event-queue wait that lasts HI_STALLTO.MS raises event 504 once. -/
  | stallTimeout (which : StallSource)
  /-- PCIE_LINK_DOWN (R267). When the PCIe link goes down, every ring stops and event 7 is raised. -/
  | pcieLinkDown
  /-- HI_ENABLE (R270). Setting HI_CTL.EN checks the doorbell page and event queue and starts polling. -/
  | hiEnable (src : Src)
  /-- HI_COMMIT (R270). HI_COMMIT.GO applies HI_CFG at the next master frame start. -/
  | hiCommit (src : Src)
  /-- RING_ENABLE (R270). Setting HI_RINGn_CFG.EN checks the ring and starts it with HEAD 0. -/
  | ringEnable (src : Src) (r : Fin 68)
  /-- RING_DISABLE (R268). Clearing HI_RINGn_CFG.EN stops fetching and discards descriptors not yet passed. -/
  | ringDisable (src : Src) (r : Fin 68)
  /-- MEM_ENABLE (R273). Setting MEM_CTL.EN starts LPDDR5 initialisation, training and zeroing. -/
  | memEnable (src : Src)
  /-- MEM_READY (R273). Training and zeroing finish and MEM_STAT.READY becomes 1. -/
  | memReady (fail : BitVec 4) (density : Bool)
  /-- MEM_DISABLE (R296). Clearing MEM_CTL.EN is refused while a block that uses LPDDR5 is enabled. -/
  | memDisable (src : Src)
  /-- REFRESH (R273). The controller issues LPDDR5 refresh at the rate that MR4 requires. -/
  | refresh (code : BitVec 3)
  /-- LEAK_TICK (R280). Every EDC_LEAK.MS milliseconds, each nonzero counter group falls by 1. -/
  | leakTick
  /-- SCRUB_READ (R281). At its pace, the scrubber reads the next LPDDR5 block or SRAM word. -/
  | scrubRead (sram : Bool)
  /-- FLIP_ARM (R284). A write of EDC_FLIP_SEL with ARM = 1 arms the flip mask for the next write to that memory. -/
  | flipArm (src : Src) (v : Word)
  /-- AS_ENABLE (R285). Setting AS_CTL.EN reads the parameter pages and checks the flash geometry. -/
  | asEnable (src : Src) (badChip : Option (Fin 16)) (lunBlocks : Nat) (luns : Nat)
  /-- AREAD (R290). AREAD copies LEN bytes from the asset store to LPDDR5 through the remap table. -/
  | aread (r : Fin 68) (sectors : List SectorRead)
  /-- AREAD_COMPLETE (R290). An AREAD ends and its completion reports DONE, MAXCORR, RETRY and USECT. -/
  | areadComplete (sectors : List SectorRead)
  /-- PATROL_READ (R293). Every AS_PATROL.INT ms, the read-disturb patrol reads and decodes one page. -/
  | patrolRead (sectors : List SectorRead)
  /-- BLOCK_ERASE (R294). AS_PCMD OP 1 erases the block that a logical block maps to. -/
  | blockErase (src : Src) (lblock : BitVec 20)
  /-- PAGE_PROGRAM (R294). AS_PCMD OP 2 programs one page from the LPDDR5 buffer, with computed parity. -/
  | pageProgram (src : Src) (lblock : BitVec 20) (page : BitVec 10)
  /-- PCMD_COMPLETE (R294). A program or erase ends, and Read Status sets DONE or FAIL. -/
  | pcmdComplete (ok : Bool)
  /-- COPY (R300). A Flume COPY writes LEN bytes from the source region to the destination region. -/
  | copy (r : Fin 68) (upTo : Nat) (host : List Byte)
  /-- FILL (R300). A Flume FILL writes the VALUE constant over the destination region. -/
  | fill (r : Fin 68) (upTo : Nat) (host : List Byte)
  /-- COMPARE (R305). A Flume COMPARE reads both regions and stops at the first unequal byte. -/
  | compare (r : Fin 68) (upTo : Nat) (host : List Byte)
  /-- FLUME_DESCRIPTOR_COMPLETE (R302). A channel finishes a descriptor and writes its completion, raising 305 on a mismatch. -/
  | flumeDescriptorComplete (ch : Fin 32) (host : List Byte)
  /-- BUS_ERROR (R308). A Flume bus error stops every channel in STOPPED_BY_FAULT and raises event 304. -/
  | busError (e : FlumeFault)
  /-- CHANNEL_STOP (R306). FMn_CTL.STOP = 1 stops the channel after its current descriptor. -/
  | channelStop (src : Src) (ch : Fin 32)
  /-- CHANNEL_RUN (R306). FMn_CTL.STOP = 0 returns a stopped channel to RUN. -/
  | channelRun (src : Src) (ch : Fin 32)
  /-- RESUME (R309). FM_CTL.RESUME returns faulted channels to RUN or STOPPED and clears FM_FAULT. -/
  | resume (src : Src)
  /-- FM_ENABLE (R311). Setting FM_CTL.EN checks the chunk set and lets channels take descriptors. -/
  | fmEnable (src : Src)
  /-- FM_DISABLE (R311). Clearing FM_CTL.EN is refused while any channel has a descriptor in progress. -/
  | fmDisable (src : Src)
  /-- FM_COMMIT (R311). FM_COMMIT.GO checks and applies the FM shadow set at once. -/
  | fmCommit (src : Src)
  /-- FILTER_OUTPUT_CHANGE (R315). After N equal samples, a pin's filter output changes, and every consumer of the pin acts on it. -/
  | filterOutputChange (k : Fin 128) (level : Bool)
  /-- PIN_FUNCTION_CHANGE (R318). A PINk_FUNC write switches the pin's function at the next TCLK edge and restarts its filter. -/
  | pinFunctionChange (src : Src) (k : Fin 128) (v : Word)
  /-- GPIO_WRITE (R319). A PINk_GPIO write sets OUT and OE at the next TCLK edge. -/
  | gpioWrite (src : Src) (k : Fin 128) (v : Word)
  /-- PIN_OWNER_WRITE (R316). Master 1 writes a pin or pattern-unit owner, and may lock it until reset. -/
  | pinOwnerWrite (src : Src) (pat : Bool) (k : Fin 128) (v : Word)
  /-- PIN_COMMIT (R325). PIN_COMMIT.GO checks all enabled units and applies all pattern-unit shadow sets at the next edge. -/
  | pinCommit (src : Src)
  /-- ENCODER_COUNT_WRITE (R329). A write to ENCe_CNT sets the count at the next TCLK edge. -/
  | encoderCountWrite (src : Src) (e : Fin 8) (v : Word)
  /-- ADC_CONVERSION (R331). A conversion completes after 100 TCLK and updates the channel's averaged result and window flag. -/
  | adcConversion (code : BitVec 12)
  /-- PULSE_TOO_LONG (R333). A pulse still active past MAXW is rejected with cause LONG. -/
  | pulseTooLong (i : Fin 12)
  /-- WATCHER_TRIP (R337). A watcher's INACT or STUCK time is reached; it flags its source and raises event 504. -/
  | watcherTrip (k : Fin 16)
  /-- DRV_FIRE_START (R339). A DRV_FIRE write with STOP = 0 requests a coil start at the next line tick. -/
  | drvFireStart (src : Src) (o : Fin 64)
  /-- DRV_FIRE_STOP (R339). A DRV_FIRE write with STOP = 1 requests a coil stop at the next line tick. -/
  | drvFireStop (src : Src) (o : Fin 64)
  /-- PULSE_END (R341). After PULSE × 1,000 TCLK, a coil output enters hold. -/
  | pulseEnd (o : Fin 64)
  /-- COIL_WATCHDOG (R342). An output that has been on for MAXON ms is turned off, latches WDOG and raises event 497. -/
  | coilWatchdog (o : Fin 64)
  /-- LED_TRANSFER_END (R344). An LED string transfer ends after its reset time and raises event 498. -/
  | ledTransferEnd (k : Fin 8)
  /-- UART_TRANSMIT (R345). A byte pushed to UAu_DATA starts transmission at the next TCLK edge. -/
  | uartTransmit (src : Src) (u : Fin 4) (b : Byte)
  /-- UART_RECEIVE (R345). A received character enters the RX FIFO, or is lost with OVR when the FIFO is full. -/
  | uartReceive (u : Fin 4) (b : Byte) (perr : Bool) (ferr : Bool)
  /-- UART_DATA_READ (R345). A read of UAu_DATA pops the RX FIFO. -/
  | uartDataRead (src : Src) (u : Fin 4)
  /-- SPI_COMMAND (R346). SPIi_CMD.GO sends NWORDS words and reads as many into RX. -/
  | spiCommand (src : Src) (i : Fin 2) (v : Word)
  /-- SPI_COMMAND_END (R346). An SPI command ends and raises event 505. -/
  | spiCommandEnd (i : Fin 2) (rx : List (Word))
  /-- I2C_WRITE (R347). I2Ci_CMD.GO with READ = 0 writes LEN + 1 bytes to the target. -/
  | i2cWrite (src : Src) (i : Fin 2) (v : Word)
  /-- I2C_READ (R347). I2Ci_CMD.GO with READ = 1 reads LEN + 1 bytes from the target. -/
  | i2cRead (src : Src) (i : Fin 2) (v : Word)
  /-- I2C_COMMAND_END (R347). An I2C command ends, or fails by NACK or ARB, and raises event 505. -/
  | i2cCommandEnd (i : Fin 2) (err : I2cEnd) (rx : List Byte)
  /-- CLOCK_STRETCH_TIMEOUT (R347). Clock stretching beyond 25 ms sets TIMEOUT and sends a stop. -/
  | clockStretchTimeout (i : Fin 2)
  /-- IO_ENABLE (R326). An X_CTL write enables instances bit by bit after owner and consistency checks. -/
  | ioEnable (src : Src) (b : Fin 8) (v : Word)
  /-- IO_COMMIT (R349). X_COMMIT.GO checks and applies a sub-block's shadow set at its commit point. -/
  | ioCommit (src : Src) (b : Fin 8)
  /-- COMMIT (R355). A COMMIT descriptor runs a ledger commit: hold-up check, snapshot, erase and program of the next slot. -/
  | commit (r : Fin 68) (code : BitVec 12)
  /-- HCHECK (R358). An HCHECK descriptor performs the hold-up check alone and commits nothing. -/
  | hcheck (r : Fin 68) (code : BitVec 12)
  /-- LEDGER_COMMIT_COMPLETE (R355). A commit finishes its header page, applies the write queue and updates LG_SEQ and LG_SLOT. -/
  | ledgerCommitComplete (code : BitVec 12)
  /-- COMMIT_TIMEOUT (R357). A commit not finished within 6 ms of its snapshot is abandoned with 0x05. -/
  | commitTimeout (code : BitVec 12)
  /-- LEDGER_QUEUE_STALL_RELEASE (R352). A writer stalled on a full ledger write queue proceeds once the queue drains. -/
  | ledgerQueueStallRelease
  /-- LEDGER_STORE (R351). An LG_LPDATAm write with OP 0 stores the value in the addressed ledger word. -/
  | ledgerStore (m : Fin 4) (v : Word)
  /-- LEDGER_ADD (R351). An LG_LPDATAm write with OP 1 adds the value modulo 2^32 in one indivisible action. -/
  | ledgerAdd (m : Fin 4) (v : Word)
  /-- LEDGER_SATURATING_ADD (R351). An LG_LPDATAm write with OP 2 adds the value, saturating at 0xFFFF_FFFF. -/
  | ledgerSaturatingAdd (m : Fin 4) (v : Word)
  /-- LEDGER_PAIR_READ (R351). An LG_LPDATAm read returns the addressed word and optionally advances WORD. -/
  | ledgerPairRead (m : Fin 4)
  /-- PFAIL (R360). The PFAIL_N filter output falls, sealing the ledger, raising event 5 and starting an emergency commit if it is dirty. -/
  | pfail (code : BitVec 12)
  /-- UNSEAL (R360). LG_CTL.UNSEAL clears SEALED while PFAIL_N is high. -/
  | unseal (src : Src)
  /-- LEDGER_RESTORE (R361). After reset, the newest valid slot is read from flash into ledger SRAM, then function 1 reports ready. -/
  | ledgerRestore (slots : List SlotImage)
  /-- LG_ENABLE (R362). Setting LG_CTL.EN checks the ledger set and permits commits. -/
  | lgEnable (src : Src)
  /-- LG_COMMIT (R362). LG_COMMIT.GO checks the LG shadow set and applies it at once or at the end of a commit. -/
  | lgCommit (src : Src)
  /-- GL_ENABLE (R377). Setting GL_CTL.EN checks the Link set and starts the election. -/
  | glEnable (src : Src)
  /-- GL_DISABLE (R377). Clearing GL_CTL.EN stops GL_TX at once. -/
  | glDisable (src : Src)
  /-- GL_COMMIT (R377). GL_COMMIT.GO applies GL_CFG at the next master frame start. -/
  | glCommit (src : Src)
  /-- CLAIM_SEND (R365). Every 10 µs, a candidate sends a claim carrying its ID. -/
  | claimSend
  /-- CLAIM (R365). A received claim is forwarded or discarded by ID; a candidate that receives its own claim becomes master. -/
  | claim (id : Byte)
  /-- TRAINING_SET (R366). A training set is received; a slave takes its node number, or the master learns N and RTT and chooses S. -/
  | trainingSet (count : Nat) (rtt : Nat)
  /-- CONFIGURATION_SET (R366). The configuration set carrying N, RTT and S reaches each node. -/
  | configurationSet (nm1 : Fin 16) (rtt : BitVec 16) (scode : BitVec 2)
  /-- TRAINING_TIMEOUT (R366). Training that does not return within 1 ms fails with 0x02. -/
  | trainingTimeout
  /-- LINE_PACKET_SEND (R367). 200 CCLK after each master line start, the master starts that line's packet. -/
  | linePacketSend
  /-- LINE_PACKET (R368). A line packet arrives; a slave takes its reference line start and overwrites its own slot. -/
  | linePacket (pk : Packet)
  /-- MESSAGE_SEND (R372). GL_TXCTL.GO sends a 1–64 byte message in fragments from the next line tick. -/
  | messageSend (src : Src) (len : BitVec 7)
  /-- MESSAGE_POP (R372). GL_RXCTL.POP discards the head message of the receive queue. -/
  | messagePop (src : Src)
  /-- RESYNC (R373). GL_CTL.RESYNC retrains the ring on the master, adopts the header frame on a slave, or restarts election. -/
  | resync (src : Src)
  /-- TMR_GO (R381). A TMR_GO mask starts the named stopped timers at the next edge. -/
  | tmrGo (src : Src) (v : Word)
  /-- TMR_HALT (R381). A TMR_HALT mask stops the named running timers at the next edge. -/
  | tmrHalt (src : Src) (v : Word)
  /-- COUNT_LOAD (R379). A TMRn_CNT_LO write loads a stopped timer's count with the HI shadow. -/
  | countLoad (src : Src) (t : Fin 16) (v : Word)
  /-- COUNT_READ (R380). A read of TMRn_CNT_LO returns the low count and copies the high half for TMRn_CNT_HI. -/
  | countRead (src : Src) (t : Fin 16)
  /-- COUNT_WRAP (R378). The 48-bit count wraps to 0 and sets WRAP. -/
  | countWrap (t : Fin 16)
  /-- COMPARE_ARM (R383). A TMRn_CMPk_LO write sets V and arms the compare, judging a past V at the next edge. -/
  | compareArm (src : Src) (t : Fin 16) (k : Fin 4) (v : Word)
  /-- COMPARE_MATCH (R385). A compare matches; it rearms or disarms, acts on the output level, and may raise event 480 + n. -/
  | compareMatch (t : Fin 16) (k : Fin 4)
  /-- COMPARE_DISARM (R383). DISARM = 1 disarms the compare at the next edge. -/
  | compareDisarm (src : Src) (t : Fin 16) (k : Fin 4)
  /-- CAPTURE_PAIR_READ (R389). A read of TMRn_CAPR_LO copies the capture pair consistently and clears the NEW bits. -/
  | capturePairRead (src : Src) (t : Fin 16)
  /-- WEIR_TIMEOUT (R403). A Weir group reaches its time threshold and releases its pending sources. -/
  | weirTimeout (w : Fin 32)
  /-- WEIR_BYPASS (R404). A target becomes idle and releases every group that holds a source aimed at it. -/
  | weirBypass (tgt : Fin 6)
  /-- EVENT_ENTRY_WRITE (R406). The controller issues an event-queue entry for the most urgent source presented to a host function when the queue has room. -/
  | eventEntryWrite (f : Fin 2)
  /-- SOURCE_WRITE (R408). An IC_SRCn write is checked for target, lock and reserved bits, and takes effect at the next CCLK. -/
  | sourceWrite (src : Src) (e : Fin 512) (v : Word)
  /-- IC_COMMIT (R402). IC_COMMIT.GO checks and applies IC_CFG and the tier boundaries at the next CCLK. -/
  | icCommit (src : Src)
  /-- TABLE_WRITE (R417). An access-table write is checked against custody, lock and range, and takes effect at the next CCLK. -/
  | tableWrite (src : Src) (a : Nat) (v : Word)
  /-- CUSTODY_SET (R416). Master 1 sets PT_CUST bits, barring master 0 from those tables until reset. -/
  | custodySet (src : Src) (v : Word)
  /-- LOCK_SET (R416). Master 1 sets PT_LOCK bits, barring every master from those tables until reset. -/
  | lockSet (src : Src) (v : Word)
  /-- VIOLATION_LOG_CLEAR (R414). Clearing PT_VLOG.VALID clears MORE and CNT and re-arms the violation log. -/
  | violationLogClear (src : Src)
  /-- LADDER_SLOT (R426). At each 100-TCLK slot start, the ladder grants pending starts in index order while they fit 1.5 A. -/
  | ladderSlot
  /-- DIM (R430). A PWR_STATE request for DIM is carried out at the next master frame start. -/
  | dim (src : Src) (waketo : Bool)
  /-- RUN (R430). A PWR_STATE request for RUN from DIM restarts the ports through the ladder. -/
  | run (src : Src) (waketo : Bool)
  /-- HOLD (R430). A PWR_STATE request for HOLD is checked against its prerequisites. -/
  | hold (src : Src) (waketo : Bool)
  /-- HOLD_ENTRY (R430). Once every LP reaches a word boundary, the device enters HOLD and sets SYS_DET_STAT.HOLD. -/
  | holdEntry
  /-- WAKE (R432). An enabled wake source ends HOLD; clocks relock and the device enters the WAKETO state. -/
  | wake (cause : WakeCause)
  /-- OFF (R430). A PWR_STATE request for OFF schedules CORE_EN low 10 µs later. -/
  | off (src : Src) (waketo : Bool)
  /-- CORE_EN_FALL (R430). CORE_EN is driven low, removing groups 2 to 4 and entering OFF. -/
  | coreEnFall
  /-- POWER_ON_RESET (R434). A POR on VDD_AON resets everything and sets RSTCAUSE.POR. -/
  | powerOnReset
  /-- CORE_POWER_ON (R434). Leaving OFF, or a core PLL loss, resets everything outside the VDD_AON domain. -/
  | corePowerOn
  /-- SYS_RST_N (R434). SYS_RST_N held low for 1 µs resets the core. -/
  | sysRstN
  /-- PERST (R434). PERST# resets the core, or only the PCIe and HI state, as PERSTSCOPE selects. -/
  | perst
  /-- PLL_LOCK_LOST (R428). A running PLL loses lock and sets its LOST bit; loss of the core PLL resets the device. -/
  | pllLockLost (i : Fin 8) (relock : Bool)
  /-- F0_READY (R436). After the on-chip memories are cleared, F0RDY is set and function 0 answers configuration requests. -/
  | f0Ready
  /-- TEMPERATURE_READING (R437). Every 1 ms, the sensor reading raises the warning or starts a thermal trip. -/
  | temperatureReading (temp : BitVec 12)
  /-- THERMAL_TRIP (R437). TRIPDLY after a trip, coil outputs turn off, ports stop and CORE_EN falls. -/
  | thermalTrip
  /-- FREEZE (R439). The debug port stops CCLK and its derived clocks, and sets FROZEN and DEBUG. -/
  | freeze
  /-- THAW (R439). The device resumes from a freeze, including at once on a PFAIL_N fall. -/
  | thaw
  /-- DEBUG_ACCESS (R438). The debug port reads or writes through the fabric as master 13, even while frozen. -/
  | debugAccess (wr : Bool) (sp : DebugSpace) (a : Nat) (v : Word)
  /-- AUDIO_PLL_LOCK_TIMEOUT (R241). If the audio PLL has not locked 1 ms after AU_CTL.EN is set, the enable is refused with 0x45 and event 0. -/
  | audioPllLockTimeout
  /-- PCIE_LINK_UP (R267). The PCIe link returns, event 7 (PCIe link change) is raised, and the rings may be re-enabled. -/
  | pcieLinkUp
  /-- CONFIGURATION_REQUEST (R436). A PCIe configuration request gets Retry Status before its function is ready; once ready, it may change Bus Master Enable or wake the device from HOLD. -/
  | configurationRequest (f : Fin 2) (bme : Option Bool)
  /-- BAR_WRITE (R245). A host write through BAR2 or BAR4 lands in LPDDR5 or the frame store when it arrives, with read-modify-write, flip and violation rules applying. -/
  | barWrite (f : Fin 2) (bar : Bar) (a : Nat) (v : Word) (be : BitVec 4)
  /-- FABRIC_TIMEOUT (R41). An access that gets no response within the fabric timeout ends with event 2, and the issuing block reacts as its chapter states. -/
  | fabricTimeout (who : TimeoutVictim)
  /-- RESET_RELEASE (R435). At reset release the straps are sampled into PWR_STRAP and start-up begins. -/
  | resetRelease (straps : BitVec 4)
  /-- DEBUG_HALT_RELEASE (R172). The debug port releases its halt of an LP, and the LP resumes if LPn_CTL.HALT is 0. -/
  | debugHaltRelease (n : Fin 4)
  /-- DEBUG_RESET (R438). The debugger resets the device through the debug access port. -/
  | debugReset
  /-- COMMIT_FLASH_FAILURE (R355). A ledger commit whose erase or page program reports failure ends with 0x04, leaves the previous slot, raises event 503 and moves the next target on. -/
  | commitFlashFailure (code : BitVec 12)
  /-- PFAIL_N_RISE (R360). The PFAIL_N filter output rises, LG_STAT.PFAIL reads 1 and UNSEAL becomes possible. -/
  | pfailNRise
  /-- SLCK_RUNNING (R429). Once the AON domain counts 64 SLCK edges within 4 ms, CLK_STAT.SLCKOK becomes 1, which permits HOLD and SLCK counting in a freeze. -/
  | slckRunning
  /-- UART_TX_BYTE_END (R345). A character finishes transmitting, the next byte leaves the TX FIFO, and event 499 may be raised on TXLVL ≤ TXTH. -/
  | uartTxByteEnd (u : Fin 4)
  deriving DecidableEq, Repr

end Sys2Proof
end

