-- ==== Sys2Proof/Decode.lean ====
section
/-! DEFINITION. Words that spell commands, and the instruction words of the line processors. The command table gives no
row any bits, so no word spells a command. The instruction word of a line processor (R154) is decoded here and encoded
beside it; every 32-bit word decodes, and what a word may not do is judged on the decoded form (R156, R157). -/

namespace Sys2Proof

/-- The command a word spells by the bits of the command table: the table gives no bits (log entry 1). -/
def decodeTableWord (_nbits _w : Nat) : Option Instr := none

/-- The source of a long move: a 20-bit immediate, or a port with the 13 bits that must be 0. -/
inductive LongSrc where
  | imm (v : BitVec 20)
  | port (s : BitVec 7) (low : BitVec 13)
  deriving DecidableEq, Repr

/-- A short move (Table — Short move): the source is an immediate when `imm`, else a port. -/
structure ShortMove where
  dst : BitVec 7
  imm : Bool
  src : BitVec 7
  deriving DecidableEq, Repr

/-- An instruction word of a line processor (R154). -/
inductive LpWord where
  | long (guard : BitVec 3) (dst : BitVec 7) (src : LongSrc)
  | pair (g : Bool) (a b : ShortMove)
  deriving DecidableEq, Repr

/-- The short move in a 15-bit slot. -/
def decodeShort (w : BitVec 15) : ShortMove := ⟨w.extractLsb' 8 7, w.getLsbD 7, w.extractLsb' 0 7⟩

/-- The instruction that a word encodes (R154). -/
def decodeLp (w : Word) : LpWord :=
  if w.getLsbD 31 then .pair (w.getLsbD 15) (decodeShort (w.extractLsb' 16 15)) (decodeShort (w.extractLsb' 0 15))
  else
    .long (w.extractLsb' 28 3) (w.extractLsb' 21 7)
      (if w.getLsbD 20 then .imm (w.extractLsb' 0 20) else .port (w.extractLsb' 13 7) (w.extractLsb' 0 13))

/-- The slot of a short move. -/
def encodeShort (m : ShortMove) : BitVec 15 := m.dst ++ BitVec.ofBool m.imm ++ m.src

/-- The word of an instruction (R154). -/
def encodeLp : LpWord → Word
  | .pair g a b => BitVec.ofBool true ++ encodeShort a ++ BitVec.ofBool g ++ encodeShort b
  | .long gd dst (.imm v) => BitVec.ofBool false ++ gd ++ dst ++ BitVec.ofBool true ++ v
  | .long gd dst (.port s low) => BitVec.ofBool false ++ gd ++ dst ++ BitVec.ofBool false ++ s ++ low

end Sys2Proof
end

