-- ==== Sys2Proof/Machine/RegMap.lean ====
section
/-! DEFINITION. The register map of the FP7440: the address of every register of the index (24_register_index.md)
by name, and for each register word its writable, read-only, write-only, write-1-to-clear, write-1-to-set and
shadowed bits (R7) and its reset value, from the field tables of the chapters. A register is known by its key: its
function 0 BAR0 offset, or 0x1000_0000 plus its function 1 BAR0 offset where function 1 alone has it. -/

namespace Sys2Proof.Machine

/-- Function 1 only registers are keyed from here. -/
abbrev fn1Base : Nat := 0x10000000

namespace Reg

/-- SYS_ID (24, R455). -/
abbrev sysId : Nat := 0x0
/-- SYS_TBASE (02, R45). -/
abbrev sysTbase : Nat := 0x40
/-- SYS_COMMIT (02, R45). -/
abbrev sysCommit : Nat := 0x44
/-- SYS_CHK (02, R45). -/
abbrev sysChk : Nat := 0x48
/-- SYS_BEAM_LO (02, R45). -/
abbrev sysBeamLo : Nat := 0x50
/-- SYS_BEAM_HI (02, R45). -/
abbrev sysBeamHi : Nat := 0x54
/-- SYS_GLK_CFG (02, R45). -/
abbrev sysGlkCfg : Nat := 0x60
/-- SYS_GLK_STAT (02, R45). -/
abbrev sysGlkStat : Nat := 0x64
/-- SYS_TWQp_STAT (02, R45). -/
abbrev sysTwqStat (p : Nat) : Nat := 0x80 + 0x4 * p
/-- SYS_TWQp_LATE (02, R45). -/
abbrev sysTwqLate (p : Nat) : Nat := 0x88 + 0x4 * p
/-- SYS_DET_STAT (02, R45). -/
abbrev sysDetStat : Nat := 0x90
/-- PWR_STATE (22, R439). -/
abbrev pwrState : Nat := 0x100000
/-- PWR_CHK (22, R439). -/
abbrev pwrChk : Nat := 0x100008
/-- PWR_STAT (22, R439). -/
abbrev pwrStat : Nat := 0x10000c
/-- PWR_RSTCAUSE (22, R439). -/
abbrev pwrRstcause : Nat := 0x100010
/-- PWR_STRAP (22, R439). -/
abbrev pwrStrap : Nat := 0x100014
/-- PWR_CFG (22, R439). -/
abbrev pwrCfg : Nat := 0x100018
/-- PWR_WAKE (22, R439). -/
abbrev pwrWake : Nat := 0x10001c
/-- PWR_WAKESRC (22, R439). -/
abbrev pwrWakesrc : Nat := 0x100020
/-- PWR_LADLOG (22, R439). -/
abbrev pwrLadlog : Nat := 0x100024
/-- PWR_TEMP (22, R439). -/
abbrev pwrTemp : Nat := 0x100030
/-- PWR_THERM (22, R439). -/
abbrev pwrTherm : Nat := 0x100034
/-- CLK_STAT (22, R439). -/
abbrev clkStat : Nat := 0x101000
/-- PT_t_VALID (21, R423). -/
abbrev ptValid (t : Nat) : Nat := 0x200000 + 0x100 * t
/-- PT_t_REGr_RANGE (21, R423). -/
abbrev ptRange (t r : Nat) : Nat := 0x200080 + 0x100 * t + 0x8 * r
/-- PT_t_REGr_PERM (21, R423). -/
abbrev ptPerm (t r : Nat) : Nat := 0x200084 + 0x100 * t + 0x8 * r
/-- PT_CHK (21, R423). -/
abbrev ptChk : Nat := 0x202000
/-- PT_VLOG (21, R423). -/
abbrev ptVlog : Nat := 0x202010
/-- PT_VADDR_LO (21, R423). -/
abbrev ptVaddrLo : Nat := 0x202014
/-- PT_VADDR_HI (21, R423). -/
abbrev ptVaddrHi : Nat := 0x202018
/-- PT_CUST (21, R423). -/
abbrev ptCust : Nat := 0x10005f00
/-- PT_LOCK (21, R423). -/
abbrev ptLock : Nat := 0x10005f04
/-- IC_CTL (20, R408). -/
abbrev icCtl : Nat := 0x300000
/-- IC_COMMIT (20, R408). -/
abbrev icCommit : Nat := 0x300004
/-- IC_CHK (20, R408). -/
abbrev icChk : Nat := 0x300008
/-- IC_CFG (20, R408). -/
abbrev icCfg : Nat := 0x300010
/-- IC_TIER0 (20, R408). -/
abbrev icTier0 : Nat := 0x300014
/-- IC_TIER1 (20, R408). -/
abbrev icTier1 : Nat := 0x300018
/-- IC_THRm (20, R408). -/
abbrev icThr (m : Nat) : Nat := 0x300020 + 0x4 * m
/-- IC_RAWi (20, R408). -/
abbrev icRaw (i : Nat) : Nat := 0x300100 + 0x4 * i
/-- IC_PENDi (20, R408). -/
abbrev icPend (i : Nat) : Nat := 0x300140 + 0x4 * i
/-- IC_LPn_STAT (20, R408). -/
abbrev icLpStat (n : Nat) : Nat := 0x300180 + 0x4 * n
/-- IC_WEIRw (20, R408). -/
abbrev icWeir (w : Nat) : Nat := 0x300200 + 0x8 * w
/-- IC_WEIRw_STAT (20, R408). -/
abbrev icWeirStat (w : Nat) : Nat := 0x300204 + 0x8 * w
/-- IC_SRCn (20, R408). -/
abbrev icSrc (n : Nat) : Nat := 0x301000 + 0x4 * n
/-- IC_SRCLOCKi (20, R408). -/
abbrev icSrclock (i : Nat) : Nat := 0x10006400 + 0x4 * i
/-- HG_CTL (03, R63). -/
abbrev hgCtl : Nat := 0x400000
/-- HG_CHK (03, R63). -/
abbrev hgChk : Nat := 0x400004
/-- HG_BUDGETp (03, R63). -/
abbrev hgBudget (p : Nat) : Nat := 0x400010 + 0x20 * p
/-- HG_PERIODp (03, R63). -/
abbrev hgPeriod (p : Nat) : Nat := 0x400014 + 0x20 * p
/-- HG_WORSTp (03, R63). -/
abbrev hgWorst (p : Nat) : Nat := 0x400018 + 0x20 * p
/-- HG_LASTp (03, R63). -/
abbrev hgLast (p : Nat) : Nat := 0x40001c + 0x20 * p
/-- HG_LASTCOSTp (03, R63). -/
abbrev hgLastcost (p : Nat) : Nat := 0x400020 + 0x20 * p
/-- HG_PENDp (03, R63). -/
abbrev hgPend (p : Nat) : Nat := 0x400024 + 0x20 * p
/-- HG_ENVLOGp (03, R63). -/
abbrev hgEnvlog (p : Nat) : Nat := 0x400028 + 0x20 * p
/-- HG_WORSTLNp (03, R63). -/
abbrev hgWorstln (p : Nat) : Nat := 0x40002c + 0x20 * p
/-- HG_ENVp word i (03, R63). -/
abbrev hgEnv (p i : Nat) : Nat := 0x401000 + 0x200 * p + 0x4 * i
/-- TPp_CTL (04, R85). -/
abbrev tpCtl (p : Nat) : Nat := 0x500000 + 0x80000 * p
/-- TPp_COMMIT (04, R85). -/
abbrev tpCommit (p : Nat) : Nat := 0x500004 + 0x80000 * p
/-- TPp_CHK (04, R85). -/
abbrev tpChk (p : Nat) : Nat := 0x500008 + 0x80000 * p
/-- TPp_STAT (04, R85). -/
abbrev tpStat (p : Nat) : Nat := 0x50000c + 0x80000 * p
/-- TP_MAPADDRm (04, R85). -/
abbrev tpMapaddr (m : Nat) : Nat := 0x500040 + 0x8 * m
/-- TP_MAPDATAm (04, R85). -/
abbrev tpMapdata (m : Nat) : Nat := 0x500044 + 0x8 * m
/-- TPp_CFG (04, R85). -/
abbrev tpCfg (p k : Nat) : Nat := 0x500100 + 0x80000 * p + 0x40 * k
/-- TPp_MAPBASE (04, R85). -/
abbrev tpMapbase (p k : Nat) : Nat := 0x500104 + 0x80000 * p + 0x40 * k
/-- TPp_PATBASE (04, R85). -/
abbrev tpPatbase (p k : Nat) : Nat := 0x500108 + 0x80000 * p + 0x40 * k
/-- TPp_NTILES (04, R85). -/
abbrev tpNtiles (p k : Nat) : Nat := 0x50010c + 0x80000 * p + 0x40 * k
/-- TPp_PLTBASE (04, R85). -/
abbrev tpPltbase (p k : Nat) : Nat := 0x500110 + 0x80000 * p + 0x40 * k
/-- TPp_CSTBASE (04, R85). -/
abbrev tpCstbase (p k : Nat) : Nat := 0x500114 + 0x80000 * p + 0x40 * k
/-- TPp_SCROLL (04, R85). -/
abbrev tpScroll (p k : Nat) : Nat := 0x500120 + 0x80000 * p + 0x40 * k
/-- TPp_SCROLLV (04, R85). -/
abbrev tpScrollv (p k : Nat) : Nat := 0x500124 + 0x80000 * p + 0x40 * k
/-- TPp_SCALEX (04, R85). -/
abbrev tpScalex (p k : Nat) : Nat := 0x500128 + 0x80000 * p + 0x40 * k
/-- TPp_SCALEY (04, R85). -/
abbrev tpScaley (p k : Nat) : Nat := 0x50012c + 0x80000 * p + 0x40 * k
/-- TPp_WIN (04, R85). -/
abbrev tpWin (p k : Nat) : Nat := 0x500130 + 0x80000 * p + 0x40 * k
/-- SPp_CTL (05, R108). -/
abbrev spCtl (p : Nat) : Nat := 0x600000 + 0x4000 * p
/-- SPp_COMMIT (05, R108). -/
abbrev spCommit (p : Nat) : Nat := 0x600004 + 0x4000 * p
/-- SPp_CHK (05, R108). -/
abbrev spChk (p : Nat) : Nat := 0x600008 + 0x4000 * p
/-- SPp_STAT (05, R108). -/
abbrev spStat (p : Nat) : Nat := 0x60000c + 0x4000 * p
/-- SPp_CFG (05, R108). -/
abbrev spCfg (p : Nat) : Nat := 0x600010 + 0x4000 * p
/-- SPp_HEAD01/23 (05, R108). -/
abbrev spHead (p i : Nat) : Nat := 0x600020 + 0x4000 * p + 0x4 * i
/-- SPp_SLFAULTk (05, R108). -/
abbrev spSlfault (p k : Nat) : Nat := 0x600040 + 0x4000 * p + 0x4 * k
/-- SP_WINSEL (05, R108). -/
abbrev spWinsel : Nat := 0x608000
/-- SPp_SLSRCb (05, R108). -/
abbrev spSlsrc (p b : Nat) : Nat := 0x602000 + 0x4000 * p + 0x20 * b
/-- SPp_SLGAINb (05, R108). -/
abbrev spSlgain (p b : Nat) : Nat := 0x602004 + 0x4000 * p + 0x20 * b
/-- SPp_SLXOFFb (05, R108). -/
abbrev spSlxoff (p b : Nat) : Nat := 0x602008 + 0x4000 * p + 0x20 * b
/-- SPp_SLYOFFb (05, R108). -/
abbrev spSlyoff (p b : Nat) : Nat := 0x60200c + 0x4000 * p + 0x20 * b
/-- SPp_SLXLIMb (05, R108). -/
abbrev spSlxlim (p b : Nat) : Nat := 0x602010 + 0x4000 * p + 0x20 * b
/-- SPp_SLYLIMb (05, R108). -/
abbrev spSlylim (p b : Nat) : Nat := 0x602014 + 0x4000 * p + 0x20 * b
/-- SPp_SLXVALb (05, R108). -/
abbrev spSlxval (p b : Nat) : Nat := 0x602018 + 0x4000 * p + 0x20 * b
/-- SPp_SLYVALb (05, R108). -/
abbrev spSlyval (p b : Nat) : Nat := 0x60201c + 0x4000 * p + 0x20 * b
/-- CMPp_CTL (06, R124). -/
abbrev cmpCtl (p : Nat) : Nat := 0x700000 + 0x80000 * p
/-- CMPp_COMMIT (06, R124). -/
abbrev cmpCommit (p : Nat) : Nat := 0x700004 + 0x80000 * p
/-- CMPp_CHK (06, R124). -/
abbrev cmpChk (p : Nat) : Nat := 0x700008 + 0x80000 * p
/-- CMPp_STAT (06, R124). -/
abbrev cmpStat (p : Nat) : Nat := 0x70000c + 0x80000 * p
/-- CMPp_BGCOL (06, R124). -/
abbrev cmpBgcol (p : Nat) : Nat := 0x700010 + 0x80000 * p
/-- CMPp_CULL (06, R124). -/
abbrev cmpCull (p : Nat) : Nat := 0x700014 + 0x80000 * p
/-- CMPp_LAYk (06, R124). -/
abbrev cmpLay (p k : Nat) : Nat := 0x700040 + 0x80000 * p + 0x4 * k
/-- CMPp_BMj_CFG (06, R124). -/
abbrev cmpBmCfg (p j : Nat) : Nat := 0x700100 + 0x80000 * p + 0x40 * j
/-- CMPp_BMj_BASE (06, R124). -/
abbrev cmpBmBase (p j : Nat) : Nat := 0x700104 + 0x80000 * p + 0x40 * j
/-- CMPp_BMj_PITCH (06, R124). -/
abbrev cmpBmPitch (p j : Nat) : Nat := 0x700108 + 0x80000 * p + 0x40 * j
/-- CMPp_BMj_SIZE (06, R124). -/
abbrev cmpBmSize (p j : Nat) : Nat := 0x70010c + 0x80000 * p + 0x40 * j
/-- CMPp_BMj_SCROLL (06, R124). -/
abbrev cmpBmScroll (p j : Nat) : Nat := 0x700120 + 0x80000 * p + 0x40 * j
/-- CMPp_BMj_SCROLLV (06, R124). -/
abbrev cmpBmScrollv (p j : Nat) : Nat := 0x700124 + 0x80000 * p + 0x40 * j
/-- CMPp_BMj_SCALEX (06, R124). -/
abbrev cmpBmScalex (p j : Nat) : Nat := 0x700128 + 0x80000 * p + 0x40 * j
/-- CMPp_BMj_SCALEY (06, R124). -/
abbrev cmpBmScaley (p j : Nat) : Nat := 0x70012c + 0x80000 * p + 0x40 * j
/-- CMPp_BMj_WIN (06, R124). -/
abbrev cmpBmWin (p j : Nat) : Nat := 0x700130 + 0x80000 * p + 0x40 * j
/-- SO_x_CTL (07, R150). -/
abbrev soCtl (x : Nat) : Nat := 0x800000 + 0x1000 * x
/-- SO_x_COMMIT (07, R150). -/
abbrev soCommit (x : Nat) : Nat := 0x800004 + 0x1000 * x
/-- SO_x_CHK (07, R150). -/
abbrev soChk (x : Nat) : Nat := 0x800008 + 0x1000 * x
/-- SO_x_STAT (07, R150). -/
abbrev soStat (x : Nat) : Nat := 0x80000c + 0x1000 * x
/-- SO_x_CFG (07, R150). -/
abbrev soCfg (x : Nat) : Nat := 0x800010 + 0x1000 * x
/-- SO_x_FSBASE (07, R150). -/
abbrev soFsbase (x : Nat) : Nat := 0x800014 + 0x1000 * x
/-- SO_x_DOTCLK (07, R150). -/
abbrev soDotclk (x : Nat) : Nat := 0x800018 + 0x1000 * x
/-- SO_x_HTIM (07, R150). -/
abbrev soHtim (x : Nat) : Nat := 0x80001c + 0x1000 * x
/-- SO_x_HSYNC (07, R150). -/
abbrev soHsync (x : Nat) : Nat := 0x800020 + 0x1000 * x
/-- SO_x_VTIM (07, R150). -/
abbrev soVtim (x : Nat) : Nat := 0x800024 + 0x1000 * x
/-- SO_x_VSYNC (07, R150). -/
abbrev soVsync (x : Nat) : Nat := 0x800028 + 0x1000 * x
/-- SO_x_DP (07, R150). -/
abbrev soDp (x : Nat) : Nat := 0x80002c + 0x1000 * x
/-- SO_x_LINK (07, R150). -/
abbrev soLink (x : Nat) : Nat := 0x800030 + 0x1000 * x
/-- SO_x_AUXCMD (07, R150). -/
abbrev soAuxcmd (x : Nat) : Nat := 0x800040 + 0x1000 * x
/-- SO_x_AUXSTAT (07, R150). -/
abbrev soAuxstat (x : Nat) : Nat := 0x800044 + 0x1000 * x
/-- SO_x_AUXDATAi (07, R150). -/
abbrev soAuxdata (x i : Nat) : Nat := 0x800048 + 0x1000 * x + 0x4 * i
/-- SO_x_AUD (07, R150). -/
abbrev soAud (x : Nat) : Nat := 0x800060 + 0x1000 * x
/-- SO_x_INFO (07, R150). -/
abbrev soInfo (x : Nat) : Nat := 0x800064 + 0x1000 * x
/-- SO_x_LMm (07, R150). -/
abbrev soLm (x m : Nat) : Nat := 0x800080 + 0x1000 * x + 0x4 * m
/-- SO_x_CRCEN (07, R150). -/
abbrev soCrcen (x : Nat) : Nat := 0x8000f0 + 0x1000 * x
/-- SO_x_CRCFAIL (07, R150). -/
abbrev soCrcfail (x : Nat) : Nat := 0x8000f4 + 0x1000 * x
/-- SO_x_CRCrX (07, R150). -/
abbrev soCrcx (x r : Nat) : Nat := 0x800100 + 0x1000 * x + 0x10 * r
/-- SO_x_CRCrY (07, R150). -/
abbrev soCrcy (x r : Nat) : Nat := 0x800104 + 0x1000 * x + 0x10 * r
/-- SO_x_CRCrEXP (07, R150). -/
abbrev soCrcexp (x r : Nat) : Nat := 0x800108 + 0x1000 * x + 0x10 * r
/-- SO_x_CRCrVAL (07, R150). -/
abbrev soCrcval (x r : Nat) : Nat := 0x80010c + 0x1000 * x + 0x10 * r
/-- SO_C_GAMMA (07, R150). -/
abbrev soGamma (g c e : Nat) : Nat := 0x803000 + 0xc00 * g + 0x400 * c + 0x4 * e
/-- LPn_CTL (08, R173). -/
abbrev lpCtl (n : Nat) : Nat := 0x900000 + 0x40000 * n
/-- LPn_CHK (08, R173). -/
abbrev lpChk (n : Nat) : Nat := 0x900004 + 0x40000 * n
/-- LPn_STAT (08, R173). -/
abbrev lpStat (n : Nat) : Nat := 0x900008 + 0x40000 * n
/-- LPn_FAULT (08, R173). -/
abbrev lpFault (n : Nat) : Nat := 0x90000c + 0x40000 * n
/-- LPn_CFG (08, R173). -/
abbrev lpCfg (n : Nat) : Nat := 0x900010 + 0x40000 * n
/-- LPn_BOOT (08, R173). -/
abbrev lpBoot (n : Nat) : Nat := 0x900014 + 0x40000 * n
/-- LPn_PC (08, R173). -/
abbrev lpPc (n : Nat) : Nat := 0x900018 + 0x40000 * n
/-- LPn_GREGk (08, R173). -/
abbrev lpGreg (n k : Nat) : Nat := 0x900100 + 0x40000 * n + 0x4 * k
/-- LPn_PRED (08, R173). -/
abbrev lpPred (n : Nat) : Nat := 0x900180 + 0x40000 * n
/-- BL_CTL (10, R209). -/
abbrev blCtl : Nat := 0xa00000
/-- BL_COMMIT (10, R209). -/
abbrev blCommit : Nat := 0xa00004
/-- BL_CHK (10, R209). -/
abbrev blChk : Nat := 0xa00008
/-- BL_CFG (10, R209). -/
abbrev blCfg : Nat := 0xa0000c
/-- BL_STAT (10, R209). -/
abbrev blStat : Nat := 0xa00010
/-- BL_FAULT (10, R209). -/
abbrev blFault : Nat := 0xa00014
/-- BL_FADDR_LO (10, R209). -/
abbrev blFaddrLo : Nat := 0xa00018
/-- BL_FADDR_HI (10, R209). -/
abbrev blFaddrHi : Nat := 0xa0001c
/-- BL_ROP (10, R209). -/
abbrev blRop : Nat := 0xa00040
/-- BL_RSRC (10, R209). -/
abbrev blRsrc : Nat := 0xa00044
/-- BL_RDST (10, R209). -/
abbrev blRdst : Nat := 0xa00048
/-- BL_RSIZE (10, R209). -/
abbrev blRsize : Nat := 0xa0004c
/-- BL_RCOLA (10, R209). -/
abbrev blRcola : Nat := 0xa00050
/-- BL_RCOLB (10, R209). -/
abbrev blRcolb : Nat := 0xa00054
/-- BL_GO (10, R209). -/
abbrev blGo : Nat := 0xa00058
/-- BL_RSTAT (10, R209). -/
abbrev blRstat : Nat := 0xa0005c
/-- BL_CLIPk_X (10, R209). -/
abbrev blClipX (k : Nat) : Nat := 0xa00100 + 0x8 * k
/-- BL_CLIPk_Y (10, R209). -/
abbrev blClipY (k : Nat) : Nat := 0xa00104 + 0x8 * k
/-- BL_SURFk_CFG (10, R209). -/
abbrev blSurfCfg (k : Nat) : Nat := 0xa00200 + 0x10 * k
/-- BL_SURFk_BASE (10, R209). -/
abbrev blSurfBase (k : Nat) : Nat := 0xa00204 + 0x10 * k
/-- BL_SURFk_PITCH (10, R209). -/
abbrev blSurfPitch (k : Nat) : Nat := 0xa00208 + 0x10 * k
/-- BL_SURFk_SIZE (10, R209). -/
abbrev blSurfSize (k : Nat) : Nat := 0xa0020c + 0x10 * k
/-- AU_CTL (11, R241). -/
abbrev auCtl : Nat := 0xb00000
/-- AU_COMMIT (11, R241). -/
abbrev auCommit : Nat := 0xb00004
/-- AU_CHK (11, R241). -/
abbrev auChk : Nat := 0xb00008
/-- AU_STAT (11, R241). -/
abbrev auStat : Nat := 0xb0000c
/-- AU_CLK (11, R241). -/
abbrev auClk : Nat := 0xb00010
/-- AU_SAMP_LO (11, R241). -/
abbrev auSampLo : Nat := 0xb00018
/-- AU_SAMP_HI (11, R241). -/
abbrev auSampHi : Nat := 0xb0001c
/-- AU_BLKTICK (11, R241). -/
abbrev auBlktick : Nat := 0xb00020
/-- AU_LATE (11, R241). -/
abbrev auLate : Nat := 0xb00024
/-- AU_SOn_CFG (11, R241). -/
abbrev auSoCfg (n : Nat) : Nat := 0xb00040 + 0x4 * n
/-- AU_SIm_CFG (11, R241). -/
abbrev auSiCfg (m : Nat) : Nat := 0xb00050 + 0x4 * m
/-- AU_SISTAT (11, R241). -/
abbrev auSistat : Nat := 0xb00058
/-- AU_CULk_CFG (11, R241). -/
abbrev auCulCfg (k : Nat) : Nat := 0xb00060 + 0xc * k
/-- AU_CULk_MLO (11, R241). -/
abbrev auCulMlo (k : Nat) : Nat := 0xb00064 + 0xc * k
/-- AU_CULk_MHI (11, R241). -/
abbrev auCulMhi (k : Nat) : Nat := 0xb00068 + 0xc * k
/-- AU_VENDk (11, R241). -/
abbrev auVend (k : Nat) : Nat := 0xb00100 + 0x4 * k
/-- AU_VACTk (11, R241). -/
abbrev auVact (k : Nat) : Nat := 0xb00120 + 0x4 * k
/-- MX_CTL (11, R241). -/
abbrev mxCtl : Nat := 0xc00000
/-- MX_CHK (11, R241). -/
abbrev mxChk : Nat := 0xc00008
/-- MX_STAT (11, R241). -/
abbrev mxStat : Nat := 0xc0000c
/-- MX_XFADE (11, R241). -/
abbrev mxXfade : Nat := 0xc00010
/-- MX_LIMIT (11, R241). -/
abbrev mxLimit : Nat := 0xc00014
/-- MX_PAGEi (11, R241). -/
abbrev mxPage (i : Nat) : Nat := 0xc00020 + 0x4 * i
/-- MX_DLYBASEd (11, R241). -/
abbrev mxDlybase (d : Nat) : Nat := 0xc00400 + 0x8 * d
/-- MX_DLYLENd (11, R241). -/
abbrev mxDlylen (d : Nat) : Nat := 0xc00404 + 0x8 * d
/-- HI_CTL (function f) (12, R270). -/
abbrev hiCtl (f : Nat) : Nat := (if f = 0 then 0xd00000 else 0x10008000)
/-- HI_COMMIT (function f) (12, R270). -/
abbrev hiCommit (f : Nat) : Nat := (if f = 0 then 0xd00004 else 0x10008004)
/-- HI_CHK (function f) (12, R270). -/
abbrev hiChk (f : Nat) : Nat := (if f = 0 then 0xd00008 else 0x10008008)
/-- HI_STAT (function f) (12, R270). -/
abbrev hiStat (f : Nat) : Nat := (if f = 0 then 0xd0000c else 0x1000800c)
/-- HI_CFG (function f) (12, R270). -/
abbrev hiCfg (f : Nat) : Nat := (if f = 0 then 0xd00010 else 0x10008010)
/-- HI_DBBASE_LO (function f) (12, R270). -/
abbrev hiDbbaseLo (f : Nat) : Nat := (if f = 0 then 0xd00018 else 0x10008018)
/-- HI_DBBASE_HI (function f) (12, R270). -/
abbrev hiDbbaseHi (f : Nat) : Nat := (if f = 0 then 0xd0001c else 0x1000801c)
/-- HI_EQBASE_LO (function f) (12, R270). -/
abbrev hiEqbaseLo (f : Nat) : Nat := (if f = 0 then 0xd00020 else 0x10008020)
/-- HI_EQBASE_HI (function f) (12, R270). -/
abbrev hiEqbaseHi (f : Nat) : Nat := (if f = 0 then 0xd00024 else 0x10008024)
/-- HI_EQCFG (function f) (12, R270). -/
abbrev hiEqcfg (f : Nat) : Nat := (if f = 0 then 0xd00028 else 0x10008028)
/-- HI_STALLTO (function f) (12, R270). -/
abbrev hiStallto (f : Nat) : Nat := (if f = 0 then 0xd0002c else 0x1000802c)
/-- HI_BAR2BASE (12, R270). -/
abbrev hiBar2base : Nat := 0xd00030
/-- HI_RINGn_BASE_LO (12, R270). -/
abbrev hiRingBaseLo (r : Nat) : Nat := if r < 64 then 0xD01000 + 0x20 * r + 0x0 else 0x10009000 + 0x20 * (r - 64) + 0x0
/-- HI_RINGn_BASE_HI (12, R270). -/
abbrev hiRingBaseHi (r : Nat) : Nat := if r < 64 then 0xD01000 + 0x20 * r + 0x4 else 0x10009000 + 0x20 * (r - 64) + 0x4
/-- HI_RINGn_CQ_LO (12, R270). -/
abbrev hiRingCqLo (r : Nat) : Nat := if r < 64 then 0xD01000 + 0x20 * r + 0x8 else 0x10009000 + 0x20 * (r - 64) + 0x8
/-- HI_RINGn_CQ_HI (12, R270). -/
abbrev hiRingCqHi (r : Nat) : Nat := if r < 64 then 0xD01000 + 0x20 * r + 0xc else 0x10009000 + 0x20 * (r - 64) + 0xc
/-- HI_RINGn_CFG (12, R270). -/
abbrev hiRingCfg (r : Nat) : Nat := if r < 64 then 0xD01000 + 0x20 * r + 0x10 else 0x10009000 + 0x20 * (r - 64) + 0x10
/-- HI_RINGn_HEAD (12, R270). -/
abbrev hiRingHead (r : Nat) : Nat := if r < 64 then 0xD01000 + 0x20 * r + 0x14 else 0x10009000 + 0x20 * (r - 64) + 0x14
/-- HI_RINGn_STAT (12, R270). -/
abbrev hiRingStat (r : Nat) : Nat := if r < 64 then 0xD01000 + 0x20 * r + 0x18 else 0x10009000 + 0x20 * (r - 64) + 0x18
/-- MSI-X table word i (function f) (24, R247). -/
abbrev hiMsixT (f i : Nat) : Nat := (if f = 0 then 0xd08000 else 0x1000e000) + 0x4 * i
/-- MSI-X pending-bit array word i (function f) (24, R247). -/
abbrev hiMsixP (f i : Nat) : Nat := (if f = 0 then 0xd09000 else 0x1000f000) + 0x4 * i
/-- MEM_CTL (13, R296). -/
abbrev memCtl : Nat := 0xe00000
/-- MEM_CHK (13, R296). -/
abbrev memChk : Nat := 0xe00008
/-- MEM_STAT (13, R296). -/
abbrev memStat : Nat := 0xe0000c
/-- MEM_CFG (13, R296). -/
abbrev memCfg : Nat := 0xe00010
/-- MEM_CAP (13, R296). -/
abbrev memCap : Nat := 0xe00014
/-- EDC_CNTg (13, R296). -/
abbrev edcCnt (g : Nat) : Nat := 0xe01000 + 0x10 * g
/-- EDC_LOGg_ADDR (13, R296). -/
abbrev edcLogAddr (g : Nat) : Nat := 0xe01004 + 0x10 * g
/-- EDC_LOGg_SRC (13, R296). -/
abbrev edcLogSrc (g : Nat) : Nat := 0xe01008 + 0x10 * g
/-- EDC_UE (13, R296). -/
abbrev edcUe : Nat := 0xe01040
/-- EDC_UE_ADDR (13, R296). -/
abbrev edcUeAddr : Nat := 0xe01044
/-- EDC_LEAK (13, R296). -/
abbrev edcLeak : Nat := 0xe01050
/-- EDC_FLIP_SEL (13, R296). -/
abbrev edcFlipSel : Nat := 0xe01060
/-- EDC_FLIP_DLO (13, R296). -/
abbrev edcFlipDlo : Nat := 0xe01064
/-- EDC_FLIP_DHI (13, R296). -/
abbrev edcFlipDhi : Nat := 0xe01068
/-- EDC_FLIP_C (13, R296). -/
abbrev edcFlipC : Nat := 0xe0106c
/-- EDC_SCRUB (13, R296). -/
abbrev edcScrub : Nat := 0xe01070
/-- EDC_SCRUBSTAT (13, R296). -/
abbrev edcScrubstat : Nat := 0xe01074
/-- AS_CTL (13, R296). -/
abbrev asCtl : Nat := 0xf00000
/-- AS_CHK (13, R296). -/
abbrev asChk : Nat := 0xf00008
/-- AS_CFG (13, R296). -/
abbrev asCfg : Nat := 0xf00010
/-- AS_GEOM (13, R296). -/
abbrev asGeom : Nat := 0xf00014
/-- AS_REMAPBASE (13, R296). -/
abbrev asRemapbase : Nat := 0xf00018
/-- AS_PATROL (13, R296). -/
abbrev asPatrol : Nat := 0xf0001c
/-- AS_HCLOG (13, R296). -/
abbrev asHclog : Nat := 0xf00020
/-- AS_LGPART (13, R296). -/
abbrev asLgpart : Nat := 0xf00030
/-- AS_LGPFX (13, R296). -/
abbrev asLgpfx : Nat := 0xf00034
/-- AS_PCMD (13, R296). -/
abbrev asPcmd : Nat := 0xf00040
/-- AS_PBUF (13, R296). -/
abbrev asPbuf : Nat := 0xf00044
/-- AS_PSTAT (13, R296). -/
abbrev asPstat : Nat := 0xf00048
/-- FM_CTL (14, R311). -/
abbrev fmCtl : Nat := 0x1000000
/-- FM_COMMIT (14, R311). -/
abbrev fmCommit : Nat := 0x1000004
/-- FM_CHK (14, R311). -/
abbrev fmChk : Nat := 0x1000008
/-- FM_STAT (14, R311). -/
abbrev fmStat : Nat := 0x100000c
/-- FM_FAULT (14, R311). -/
abbrev fmFault : Nat := 0x1000010
/-- FM_FADDR_LO (14, R311). -/
abbrev fmFaddrLo : Nat := 0x1000014
/-- FM_FADDR_HI (14, R311). -/
abbrev fmFaddrHi : Nat := 0x1000018
/-- FMn_CFG (14, R311). -/
abbrev fmnCfg (n : Nat) : Nat := 0x1001000 + 0x10 * n
/-- FMn_CTL (14, R311). -/
abbrev fmnCtl (n : Nat) : Nat := 0x1001004 + 0x10 * n
/-- FMn_STAT (14, R311). -/
abbrev fmnStat (n : Nat) : Nat := 0x1001008 + 0x10 * n
/-- FMn_DONE (14, R311). -/
abbrev fmnDone (n : Nat) : Nat := 0x100100c + 0x10 * n
/-- PIN_COMMIT (15, R325). -/
abbrev pinCommit : Nat := 0x1100004
/-- PIN_CHK (15, R325). -/
abbrev pinChk : Nat := 0x1100008
/-- PIN_CONFLICTi (15, R325). -/
abbrev pinConflict (i : Nat) : Nat := 0x1100010 + 0x4 * i
/-- PIN_INi (15, R325). -/
abbrev pinIn (i : Nat) : Nat := 0x1100020 + 0x4 * i
/-- PIN_PATu_CFG (15, R325). -/
abbrev pinPatCfg (u : Nat) : Nat := 0x1100100 + 0x10 * u
/-- PIN_PATu_MASK (15, R325). -/
abbrev pinPatMask (u : Nat) : Nat := 0x1100104 + 0x10 * u
/-- PIN_PATu_VAL (15, R325). -/
abbrev pinPatVal (u : Nat) : Nat := 0x1100108 + 0x10 * u
/-- PIN_PATu_STAT (15, R325). -/
abbrev pinPatStat (u : Nat) : Nat := 0x110010c + 0x10 * u
/-- PINk_FUNC (15, R325). -/
abbrev pinkFunc (k : Nat) : Nat := 0x1101000 + 0x10 * k
/-- PINk_CFG (15, R325). -/
abbrev pinkCfg (k : Nat) : Nat := 0x1101004 + 0x10 * k
/-- PINk_GPIO (15, R325). -/
abbrev pinkGpio (k : Nat) : Nat := 0x1101008 + 0x10 * k
/-- PINk_STAT (15, R325). -/
abbrev pinkStat (k : Nat) : Nat := 0x110100c + 0x10 * k
/-- PIN_OWNk (15, R325). -/
abbrev pinOwn (k : Nat) : Nat := 0x10006000 + 0x4 * k
/-- PIN_PATOWNu (15, R325). -/
abbrev pinPatown (u : Nat) : Nat := 0x10006200 + 0x4 * u
/-- X_CTL of sub-block s (16, R349). -/
abbrev ioCtl (s : Nat) : Nat := 0x1200000 + 0x10000 * s
/-- X_COMMIT of sub-block s (16, R349). -/
abbrev ioCommit (s : Nat) : Nat := 0x1200004 + 0x10000 * s
/-- X_CHK of sub-block s (16, R349). -/
abbrev ioChk (s : Nat) : Nat := 0x1200008 + 0x10000 * s
/-- CIO_COINi_CFG (16, R349). -/
abbrev cioCoinCfg (i : Nat) : Nat := 0x1200100 + 0x10 * i
/-- CIO_COINi_GAP (16, R349). -/
abbrev cioCoinGap (i : Nat) : Nat := 0x1200104 + 0x10 * i
/-- CIO_COINi_ACC (16, R349). -/
abbrev cioCoinAcc (i : Nat) : Nat := 0x1200108 + 0x10 * i
/-- CIO_COINi_STAT (16, R349). -/
abbrev cioCoinStat (i : Nat) : Nat := 0x120010c + 0x10 * i
/-- CIO_TOk_CFG (16, R349). -/
abbrev cioTo (k : Nat) : Nat := 0x1200200 + 0x4 * k
/-- CIO_TOSTAT (16, R349). -/
abbrev cioTostat : Nat := 0x1200300
/-- ADC_CHc_CFG (16, R349). -/
abbrev adcChCfg (c : Nat) : Nat := 0x1210100 + 0x10 * c
/-- ADC_CHc_WIN (16, R349). -/
abbrev adcChWin (c : Nat) : Nat := 0x1210104 + 0x10 * c
/-- ADC_CHc_VAL (16, R349). -/
abbrev adcChVal (c : Nat) : Nat := 0x1210108 + 0x10 * c
/-- ENCe_CFG (16, R349). -/
abbrev encCfg (e : Nat) : Nat := 0x1220100 + 0x10 * e
/-- ENCe_CNT (16, R349). -/
abbrev encCnt (e : Nat) : Nat := 0x1220104 + 0x10 * e
/-- ENCe_LCNT (16, R349). -/
abbrev encLcnt (e : Nat) : Nat := 0x1220108 + 0x10 * e
/-- ENCe_STAT (16, R349). -/
abbrev encStat (e : Nat) : Nat := 0x122010c + 0x10 * e
/-- DRV_BUDGET (16, R349). -/
abbrev drvBudget : Nat := 0x1230010
/-- DRV_WIN (16, R349). -/
abbrev drvWin : Nat := 0x1230014
/-- DRV_PWM (16, R349). -/
abbrev drvPwm : Nat := 0x1230018
/-- DRV_FIRE (16, R349). -/
abbrev drvFire : Nat := 0x1230020
/-- DRV_LOAD (16, R349). -/
abbrev drvLoad : Nat := 0x1230024
/-- DRV_DEFLOG (16, R349). -/
abbrev drvDeflog : Nat := 0x1230028
/-- DRV_OUTd_CFG (16, R349). -/
abbrev drvOutCfg (d : Nat) : Nat := 0x1230100 + 0x10 * d
/-- DRV_OUTd_LIM (16, R349). -/
abbrev drvOutLim (d : Nat) : Nat := 0x1230104 + 0x10 * d
/-- DRV_OUTd_STAT (16, R349). -/
abbrev drvOutStat (d : Nat) : Nat := 0x1230108 + 0x10 * d
/-- LEDs_CFG (16, R349). -/
abbrev ledCfg (s : Nat) : Nat := 0x1240100 + 0x10 * s
/-- LEDs_BASE (16, R349). -/
abbrev ledBase (s : Nat) : Nat := 0x1240104 + 0x10 * s
/-- LEDs_TIM (16, R349). -/
abbrev ledTim (s : Nat) : Nat := 0x1240108 + 0x10 * s
/-- LEDs_STAT (16, R349). -/
abbrev ledStat (s : Nat) : Nat := 0x124010c + 0x10 * s
/-- UAu_CFG (16, R349). -/
abbrev uaCfg (u : Nat) : Nat := 0x1250100 + 0x20 * u
/-- UAu_BAUD (16, R349). -/
abbrev uaBaud (u : Nat) : Nat := 0x1250104 + 0x20 * u
/-- UAu_DATA (16, R349). -/
abbrev uaData (u : Nat) : Nat := 0x1250108 + 0x20 * u
/-- UAu_STAT (16, R349). -/
abbrev uaStat (u : Nat) : Nat := 0x125010c + 0x20 * u
/-- UAu_IEN (16, R349). -/
abbrev uaIen (u : Nat) : Nat := 0x1250110 + 0x20 * u
/-- SPIi_CFG (16, R349). -/
abbrev spiCfg (i : Nat) : Nat := 0x1260100 + 0x20 * i
/-- SPIi_CMD (16, R349). -/
abbrev spiCmd (i : Nat) : Nat := 0x1260104 + 0x20 * i
/-- SPIi_TX (16, R349). -/
abbrev spiTx (i : Nat) : Nat := 0x1260108 + 0x20 * i
/-- SPIi_RX (16, R349). -/
abbrev spiRx (i : Nat) : Nat := 0x126010c + 0x20 * i
/-- SPIi_STAT (16, R349). -/
abbrev spiStat (i : Nat) : Nat := 0x1260110 + 0x20 * i
/-- I2Ci_CFG (16, R349). -/
abbrev i2cCfg (i : Nat) : Nat := 0x1270100 + 0x40 * i
/-- I2Ci_CMD (16, R349). -/
abbrev i2cCmd (i : Nat) : Nat := 0x1270104 + 0x40 * i
/-- I2Ci_STAT (16, R349). -/
abbrev i2cStat (i : Nat) : Nat := 0x1270108 + 0x40 * i
/-- I2Ci_DATAk (16, R349). -/
abbrev i2cData (i k : Nat) : Nat := 0x1270120 + 0x40 * i + 0x4 * k
/-- LG_CTL (17, R362). -/
abbrev lgCtl : Nat := 0x10000000
/-- LG_COMMIT (17, R362). -/
abbrev lgCommit : Nat := 0x10000004
/-- LG_CHK (17, R362). -/
abbrev lgChk : Nat := 0x10000008
/-- LG_STAT (17, R362). -/
abbrev lgStat : Nat := 0x1000000c
/-- LG_CFG (17, R362). -/
abbrev lgCfg : Nat := 0x10000010
/-- LG_SEQ (17, R362). -/
abbrev lgSeq : Nat := 0x10000014
/-- LG_SLOT (17, R362). -/
abbrev lgSlot : Nat := 0x10000018
/-- LG_HCAP (17, R362). -/
abbrev lgHcap : Nat := 0x10000020
/-- LG_HDIV (17, R362). -/
abbrev lgHdiv : Nat := 0x10000024
/-- LG_HVMIN (17, R362). -/
abbrev lgHvmin : Nat := 0x10000028
/-- LG_HPWR (17, R362). -/
abbrev lgHpwr : Nat := 0x1000002c
/-- LG_HLAST (17, R362). -/
abbrev lgHlast : Nat := 0x10000030
/-- LG_LAST (17, R362). -/
abbrev lgLast : Nat := 0x10000034
/-- LG_WIN (17, R362). -/
abbrev lgWin : Nat := 0x10000040
/-- LG_LPADDRm (17, R362). -/
abbrev lgLpaddr (m : Nat) : Nat := 0x10000100 + 0x8 * m
/-- LG_LPDATAm (17, R362). -/
abbrev lgLpdata (m : Nat) : Nat := 0x10000104 + 0x8 * m
/-- GL_CTL (18, R377). -/
abbrev glCtl : Nat := 0x1400000
/-- GL_COMMIT (18, R377). -/
abbrev glCommit : Nat := 0x1400004
/-- GL_CHK (18, R377). -/
abbrev glChk : Nat := 0x1400008
/-- GL_STAT (18, R377). -/
abbrev glStat : Nat := 0x140000c
/-- GL_CFG (18, R377). -/
abbrev glCfg : Nat := 0x1400010
/-- GL_TRIM (18, R377). -/
abbrev glTrim : Nat := 0x1400014
/-- GL_RING (18, R377). -/
abbrev glRing : Nat := 0x1400018
/-- GL_STATE (18, R377). -/
abbrev glState : Nat := 0x140001c
/-- GL_PEER (18, R377). -/
abbrev glPeer : Nat := 0x1400020
/-- GL_TXCTL (18, R377). -/
abbrev glTxctl : Nat := 0x1400030
/-- GL_RXCTL (18, R377). -/
abbrev glRxctl : Nat := 0x1400034
/-- GL_SLOTn_STATE (18, R377). -/
abbrev glSlot (n : Nat) : Nat := 0x1400100 + 0x4 * n
/-- GL_TXDATAi (18, R377). -/
abbrev glTxdata (i : Nat) : Nat := 0x1400200 + 0x4 * i
/-- GL_RXDATAi (18, R377). -/
abbrev glRxdata (i : Nat) : Nat := 0x1400300 + 0x4 * i
/-- TMR_GO (19, R394). -/
abbrev tmrGo : Nat := 0x1500000
/-- TMR_HALT (19, R394). -/
abbrev tmrHalt : Nat := 0x1500004
/-- TMR_CHK (19, R394). -/
abbrev tmrChk : Nat := 0x1500008
/-- TMR_RUN (19, R394). -/
abbrev tmrRun : Nat := 0x150000c
/-- TMRn_CFG (19, R394). -/
abbrev tmrCfg (n : Nat) : Nat := 0x1500100 + 0x80 * n
/-- TMRn_STAT (19, R394). -/
abbrev tmrStat (n : Nat) : Nat := 0x1500104 + 0x80 * n
/-- TMRn_CNT_LO (19, R394). -/
abbrev tmrCntLo (n : Nat) : Nat := 0x1500108 + 0x80 * n
/-- TMRn_CNT_HI (19, R394). -/
abbrev tmrCntHi (n : Nat) : Nat := 0x150010c + 0x80 * n
/-- TMRn_CAPR_LO (19, R394). -/
abbrev tmrCaprLo (n : Nat) : Nat := 0x1500110 + 0x80 * n
/-- TMRn_CAPR_HI (19, R394). -/
abbrev tmrCaprHi (n : Nat) : Nat := 0x1500114 + 0x80 * n
/-- TMRn_CAPF_LO (19, R394). -/
abbrev tmrCapfLo (n : Nat) : Nat := 0x1500118 + 0x80 * n
/-- TMRn_CAPF_HI (19, R394). -/
abbrev tmrCapfHi (n : Nat) : Nat := 0x150011c + 0x80 * n
/-- TMRn_CMPk_CFG (19, R394). -/
abbrev tmrCmpCfg (n k : Nat) : Nat := 0x1500120 + 0x80 * n + 0x10 * k
/-- TMRn_CMPk_LO (19, R394). -/
abbrev tmrCmpLo (n k : Nat) : Nat := 0x1500124 + 0x80 * n + 0x10 * k
/-- TMRn_CMPk_HI (19, R394). -/
abbrev tmrCmpHi (n k : Nat) : Nat := 0x1500128 + 0x80 * n + 0x10 * k
/-- TMRn_CMPk_STEP (19, R394). -/
abbrev tmrCmpStep (n k : Nat) : Nat := 0x150012c + 0x80 * n + 0x10 * k

end Reg

/-- One register, or an array of them: the key of the first, strides and counts of the array's dimensions (widest
stride first), and the bit masks of R7. A bit in no mask is reserved: it reads 0 and ignores writes (R8). -/
structure RegDesc where
  base  : Nat
  dims  : List (Nat × Nat)
  rw    : Nat
  ro    : Nat
  wo    : Nat
  w1c   : Nat
  w1s   : Nat
  rws   : Nat
  reset : Nat
  deriving DecidableEq, Repr

/-- Whether an offset from the base falls on a register of the array. -/
def dimsHit : List (Nat × Nat) → Nat → Bool
  | [], o => o == 0
  | (s, n) :: ds, o => decide (o / s < n) && dimsHit ds (o % s)

/-- Whether the key is one of the array's registers. -/
def descHit (r : RegDesc) (a : Nat) : Bool := decide (r.base ≤ a) && dimsHit r.dims (a - r.base)

/-- The registers of the Sys block. -/
def regsSys : List RegDesc :=
  [⟨0x0, [], 0x0, 0xffffffff, 0x0, 0x0, 0x0, 0x0, 0x744000b0⟩,
   ⟨0x40, [], 0x0, 0x0, 0x0, 0x0, 0x0, 0x7, 0x0⟩,
   ⟨0x44, [], 0x0, 0x0, 0x1, 0x0, 0x0, 0x0, 0x0⟩,
   ⟨0x48, [], 0x0, 0xff, 0x0, 0x0, 0x0, 0x0, 0x0⟩,
   ⟨0x50, [], 0x0, 0xffffffff, 0x0, 0x0, 0x0, 0x0, 0x0⟩,
   ⟨0x54, [], 0x0, 0x3ffff, 0x0, 0x0, 0x0, 0x0, 0x10000⟩,
   ⟨0x60, [], 0x0, 0x0, 0x0, 0x0, 0x0, 0x3f, 0x8⟩,
   ⟨0x64, [], 0x0, 0xffffff07, 0x0, 0x0, 0x0, 0x0, 0x0⟩,
   ⟨0x80, [(0x4, 2)], 0x0, 0xffff1fff, 0x0, 0x0, 0x0, 0x0, 0x0⟩,
   ⟨0x88, [(0x4, 2)], 0x0, 0x3fffff, 0x0, 0x0, 0x0, 0x0, 0x0⟩,
   ⟨0x90, [], 0x0, 0x0, 0x0, 0x7f, 0x0, 0x0, 0x0⟩]

/-- The registers of the Pwr block. -/
def regsPwr : List RegDesc :=
  [⟨0x100000, [], 0x100, 0x30, 0x3, 0x0, 0x0, 0x0, 0x0⟩,
   ⟨0x100008, [], 0x0, 0xff, 0x0, 0x0, 0x0, 0x0, 0x0⟩,
   ⟨0x10000c, [], 0x0, 0xf, 0x0, 0x0, 0x0, 0x0, 0x0⟩,
   ⟨0x100010, [], 0x0, 0x0, 0x0, 0x3f, 0x0, 0x0, 0x1⟩,
   ⟨0x100014, [], 0x0, 0x1f, 0x0, 0x0, 0x0, 0x0, 0x0⟩,
   ⟨0x100018, [], 0x1, 0x0, 0x0, 0x0, 0x0, 0x0, 0x0⟩,
   ⟨0x10001c, [], 0x1ffffff, 0x0, 0x0, 0x0, 0x0, 0x0, 0x0⟩,
   ⟨0x100020, [], 0x0, 0x1ffffff, 0x0, 0x0, 0x0, 0x0, 0x0⟩,
   ⟨0x100024, [], 0x0, 0xffff000f, 0x0, 0x0, 0x0, 0x0, 0x0⟩,
   ⟨0x100030, [], 0x0, 0xfff, 0x0, 0x0, 0x0, 0x0, 0x0⟩,
   ⟨0x100034, [], 0xffff, 0x0, 0x0, 0x0, 0x0, 0x0, 0xa64⟩,
   ⟨0x101000, [], 0x0, 0x100ff, 0x0, 0xff00, 0x0, 0x0, 0x0⟩]

/-- The registers of the Pt block. -/
def regsPt : List RegDesc :=
  [⟨0x200000, [(0x100, 27)], 0xffff, 0x0, 0x0, 0x0, 0x0, 0x0, 0x1⟩,
   ⟨0x200080, [(0x100, 27), (0x8, 16)], 0xffffffff, 0x0, 0x0, 0x0, 0x0, 0x0, 0x0⟩,
   ⟨0x200084, [(0x100, 27), (0x8, 16)], 0xffffffff, 0x0, 0x0, 0x0, 0x0, 0x0, 0x0⟩,
   ⟨0x202000, [], 0x0, 0x1fff, 0x0, 0x0, 0x0, 0x0, 0x0⟩,
   ⟨0x202010, [], 0x0, 0xffffbfff, 0x0, 0x4000, 0x0, 0x0, 0x0⟩,
   ⟨0x202014, [], 0x0, 0xffffffff, 0x0, 0x0, 0x0, 0x0, 0x0⟩,
   ⟨0x202018, [], 0x0, 0x3f, 0x0, 0x0, 0x0, 0x0, 0x0⟩]

/-- The registers of the Ic block. -/
def regsIc : List RegDesc :=
  [⟨0x300000, [], 0x1, 0x0, 0x0, 0x0, 0x0, 0x0, 0x0⟩,
   ⟨0x300004, [], 0x0, 0x0, 0x1, 0x0, 0x0, 0x0, 0x0⟩,
   ⟨0x300008, [], 0x0, 0x1ffff, 0x0, 0x0, 0x0, 0x0, 0x0⟩,
   ⟨0x300010, [], 0x0, 0x0, 0x0, 0x0, 0x0, 0x1, 0x0⟩,
   ⟨0x300014, [], 0x0, 0x0, 0x0, 0x0, 0x0, 0xffffffff, 0x0⟩,
   ⟨0x300018, [], 0x0, 0x0, 0x0, 0x0, 0x0, 0xffffff, 0x0⟩,
   ⟨0x300020, [(0x4, 6)], 0xf, 0x0, 0x0, 0x0, 0x0, 0x0, 0x0⟩,
   ⟨0x300100, [(0x4, 16)], 0x0, 0x0, 0x0, 0xffffffff, 0x0, 0x0, 0x0⟩,
   ⟨0x300140, [(0x4, 16)], 0x0, 0xffffffff, 0x0, 0x0, 0x0, 0x0, 0x0⟩,
   ⟨0x300180, [(0x4, 4)], 0x0, 0xff03ff, 0x0, 0x0, 0x0, 0x0, 0xff0000⟩,
   ⟨0x300200, [(0x8, 32)], 0xffff00ff, 0x0, 0x0, 0x0, 0x0, 0x0, 0x0⟩,
   ⟨0x300204, [(0x8, 32)], 0x0, 0x1ff, 0x0, 0x0, 0x0, 0x0, 0x0⟩] ++
  [⟨0x301000, [(0x4, 512)], 0x3f1fff7f, 0x0, 0x0, 0x0, 0x0, 0x0, 0xff02⟩]

/-- The registers of the Hg block. -/
def regsHg : List RegDesc :=
  [⟨0x400000, [], 0x3, 0x0, 0x0, 0x0, 0x0, 0x0, 0x0⟩,
   ⟨0x400004, [], 0x0, 0x1ff, 0x0, 0x0, 0x0, 0x0, 0x0⟩,
   ⟨0x400010, [(0x20, 2)], 0x0, 0x3fffff, 0x0, 0x0, 0x0, 0x0, 0x0⟩,
   ⟨0x400014, [(0x20, 2)], 0x0, 0x3fffff, 0x0, 0x0, 0x0, 0x0, 0x0⟩,
   ⟨0x400018, [(0x20, 2)], 0x0, 0x3fffff, 0x0, 0x0, 0x0, 0x0, 0x18⟩,
   ⟨0x40001c, [(0x20, 2)], 0x0, 0xffffff03, 0x0, 0x0, 0x0, 0x0, 0x0⟩,
   ⟨0x400020, [(0x20, 2)], 0x0, 0x3fffff, 0x0, 0x0, 0x0, 0x0, 0x0⟩,
   ⟨0x400024, [(0x20, 2)], 0x0, 0xffff0007, 0x0, 0x0, 0x0, 0x0, 0x0⟩,
   ⟨0x400028, [(0x20, 2)], 0x0, 0xff7fffff, 0x0, 0x0, 0x0, 0x0, 0x0⟩,
   ⟨0x40002c, [(0x20, 2)], 0x0, 0xffff, 0x0, 0x0, 0x0, 0x0, 0x0⟩,
   ⟨0x401000, [(0x200, 2), (0x4, 128)], 0x0, 0xffffffff, 0x0, 0x0, 0x0, 0x0, 0x0⟩]

/-- The registers of the Tp block. -/
def regsTp : List RegDesc :=
  [⟨0x500000, [(0x80000, 2)], 0x1, 0x0, 0x0, 0x0, 0x0, 0x0, 0x0⟩,
   ⟨0x500004, [(0x80000, 2)], 0x0, 0x0, 0x1, 0x0, 0x0, 0x0, 0x0⟩,
   ⟨0x500008, [(0x80000, 2)], 0x0, 0x7ff, 0x0, 0x0, 0x0, 0x0, 0x0⟩,
   ⟨0x50000c, [(0x80000, 2)], 0x0, 0x0, 0x0, 0xffff, 0x0, 0x0, 0x0⟩,
   ⟨0x500040, [(0x8, 4)], 0x801fffff, 0x0, 0x0, 0x0, 0x0, 0x0, 0x0⟩,
   ⟨0x500044, [(0x8, 4)], 0xffffffff, 0x0, 0x0, 0x0, 0x0, 0x0, 0x0⟩,
   ⟨0x500100, [(0x80000, 2), (0x40, 8)], 0x0, 0x0, 0x0, 0x0, 0x0, 0x1f7fff, 0x0⟩,
   ⟨0x500104, [(0x80000, 2), (0x40, 8)], 0x0, 0x0, 0x0, 0x0, 0x0, 0x7ff, 0x0⟩,
   ⟨0x500108, [(0x80000, 2), (0x40, 8)], 0x0, 0x0, 0x0, 0x0, 0x0, 0xfffffff, 0x0⟩,
   ⟨0x50010c, [(0x80000, 2), (0x40, 8)], 0x0, 0x0, 0x0, 0x0, 0x0, 0x1fffff, 0x0⟩,
   ⟨0x500110, [(0x80000, 2), (0x40, 8)], 0x0, 0x0, 0x0, 0x0, 0x0, 0xfffffff, 0x0⟩,
   ⟨0x500114, [(0x80000, 2), (0x40, 8)], 0x0, 0x0, 0x0, 0x0, 0x0, 0xfffffff, 0x0⟩] ++
  [⟨0x500120, [(0x80000, 2), (0x40, 8)], 0xffffff, 0x0, 0x0, 0x0, 0x0, 0x0, 0x0⟩,
   ⟨0x500124, [(0x80000, 2), (0x40, 8)], 0xffffff, 0x0, 0x0, 0x0, 0x0, 0x0, 0x0⟩,
   ⟨0x500128, [(0x80000, 2), (0x40, 8)], 0xffffffff, 0x0, 0x0, 0x0, 0x0, 0x0, 0x10000⟩,
   ⟨0x50012c, [(0x80000, 2), (0x40, 8)], 0xffffffff, 0x0, 0x0, 0x0, 0x0, 0x0, 0x10000⟩,
   ⟨0x500130, [(0x80000, 2), (0x40, 8)], 0xffffffff, 0x0, 0x0, 0x0, 0x0, 0x0, 0xffff0000⟩]

/-- The registers of the Sp block. -/
def regsSp : List RegDesc :=
  [⟨0x600000, [(0x4000, 2)], 0x1, 0x0, 0x0, 0x0, 0x0, 0x0, 0x0⟩,
   ⟨0x600004, [(0x4000, 2)], 0x0, 0x0, 0x1, 0x0, 0x0, 0x0, 0x0⟩,
   ⟨0x600008, [(0x4000, 2)], 0x0, 0x7fff, 0x0, 0x0, 0x0, 0x0, 0x0⟩,
   ⟨0x60000c, [(0x4000, 2)], 0x0, 0x7fff0000, 0x0, 0x1f, 0x0, 0x0, 0x0⟩,
   ⟨0x600010, [(0x4000, 2)], 0x0, 0x0, 0x0, 0x0, 0x0, 0xf, 0x0⟩,
   ⟨0x600020, [(0x4000, 2), (0x4, 2)], 0xbfffbfff, 0x0, 0x0, 0x0, 0x0, 0x0, 0x80008000⟩,
   ⟨0x600040, [(0x4000, 2), (0x4, 4)], 0x0, 0xffff03ff, 0x0, 0x0, 0x0, 0x0, 0x0⟩,
   ⟨0x608000, [], 0x1, 0x0, 0x0, 0x0, 0x0, 0x0, 0x0⟩,
   ⟨0x602000, [(0x4000, 2), (0x20, 128)], 0x0, 0x0, 0x0, 0x0, 0x0, 0x1fff3fff, 0x0⟩,
   ⟨0x602004, [(0x4000, 2), (0x20, 128)], 0x0, 0x0, 0x0, 0x0, 0x0, 0xffffffff, 0x0⟩,
   ⟨0x602008, [(0x4000, 2), (0x20, 128)], 0x0, 0x0, 0x0, 0x0, 0x0, 0xfffff, 0x0⟩,
   ⟨0x60200c, [(0x4000, 2), (0x20, 128)], 0x0, 0x0, 0x0, 0x0, 0x0, 0xfffff, 0x0⟩] ++
  [⟨0x602010, [(0x4000, 2), (0x20, 128)], 0x0, 0x0, 0x0, 0x0, 0x0, 0xffffffff, 0x0⟩,
   ⟨0x602014, [(0x4000, 2), (0x20, 128)], 0x0, 0x0, 0x0, 0x0, 0x0, 0xffffffff, 0x0⟩,
   ⟨0x602018, [(0x4000, 2), (0x20, 128)], 0x0, 0xc00fffff, 0x0, 0x0, 0x0, 0x0, 0x0⟩,
   ⟨0x60201c, [(0x4000, 2), (0x20, 128)], 0x0, 0xc00fffff, 0x0, 0x0, 0x0, 0x0, 0x0⟩]

/-- The registers of the Cmp block. -/
def regsCmp : List RegDesc :=
  [⟨0x700000, [(0x80000, 2)], 0x1, 0x0, 0x0, 0x0, 0x0, 0x0, 0x0⟩,
   ⟨0x700004, [(0x80000, 2)], 0x0, 0x0, 0x1, 0x0, 0x0, 0x0, 0x0⟩,
   ⟨0x700008, [(0x80000, 2)], 0x0, 0x1ff, 0x0, 0x0, 0x0, 0x0, 0x0⟩,
   ⟨0x70000c, [(0x80000, 2)], 0x0, 0x0, 0x0, 0xf, 0x0, 0x0, 0x0⟩,
   ⟨0x700010, [(0x80000, 2)], 0xffffff, 0x0, 0x0, 0x0, 0x0, 0x0, 0x0⟩,
   ⟨0x700014, [(0x80000, 2)], 0x0, 0xffffff, 0x0, 0x0, 0x0, 0x0, 0x0⟩,
   ⟨0x700040, [(0x80000, 2), (0x4, 10)], 0xff07, 0x0, 0x0, 0x0, 0x0, 0x0, 0xff00⟩,
   ⟨0x700100, [(0x80000, 2), (0x40, 2)], 0x0, 0x0, 0x0, 0x0, 0x0, 0x3f1d, 0x0⟩,
   ⟨0x700104, [(0x80000, 2), (0x40, 2)], 0x0, 0x0, 0x0, 0x0, 0x0, 0xfffffff, 0x0⟩,
   ⟨0x700108, [(0x80000, 2), (0x40, 2)], 0x0, 0x0, 0x0, 0x0, 0x0, 0xffff, 0x0⟩,
   ⟨0x70010c, [(0x80000, 2), (0x40, 2)], 0x0, 0x0, 0x0, 0x0, 0x0, 0x3fff3fff, 0x0⟩,
   ⟨0x700120, [(0x80000, 2), (0x40, 2)], 0xffffff, 0x0, 0x0, 0x0, 0x0, 0x0, 0x0⟩] ++
  [⟨0x700124, [(0x80000, 2), (0x40, 2)], 0xffffff, 0x0, 0x0, 0x0, 0x0, 0x0, 0x0⟩,
   ⟨0x700128, [(0x80000, 2), (0x40, 2)], 0xffffffff, 0x0, 0x0, 0x0, 0x0, 0x0, 0x10000⟩,
   ⟨0x70012c, [(0x80000, 2), (0x40, 2)], 0xffffffff, 0x0, 0x0, 0x0, 0x0, 0x0, 0x10000⟩,
   ⟨0x700130, [(0x80000, 2), (0x40, 2)], 0xffffffff, 0x0, 0x0, 0x0, 0x0, 0x0, 0xffff0000⟩]

/-- The registers of the So block. -/
def regsSo : List RegDesc :=
  [⟨0x800000, [(0x1000, 3)], 0x1, 0x0, 0x2, 0x0, 0x0, 0x0, 0x0⟩,
   ⟨0x800004, [(0x1000, 3)], 0x0, 0x0, 0x1, 0x0, 0x0, 0x0, 0x0⟩,
   ⟨0x800008, [(0x1000, 3)], 0x0, 0xfff, 0x0, 0x0, 0x0, 0x0, 0x0⟩,
   ⟨0x80000c, [(0x1000, 3)], 0x0, 0xffff0003, 0x0, 0xc, 0x0, 0x0, 0x0⟩,
   ⟨0x800010, [(0x1000, 3)], 0x0, 0x0, 0x0, 0x0, 0x0, 0xffff07ff, 0x1000a⟩,
   ⟨0x800014, [(0x1000, 3)], 0x0, 0x0, 0x0, 0x0, 0x0, 0x3fff, 0x0⟩,
   ⟨0x800018, [(0x1000, 3)], 0x0, 0x0, 0x0, 0x0, 0x0, 0xfffff, 0x0⟩,
   ⟨0x80001c, [(0x1000, 3)], 0x0, 0x0, 0x0, 0x0, 0x0, 0xffffffff, 0x0⟩,
   ⟨0x800020, [(0x1000, 3)], 0x0, 0x0, 0x0, 0x0, 0x0, 0xffffffff, 0x0⟩,
   ⟨0x800024, [(0x1000, 3)], 0x0, 0x0, 0x0, 0x0, 0x0, 0xffffffff, 0x0⟩,
   ⟨0x800028, [(0x1000, 3)], 0x0, 0x0, 0x0, 0x0, 0x0, 0xffffffff, 0x0⟩,
   ⟨0x80002c, [(0x1000, 2)], 0x0, 0x0, 0x0, 0x0, 0x0, 0xf, 0x2⟩] ++
  [⟨0x800030, [(0x1000, 2)], 0x0, 0xf9, 0x0, 0x6, 0x0, 0x0, 0x0⟩,
   ⟨0x800040, [(0x1000, 2)], 0x7ffffff, 0x0, 0x80000000, 0x0, 0x0, 0x0, 0x0⟩,
   ⟨0x800044, [(0x1000, 2)], 0x0, 0x1fd, 0x0, 0x2, 0x0, 0x0, 0x0⟩,
   ⟨0x800048, [(0x1000, 2), (0x4, 4)], 0xffffffff, 0x0, 0x0, 0x0, 0x0, 0x0, 0x0⟩,
   ⟨0x800060, [(0x1000, 2)], 0x0, 0x0, 0x0, 0x0, 0x0, 0xf, 0x2⟩,
   ⟨0x800064, [(0x1000, 2)], 0x0, 0x0, 0x0, 0x0, 0x0, 0xff, 0x0⟩,
   ⟨0x800080, [(0x1000, 3), (0x4, 8)], 0xbfffffff, 0x0, 0x0, 0x0, 0x0, 0x0, 0x0⟩,
   ⟨0x8000f0, [(0x1000, 3)], 0x0, 0x0, 0x0, 0x0, 0x0, 0xffff, 0x0⟩,
   ⟨0x8000f4, [(0x1000, 3)], 0x0, 0x0, 0x0, 0xffff, 0x0, 0x0, 0x0⟩,
   ⟨0x800100, [(0x1000, 3), (0x10, 16)], 0x0, 0x0, 0x0, 0x0, 0x0, 0xffffffff, 0x0⟩,
   ⟨0x800104, [(0x1000, 3), (0x10, 16)], 0x0, 0x0, 0x0, 0x0, 0x0, 0xffffffff, 0x0⟩,
   ⟨0x800108, [(0x1000, 3), (0x10, 16)], 0x0, 0x0, 0x0, 0x0, 0x0, 0xffffffff, 0x0⟩] ++
  [⟨0x80010c, [(0x1000, 3), (0x10, 16)], 0x0, 0xffffffff, 0x0, 0x0, 0x0, 0x0, 0x0⟩,
   ⟨0x803000, [(0xc00, 2), (0x400, 3), (0x4, 256)], 0x3ff, 0x0, 0x0, 0x0, 0x0, 0x0, 0x0⟩]

/-- The registers of the Lp block. -/
def regsLp : List RegDesc :=
  [⟨0x900000, [(0x40000, 4)], 0x3, 0x0, 0xc, 0x0, 0x0, 0x0, 0x0⟩,
   ⟨0x900004, [(0x40000, 4)], 0x0, 0xff, 0x0, 0x0, 0x0, 0x0, 0x0⟩,
   ⟨0x900008, [(0x40000, 4)], 0x0, 0x3fffff, 0x0, 0xc00000, 0x0, 0x0, 0x0⟩,
   ⟨0x90000c, [(0x40000, 4)], 0x0, 0x1ffffff, 0x0, 0x0, 0x0, 0x0, 0x0⟩,
   ⟨0x900010, [(0x40000, 4)], 0x1, 0x0, 0x0, 0x0, 0x0, 0x0, 0x0⟩,
   ⟨0x900014, [(0x40000, 4)], 0x1fff, 0x0, 0x0, 0x0, 0x0, 0x0, 0x0⟩,
   ⟨0x900018, [(0x40000, 4)], 0x1fff, 0x0, 0x0, 0x0, 0x0, 0x0, 0x0⟩,
   ⟨0x900100, [(0x40000, 4), (0x4, 32)], 0xffffffff, 0x0, 0x0, 0x0, 0x0, 0x0, 0x0⟩,
   ⟨0x900180, [(0x40000, 4)], 0xfe, 0x0, 0x0, 0x0, 0x0, 0x0, 0x0⟩]

/-- The registers of the Bl block. -/
def regsBl : List RegDesc :=
  [⟨0xa00000, [], 0x1, 0x0, 0x0, 0x0, 0x0, 0x0, 0x0⟩,
   ⟨0xa00004, [], 0x0, 0x0, 0x1, 0x0, 0x0, 0x0, 0x0⟩,
   ⟨0xa00008, [], 0x0, 0xfff, 0x0, 0x0, 0x0, 0x0, 0x0⟩,
   ⟨0xa0000c, [], 0x0, 0x0, 0x0, 0x0, 0x0, 0x1, 0x0⟩,
   ⟨0xa00010, [], 0x0, 0xffff0001, 0x0, 0x0, 0x0, 0x0, 0x0⟩,
   ⟨0xa00014, [], 0x0, 0xffff00ff, 0x0, 0x0, 0x0, 0x0, 0x0⟩,
   ⟨0xa00018, [], 0x0, 0xffffffff, 0x0, 0x0, 0x0, 0x0, 0x0⟩,
   ⟨0xa0001c, [], 0x0, 0x3, 0x0, 0x0, 0x0, 0x0, 0x0⟩,
   ⟨0xa00040, [], 0xff0f, 0x0, 0x0, 0x0, 0x0, 0x0, 0x0⟩,
   ⟨0xa00044, [], 0xffffffff, 0x0, 0x0, 0x0, 0x0, 0x0, 0x0⟩,
   ⟨0xa00048, [], 0xffffffff, 0x0, 0x0, 0x0, 0x0, 0x0, 0x0⟩,
   ⟨0xa0004c, [], 0xffffffff, 0x0, 0x0, 0x0, 0x0, 0x0, 0x0⟩] ++
  [⟨0xa00050, [], 0xffffffff, 0x0, 0x0, 0x0, 0x0, 0x0, 0x0⟩,
   ⟨0xa00054, [], 0xffffffff, 0x0, 0x0, 0x0, 0x0, 0x0, 0x0⟩,
   ⟨0xa00058, [], 0x0, 0x0, 0x1, 0x0, 0x0, 0x0, 0x0⟩,
   ⟨0xa0005c, [], 0x0, 0xffffff05, 0x0, 0xa, 0x0, 0x0, 0x0⟩,
   ⟨0xa00100, [(0x8, 16)], 0x0, 0x0, 0x0, 0x0, 0x0, 0xffffffff, 0x0⟩,
   ⟨0xa00104, [(0x8, 16)], 0x0, 0x0, 0x0, 0x0, 0x0, 0xffffffff, 0x0⟩,
   ⟨0xa00200, [(0x10, 16)], 0x0, 0x0, 0x0, 0x0, 0x0, 0x31f, 0x0⟩,
   ⟨0xa00204, [(0x10, 16)], 0x0, 0x0, 0x0, 0x0, 0x0, 0xffffffff, 0x0⟩,
   ⟨0xa00208, [(0x10, 16)], 0x0, 0x0, 0x0, 0x0, 0x0, 0xffff, 0x0⟩,
   ⟨0xa0020c, [(0x10, 16)], 0x0, 0x0, 0x0, 0x0, 0x0, 0x3fff3fff, 0x0⟩]

/-- The registers of the Au block. -/
def regsAu : List RegDesc :=
  [⟨0xb00000, [], 0x1, 0x0, 0x0, 0x0, 0x0, 0x0, 0x0⟩,
   ⟨0xb00004, [], 0x0, 0x0, 0x1, 0x0, 0x0, 0x0, 0x0⟩,
   ⟨0xb00008, [], 0x0, 0xfff, 0x0, 0x0, 0x0, 0x0, 0x0⟩,
   ⟨0xb0000c, [], 0x0, 0xffffe001, 0x0, 0x2, 0x0, 0x0, 0x0⟩,
   ⟨0xb00010, [], 0x0, 0x0, 0x0, 0x0, 0x0, 0x7, 0x2⟩,
   ⟨0xb00018, [], 0x0, 0xffffffff, 0x0, 0x0, 0x0, 0x0, 0x0⟩,
   ⟨0xb0001c, [], 0x0, 0xffff, 0x0, 0x0, 0x0, 0x0, 0x0⟩,
   ⟨0xb00020, [], 0xffff, 0x0, 0x0, 0x0, 0x0, 0x0, 0x0⟩,
   ⟨0xb00024, [], 0x0, 0xff0003ff, 0x0, 0x0, 0x0, 0x0, 0x0⟩,
   ⟨0xb00040, [(0x4, 4)], 0x0, 0x20, 0x0, 0x0, 0x0, 0x1f, 0x20⟩,
   ⟨0xb00050, [(0x4, 2)], 0x0, 0x0, 0x0, 0x0, 0x0, 0x3f, 0x0⟩,
   ⟨0xb00058, [], 0x0, 0x0, 0x0, 0x3, 0x0, 0x0, 0x0⟩] ++
  [⟨0xb00060, [(0xc, 8)], 0x0, 0x0, 0x0, 0x0, 0x0, 0xffff001f, 0x0⟩,
   ⟨0xb00064, [(0xc, 8)], 0x0, 0x0, 0x0, 0x0, 0x0, 0xffffffff, 0x0⟩,
   ⟨0xb00068, [(0xc, 8)], 0x0, 0x0, 0x0, 0x0, 0x0, 0xffff, 0x0⟩,
   ⟨0xb00100, [(0x4, 8)], 0x0, 0x0, 0x0, 0xffffffff, 0x0, 0x0, 0x0⟩,
   ⟨0xb00120, [(0x4, 8)], 0x0, 0xffffffff, 0x0, 0x0, 0x0, 0x0, 0x0⟩]

/-- The registers of the Mx block. -/
def regsMx : List RegDesc :=
  [⟨0xc00000, [], 0x1, 0x0, 0x0, 0x0, 0x0, 0x0, 0x0⟩,
   ⟨0xc00008, [], 0x0, 0x3fffff, 0x0, 0x0, 0x0, 0x0, 0x0⟩,
   ⟨0xc0000c, [], 0x0, 0x1f, 0x0, 0x0, 0x0, 0x0, 0x0⟩,
   ⟨0xc00010, [], 0x1fff, 0x0, 0x0, 0x0, 0x0, 0x0, 0x0⟩,
   ⟨0xc00014, [], 0x0, 0x3fff, 0x0, 0x0, 0x0, 0x0, 0x13bb⟩,
   ⟨0xc00020, [(0x4, 2)], 0x0, 0xffffbfff, 0x0, 0x0, 0x0, 0x0, 0x0⟩,
   ⟨0xc00400, [(0x8, 64)], 0xfffffff, 0x0, 0x0, 0x0, 0x0, 0x0, 0x0⟩,
   ⟨0xc00404, [(0x8, 64)], 0xffffff, 0x0, 0x0, 0x0, 0x0, 0x0, 0x0⟩]

/-- The registers of the Hi block. -/
def regsHi : List RegDesc :=
  [⟨0xd00000, [], 0x1, 0x0, 0x0, 0x0, 0x0, 0x0, 0x0⟩,
   ⟨0xd00004, [], 0x0, 0x0, 0x1, 0x0, 0x0, 0x0, 0x0⟩,
   ⟨0xd00008, [], 0x0, 0x7fff, 0x0, 0x0, 0x0, 0x0, 0x0⟩,
   ⟨0xd0000c, [], 0x0, 0xffff00fe, 0x0, 0x1, 0x0, 0x0, 0x0⟩,
   ⟨0xd00010, [], 0x0, 0x0, 0x0, 0x0, 0x0, 0x7f, 0x1⟩,
   ⟨0xd00018, [], 0xffffffff, 0x0, 0x0, 0x0, 0x0, 0x0, 0x0⟩,
   ⟨0xd0001c, [], 0xffffffff, 0x0, 0x0, 0x0, 0x0, 0x0, 0x0⟩,
   ⟨0xd00020, [], 0xffffffff, 0x0, 0x0, 0x0, 0x0, 0x0, 0x0⟩,
   ⟨0xd00024, [], 0xffffffff, 0x0, 0x0, 0x0, 0x0, 0x0, 0x0⟩,
   ⟨0xd00028, [], 0x1f, 0x0, 0x0, 0x0, 0x0, 0x0, 0x4⟩,
   ⟨0xd0002c, [], 0xff, 0x0, 0x0, 0x0, 0x0, 0x0, 0x64⟩,
   ⟨0xd00030, [], 0x3fff, 0x0, 0x0, 0x0, 0x0, 0x0, 0x0⟩] ++
  [⟨0xd01000, [(0x20, 64)], 0xffffffff, 0x0, 0x0, 0x0, 0x0, 0x0, 0x0⟩,
   ⟨0xd01004, [(0x20, 64)], 0xffffffff, 0x0, 0x0, 0x0, 0x0, 0x0, 0x0⟩,
   ⟨0xd01008, [(0x20, 64)], 0xffffffff, 0x0, 0x0, 0x0, 0x0, 0x0, 0x0⟩,
   ⟨0xd0100c, [(0x20, 64)], 0xffffffff, 0x0, 0x0, 0x0, 0x0, 0x0, 0x0⟩,
   ⟨0xd01010, [(0x20, 64)], 0x1f01ff, 0x0, 0x0, 0x0, 0x0, 0x0, 0x8⟩,
   ⟨0xd01014, [(0x20, 64)], 0x0, 0xffffffff, 0x0, 0x0, 0x0, 0x0, 0x0⟩,
   ⟨0xd01018, [(0x20, 64)], 0x0, 0xffff000f, 0x0, 0x0, 0x0, 0x0, 0x0⟩,
   ⟨0xd08000, [(0x4, 256)], 0xffffffff, 0x0, 0x0, 0x0, 0x0, 0x0, 0x0⟩,
   ⟨0xd09000, [(0x4, 2)], 0x0, 0xffffffff, 0x0, 0x0, 0x0, 0x0, 0x0⟩]

/-- The registers of the Mem block. -/
def regsMem : List RegDesc :=
  [⟨0xe00000, [], 0x1, 0x0, 0x0, 0x0, 0x0, 0x0, 0x0⟩,
   ⟨0xe00008, [], 0x0, 0xff, 0x0, 0x0, 0x0, 0x0, 0x0⟩,
   ⟨0xe0000c, [], 0x0, 0xff, 0x0, 0x0, 0x0, 0x0, 0x0⟩,
   ⟨0xe00010, [], 0xf, 0x0, 0x0, 0x0, 0x0, 0x0, 0xf⟩,
   ⟨0xe00014, [], 0x0, 0x7fff, 0x0, 0x0, 0x0, 0x0, 0x3800⟩,
   ⟨0xe01000, [(0x10, 4)], 0xffff0000, 0xffff, 0x0, 0x0, 0x0, 0x0, 0xffff0000⟩,
   ⟨0xe01004, [(0x10, 4)], 0x0, 0xffffffff, 0x0, 0x0, 0x0, 0x0, 0x0⟩,
   ⟨0xe01008, [(0x10, 4)], 0x0, 0xf7f1f, 0x0, 0x0, 0x0, 0x0, 0x0⟩,
   ⟨0xe01040, [], 0x0, 0xffff0f1f, 0x0, 0x0, 0x0, 0x0, 0x0⟩,
   ⟨0xe01044, [], 0x0, 0xffffffff, 0x0, 0x0, 0x0, 0x0, 0x0⟩,
   ⟨0xe01050, [], 0xffff, 0x0, 0x0, 0x0, 0x0, 0x0, 0x3e8⟩,
   ⟨0xe01060, [], 0x8000001f, 0xff00, 0x0, 0x0, 0x0, 0x0, 0x0⟩] ++
  [⟨0xe01064, [], 0xffffffff, 0x0, 0x0, 0x0, 0x0, 0x0, 0x0⟩,
   ⟨0xe01068, [], 0xffffffff, 0x0, 0x0, 0x0, 0x0, 0x0, 0x0⟩,
   ⟨0xe0106c, [], 0xff, 0x0, 0x0, 0x0, 0x0, 0x0, 0x0⟩,
   ⟨0xe01070, [], 0xffffffff, 0x0, 0x0, 0x0, 0x0, 0x0, 0x0⟩,
   ⟨0xe01074, [], 0x0, 0xffffffff, 0x0, 0x0, 0x0, 0x0, 0x0⟩]

/-- The registers of the As block. -/
def regsAs : List RegDesc :=
  [⟨0xf00000, [], 0x1, 0x0, 0x0, 0x0, 0x0, 0x0, 0x0⟩,
   ⟨0xf00008, [], 0x0, 0xfff, 0x0, 0x0, 0x0, 0x0, 0x0⟩,
   ⟨0xf00010, [], 0xf7fff, 0x0, 0x0, 0x0, 0x0, 0x0, 0x2800⟩,
   ⟨0xf00014, [], 0x1fff1f, 0x0, 0x0, 0x0, 0x0, 0x0, 0xa⟩,
   ⟨0xf00018, [], 0xfffffff, 0x0, 0x0, 0x0, 0x0, 0x0, 0x0⟩,
   ⟨0xf0001c, [], 0xffff, 0x0, 0x0, 0x0, 0x0, 0x0, 0x0⟩,
   ⟨0xf00020, [], 0x0, 0x87ffffff, 0x0, 0x0, 0x0, 0x0, 0x0⟩,
   ⟨0xf00030, [], 0xfffffff, 0x0, 0x0, 0x0, 0x0, 0x0, 0x0⟩,
   ⟨0xf00034, [], 0xff, 0x0, 0x0, 0x0, 0x0, 0x0, 0x0⟩,
   ⟨0xf00040, [], 0x0, 0x0, 0xffffffff, 0x0, 0x0, 0x0, 0x0⟩,
   ⟨0xf00044, [], 0xfffffff, 0x0, 0x0, 0x0, 0x0, 0x0, 0x0⟩,
   ⟨0xf00048, [], 0x0, 0xff01, 0x0, 0xe, 0x0, 0x0, 0x0⟩]

/-- The registers of the Fm block. -/
def regsFm : List RegDesc :=
  [⟨0x1000000, [], 0x1, 0x0, 0x2, 0x0, 0x0, 0x0, 0x0⟩,
   ⟨0x1000004, [], 0x0, 0x0, 0x1, 0x0, 0x0, 0x0, 0x0⟩,
   ⟨0x1000008, [], 0x0, 0x1fff, 0x0, 0x0, 0x0, 0x0, 0x0⟩,
   ⟨0x100000c, [], 0x0, 0x7f0001, 0x0, 0x0, 0x0, 0x0, 0x0⟩,
   ⟨0x1000010, [], 0x0, 0x3fff, 0x0, 0x0, 0x0, 0x0, 0x0⟩,
   ⟨0x1000014, [], 0x0, 0xffffffff, 0x0, 0x0, 0x0, 0x0, 0x0⟩,
   ⟨0x1000018, [], 0x0, 0xffffffff, 0x0, 0x0, 0x0, 0x0, 0x0⟩,
   ⟨0x1001000, [(0x10, 32)], 0x0, 0x0, 0x0, 0x0, 0x0, 0x1f, 0x2⟩,
   ⟨0x1001004, [(0x10, 32)], 0x1, 0x0, 0x0, 0x0, 0x0, 0x0, 0x0⟩,
   ⟨0x1001008, [(0x10, 32)], 0x0, 0xff0f, 0x0, 0x0, 0x0, 0x0, 0x0⟩,
   ⟨0x100100c, [(0x10, 32)], 0x0, 0xffffffff, 0x0, 0x0, 0x0, 0x0, 0x0⟩]

/-- The registers of the Pin block. -/
def regsPin : List RegDesc :=
  [⟨0x1100004, [], 0x0, 0x0, 0x1, 0x0, 0x0, 0x0, 0x0⟩,
   ⟨0x1100008, [], 0x0, 0x7fff, 0x0, 0x0, 0x0, 0x0, 0x0⟩,
   ⟨0x1100010, [(0x4, 4)], 0x0, 0x0, 0x0, 0xffffffff, 0x0, 0x0, 0x0⟩,
   ⟨0x1100020, [(0x4, 4)], 0x0, 0xffffffff, 0x0, 0x0, 0x0, 0x0, 0x0⟩,
   ⟨0x1100100, [(0x10, 8)], 0x0, 0x0, 0x0, 0x0, 0x0, 0x3f07ff, 0x0⟩,
   ⟨0x1100104, [(0x10, 8)], 0x0, 0x0, 0x0, 0x0, 0x0, 0xffffffff, 0x0⟩,
   ⟨0x1100108, [(0x10, 8)], 0x0, 0x0, 0x0, 0x0, 0x0, 0xffffffff, 0x0⟩,
   ⟨0x110010c, [(0x10, 8)], 0x0, 0xffff0003, 0x0, 0x4, 0x0, 0x0, 0x0⟩,
   ⟨0x1101000, [(0x10, 128)], 0x7, 0x0, 0x0, 0x0, 0x0, 0x0, 0x0⟩,
   ⟨0x1101004, [(0x10, 128)], 0xffff, 0x0, 0x0, 0x0, 0x0, 0x0, 0x201⟩,
   ⟨0x1101008, [(0x10, 128)], 0x3, 0x4, 0x0, 0x0, 0x0, 0x0, 0x0⟩,
   ⟨0x110100c, [(0x10, 128)], 0x0, 0x1, 0x0, 0x2, 0x0, 0x0, 0x0⟩]

/-- The registers of the Cio block. -/
def regsCio : List RegDesc :=
  [⟨0x1200000, [(0x10000, 8)], 0xffffffff, 0x0, 0x0, 0x0, 0x0, 0x0, 0x0⟩,
   ⟨0x1200004, [(0x10000, 8)], 0x0, 0x0, 0x1, 0x0, 0x0, 0x0, 0x0⟩,
   ⟨0x1200008, [(0x10000, 8)], 0x0, 0xffff, 0x0, 0x0, 0x0, 0x0, 0x0⟩,
   ⟨0x1200100, [(0x10, 12)], 0x0, 0x0, 0x0, 0x0, 0x0, 0x3fffffe, 0x0⟩,
   ⟨0x1200104, [(0x10, 12)], 0x0, 0x0, 0x0, 0x0, 0x0, 0x7ffff, 0x0⟩,
   ⟨0x1200108, [(0x10, 12)], 0x0, 0xffffffff, 0x0, 0x0, 0x0, 0x0, 0x0⟩,
   ⟨0x120010c, [(0x10, 12)], 0xffff0000, 0x7ff, 0x0, 0x0, 0x0, 0x0, 0x0⟩,
   ⟨0x1200200, [(0x4, 16)], 0x0, 0x0, 0x0, 0x0, 0x0, 0xffff07ff, 0x0⟩,
   ⟨0x1200300, [], 0x0, 0xffff, 0x0, 0x0, 0x0, 0x0, 0x0⟩,
   ⟨0x1210100, [(0x10, 16)], 0x0, 0x0, 0x0, 0x0, 0x0, 0x7, 0x0⟩,
   ⟨0x1210104, [(0x10, 16)], 0x0, 0x0, 0x0, 0x0, 0x0, 0xfff0fff, 0xfff0000⟩,
   ⟨0x1210108, [(0x10, 16)], 0x0, 0x1fff, 0x0, 0x0, 0x0, 0x0, 0x0⟩] ++
  [⟨0x1220100, [(0x10, 8)], 0x0, 0x0, 0x0, 0x0, 0x0, 0xffff0001, 0x0⟩,
   ⟨0x1220104, [(0x10, 8)], 0xffffffff, 0x0, 0x0, 0x0, 0x0, 0x0, 0x0⟩,
   ⟨0x1220108, [(0x10, 8)], 0x0, 0xffffffff, 0x0, 0x0, 0x0, 0x0, 0x0⟩,
   ⟨0x122010c, [(0x10, 8)], 0x0, 0xffff0001, 0x0, 0x6, 0x0, 0x0, 0x0⟩,
   ⟨0x1230010, [], 0x0, 0x0, 0x0, 0x0, 0x0, 0xffff, 0x0⟩,
   ⟨0x1230014, [], 0x0, 0x0, 0x0, 0x0, 0x0, 0x7f, 0x1⟩,
   ⟨0x1230018, [], 0x0, 0x0, 0x0, 0x0, 0x0, 0x3ff, 0x32⟩,
   ⟨0x1230020, [], 0x0, 0x0, 0x7f, 0x0, 0x0, 0x0, 0x0⟩,
   ⟨0x1230024, [], 0x0, 0x7fffff, 0x0, 0x0, 0x0, 0x0, 0x0⟩,
   ⟨0x1230028, [], 0x0, 0xffffff3f, 0x0, 0x0, 0x0, 0x0, 0x0⟩,
   ⟨0x1230100, [(0x10, 64)], 0x0, 0x0, 0x0, 0x0, 0x0, 0xffff3fff, 0x0⟩,
   ⟨0x1230104, [(0x10, 64)], 0x0, 0x0, 0x0, 0x0, 0x0, 0xffffffff, 0x0⟩] ++
  [⟨0x1230108, [(0x10, 64)], 0x0, 0xffff0003, 0x0, 0x4, 0x0, 0x0, 0x0⟩,
   ⟨0x1240100, [(0x10, 8)], 0x0, 0x0, 0x0, 0x0, 0x0, 0xffff7fff, 0x1f400000⟩,
   ⟨0x1240104, [(0x10, 8)], 0x0, 0x0, 0x0, 0x0, 0x0, 0xffffff, 0x0⟩,
   ⟨0x1240108, [(0x10, 8)], 0x0, 0x0, 0x0, 0x0, 0x0, 0xfffffff, 0x7d5028⟩,
   ⟨0x124010c, [(0x10, 8)], 0x0, 0xffff0001, 0x0, 0x0, 0x0, 0x0, 0x0⟩,
   ⟨0x1250100, [(0x20, 4)], 0x0, 0x0, 0x0, 0x0, 0x0, 0x3f, 0x3⟩,
   ⟨0x1250104, [(0x20, 4)], 0x0, 0x0, 0x0, 0x0, 0x0, 0xffffff, 0x3641⟩,
   ⟨0x1250108, [(0x20, 4)], 0xff, 0x700, 0x0, 0x0, 0x0, 0x0, 0x0⟩,
   ⟨0x125010c, [(0x20, 4)], 0x0, 0x7f7f, 0x0, 0x8000, 0x0, 0x0, 0x0⟩,
   ⟨0x1250110, [(0x20, 4)], 0x73f3f, 0x0, 0x0, 0x0, 0x0, 0x0, 0x0⟩,
   ⟨0x1260100, [(0x20, 2)], 0x0, 0x0, 0x0, 0x0, 0x0, 0x1ff1f, 0x3100⟩,
   ⟨0x1260104, [(0x20, 2)], 0x0, 0x0, 0x8001ffff, 0x0, 0x0, 0x0, 0x0⟩] ++
  [⟨0x1260108, [(0x20, 2)], 0x0, 0x0, 0xffffffff, 0x0, 0x0, 0x0, 0x0⟩,
   ⟨0x126010c, [(0x20, 2)], 0x0, 0xffffffff, 0x0, 0x0, 0x0, 0x0, 0x0⟩,
   ⟨0x1260110, [(0x20, 2)], 0x0, 0x1, 0x0, 0x2, 0x0, 0x0, 0x0⟩,
   ⟨0x1270100, [(0x40, 2)], 0x0, 0x0, 0x0, 0x0, 0x0, 0x1, 0x0⟩,
   ⟨0x1270104, [(0x40, 2)], 0x0, 0x0, 0x80003fff, 0x0, 0x0, 0x0, 0x0⟩,
   ⟨0x1270108, [(0x40, 2)], 0x0, 0x1, 0x0, 0x1e, 0x0, 0x0, 0x0⟩,
   ⟨0x1270120, [(0x40, 2), (0x4, 8)], 0xffffffff, 0x0, 0x0, 0x0, 0x0, 0x0, 0x0⟩]

/-- The registers of the Gl block. -/
def regsGl : List RegDesc :=
  [⟨0x1400000, [], 0x1, 0x0, 0x2, 0x0, 0x0, 0x0, 0x0⟩,
   ⟨0x1400004, [], 0x0, 0x0, 0x1, 0x0, 0x0, 0x0, 0x0⟩,
   ⟨0x1400008, [], 0x0, 0xff, 0x0, 0x0, 0x0, 0x0, 0x0⟩,
   ⟨0x140000c, [], 0x0, 0xff007fff, 0x0, 0x1f8000, 0x0, 0x0, 0x0⟩,
   ⟨0x1400010, [], 0x0, 0x0, 0x0, 0x0, 0x0, 0x7f07ff01, 0x0⟩,
   ⟨0x1400014, [], 0xff, 0x0, 0x0, 0x0, 0x0, 0x0, 0x0⟩,
   ⟨0x1400018, [], 0x0, 0xffffffff, 0x0, 0x0, 0x0, 0x0, 0x0⟩,
   ⟨0x140001c, [], 0xffffffff, 0x0, 0x0, 0x0, 0x0, 0x0, 0x0⟩,
   ⟨0x1400020, [], 0x0, 0xffff, 0x0, 0x0, 0x0, 0x0, 0x0⟩,
   ⟨0x1400030, [], 0x7f, 0x80, 0x80000000, 0x0, 0x0, 0x0, 0x0⟩,
   ⟨0x1400034, [], 0x0, 0x7ff1f, 0x80000000, 0x0, 0x0, 0x0, 0x0⟩,
   ⟨0x1400100, [(0x4, 16)], 0x0, 0xffffffff, 0x0, 0x0, 0x0, 0x0, 0x0⟩] ++
  [⟨0x1400200, [(0x4, 16)], 0xffffffff, 0x0, 0x0, 0x0, 0x0, 0x0, 0x0⟩,
   ⟨0x1400300, [(0x4, 16)], 0x0, 0xffffffff, 0x0, 0x0, 0x0, 0x0, 0x0⟩]

/-- The registers of the Tmr block. -/
def regsTmr : List RegDesc :=
  [⟨0x1500000, [], 0x0, 0x0, 0xffff, 0x0, 0x0, 0x0, 0x0⟩,
   ⟨0x1500004, [], 0x0, 0x0, 0xffff, 0x0, 0x0, 0x0, 0x0⟩,
   ⟨0x1500008, [], 0x0, 0xfff, 0x0, 0x0, 0x0, 0x0, 0x0⟩,
   ⟨0x150000c, [], 0x0, 0xffffff, 0x0, 0x0, 0x0, 0x0, 0x0⟩,
   ⟨0x1500100, [(0x80, 16)], 0x3f, 0x0, 0x0, 0x0, 0x0, 0x0, 0x0⟩,
   ⟨0x1500104, [(0x80, 16)], 0x0, 0x33f00, 0x0, 0xc0ff, 0x0, 0x0, 0x0⟩,
   ⟨0x1500108, [(0x80, 16)], 0xffffffff, 0x0, 0x0, 0x0, 0x0, 0x0, 0x0⟩,
   ⟨0x150010c, [(0x80, 16)], 0xffff, 0x0, 0x0, 0x0, 0x0, 0x0, 0x0⟩,
   ⟨0x1500110, [(0x80, 16)], 0x0, 0xffffffff, 0x0, 0x0, 0x0, 0x0, 0x0⟩,
   ⟨0x1500114, [(0x80, 16)], 0x0, 0xffff, 0x0, 0x0, 0x0, 0x0, 0x0⟩,
   ⟨0x1500118, [(0x80, 16)], 0x0, 0xffffffff, 0x0, 0x0, 0x0, 0x0, 0x0⟩,
   ⟨0x150011c, [(0x80, 16)], 0x0, 0xffff, 0x0, 0x0, 0x0, 0x0, 0x0⟩] ++
  [⟨0x1500120, [(0x80, 16), (0x10, 4)], 0x1f, 0x0, 0x20, 0x0, 0x0, 0x0, 0x0⟩,
   ⟨0x1500124, [(0x80, 16), (0x10, 4)], 0xffffffff, 0x0, 0x0, 0x0, 0x0, 0x0, 0x0⟩,
   ⟨0x1500128, [(0x80, 16), (0x10, 4)], 0xffff, 0x0, 0x0, 0x0, 0x0, 0x0, 0x0⟩,
   ⟨0x150012c, [(0x80, 16), (0x10, 4)], 0xffffffff, 0x0, 0x0, 0x0, 0x0, 0x0, 0x0⟩]

/-- The registers of the Fn1 block. -/
def regsFn1 : List RegDesc :=
  [⟨0x10005f00, [], 0x0, 0x0, 0x0, 0x0, 0x7ffffff, 0x0, 0x0⟩,
   ⟨0x10005f04, [], 0x0, 0x0, 0x0, 0x0, 0x7ffffff, 0x0, 0x0⟩,
   ⟨0x10006400, [(0x4, 16)], 0x0, 0x0, 0x0, 0x0, 0xffffffff, 0x0, 0x0⟩,
   ⟨0x10008000, [], 0x1, 0x0, 0x0, 0x0, 0x0, 0x0, 0x0⟩,
   ⟨0x10008004, [], 0x0, 0x0, 0x1, 0x0, 0x0, 0x0, 0x0⟩,
   ⟨0x10008008, [], 0x0, 0x7fff, 0x0, 0x0, 0x0, 0x0, 0x0⟩,
   ⟨0x1000800c, [], 0x0, 0xffff00fe, 0x0, 0x1, 0x0, 0x0, 0x0⟩,
   ⟨0x10008018, [], 0xffffffff, 0x0, 0x0, 0x0, 0x0, 0x0, 0x0⟩,
   ⟨0x1000801c, [], 0xffffffff, 0x0, 0x0, 0x0, 0x0, 0x0, 0x0⟩,
   ⟨0x10008020, [], 0xffffffff, 0x0, 0x0, 0x0, 0x0, 0x0, 0x0⟩,
   ⟨0x10008024, [], 0xffffffff, 0x0, 0x0, 0x0, 0x0, 0x0, 0x0⟩,
   ⟨0x10008028, [], 0x1f, 0x0, 0x0, 0x0, 0x0, 0x0, 0x4⟩] ++
  [⟨0x1000802c, [], 0xff, 0x0, 0x0, 0x0, 0x0, 0x0, 0x64⟩,
   ⟨0x10009000, [(0x20, 4)], 0xffffffff, 0x0, 0x0, 0x0, 0x0, 0x0, 0x0⟩,
   ⟨0x10009004, [(0x20, 4)], 0xffffffff, 0x0, 0x0, 0x0, 0x0, 0x0, 0x0⟩,
   ⟨0x10009008, [(0x20, 4)], 0xffffffff, 0x0, 0x0, 0x0, 0x0, 0x0, 0x0⟩,
   ⟨0x1000900c, [(0x20, 4)], 0xffffffff, 0x0, 0x0, 0x0, 0x0, 0x0, 0x0⟩,
   ⟨0x10009010, [(0x20, 4)], 0x1f01ff, 0x0, 0x0, 0x0, 0x0, 0x0, 0x8⟩,
   ⟨0x10009014, [(0x20, 4)], 0x0, 0xffffffff, 0x0, 0x0, 0x0, 0x0, 0x0⟩,
   ⟨0x10009018, [(0x20, 4)], 0x0, 0xffff000f, 0x0, 0x0, 0x0, 0x0, 0x0⟩,
   ⟨0x1000e000, [(0x4, 256)], 0xffffffff, 0x0, 0x0, 0x0, 0x0, 0x0, 0x0⟩,
   ⟨0x1000f000, [(0x4, 2)], 0x0, 0xffffffff, 0x0, 0x0, 0x0, 0x0, 0x0⟩,
   ⟨0x10006000, [(0x4, 128)], 0x7, 0x0, 0x0, 0x0, 0x80000000, 0x0, 0x0⟩,
   ⟨0x10006200, [(0x4, 8)], 0x7, 0x0, 0x0, 0x0, 0x80000000, 0x0, 0x0⟩] ++
  [⟨0x10000000, [], 0x1, 0x0, 0x2, 0x0, 0x0, 0x0, 0x0⟩,
   ⟨0x10000004, [], 0x0, 0x0, 0x1, 0x0, 0x0, 0x0, 0x0⟩,
   ⟨0x10000008, [], 0x0, 0xff, 0x0, 0x0, 0x0, 0x0, 0x0⟩,
   ⟨0x1000000c, [], 0x0, 0xffffffbf, 0x0, 0x0, 0x0, 0x0, 0x8⟩,
   ⟨0x10000010, [], 0x0, 0x0, 0x0, 0x0, 0x0, 0xff, 0x10⟩,
   ⟨0x10000014, [], 0x0, 0xffffffff, 0x0, 0x0, 0x0, 0x0, 0x0⟩,
   ⟨0x10000018, [], 0x0, 0xf, 0x0, 0x0, 0x0, 0x0, 0x0⟩,
   ⟨0x10000020, [], 0x0, 0x0, 0x0, 0x0, 0x0, 0xfffff, 0x0⟩,
   ⟨0x10000024, [], 0x0, 0x0, 0x0, 0x0, 0x0, 0xffff, 0x0⟩,
   ⟨0x10000028, [], 0x0, 0x0, 0x0, 0x0, 0x0, 0xffff, 0x0⟩,
   ⟨0x1000002c, [], 0x0, 0x0, 0x0, 0x0, 0x0, 0xfffff, 0x0⟩,
   ⟨0x10000030, [], 0x0, 0xffff1fff, 0x0, 0x0, 0x0, 0x0, 0x0⟩] ++
  [⟨0x10000034, [], 0x0, 0x1ff, 0x0, 0x0, 0x0, 0x0, 0x0⟩,
   ⟨0x10000040, [], 0xf, 0x0, 0x0, 0x0, 0x0, 0x0, 0x0⟩,
   ⟨0x10000100, [(0x8, 4)], 0x80037fff, 0x0, 0x0, 0x0, 0x0, 0x0, 0x0⟩,
   ⟨0x10000104, [(0x8, 4)], 0xffffffff, 0x0, 0x0, 0x0, 0x0, 0x0, 0x0⟩]

/-- The registers of the 1 MiB block a key falls in. -/
def regBlock : Nat → List RegDesc
  | 0 => regsSys
  | 1 => regsPwr
  | 2 => regsPt
  | 3 => regsIc
  | 4 => regsHg
  | 5 => regsTp
  | 6 => regsSp
  | 7 => regsCmp
  | 8 => regsSo
  | 9 => regsLp
  | 10 => regsBl
  | 11 => regsAu
  | 12 => regsMx
  | 13 => regsHi
  | 14 => regsMem
  | 15 => regsAs
  | 16 => regsFm
  | 17 => regsPin
  | 18 => regsCio
  | 20 => regsGl
  | 21 => regsTmr
  | 256 => regsFn1
  | _ => []

/-- The register with this key, if the index names one. -/
def regDesc (a : Nat) : Option RegDesc := (regBlock (a / 0x100000)).find? (fun r => descHit r a)

/-- The last granule of target t at reset (R409, R412). -/
def lastGranuleReset : Nat → Nat
  | 0 => 14335 | 1 => 2047 | 2 => 10239 | 3 => 65535 | 4 => 511 | 24 => 63 | _ => 4095

/-- The reset value of a register word: the word of its table, but for the reset values that depend on the index:
the gamma tables (R148) and region 0 of the access tables (R412). -/
def resetWord (a : Nat) : Word :=
  match regDesc a with
  | none => 0
  | some r =>
    if r.base = 0x803000 then
      let e := (a - 0x803000) % 0x400 / 4
      BitVec.ofNat 32 (e * 4 + e / 64)
    else if r.base = 0x200080 then
      if (a - 0x200080) % 0x100 = 0 then BitVec.ofNat 32 (lastGranuleReset ((a - 0x200080) / 0x100) * 65536) else 0
    else if r.base = 0x200084 then
      if (a - 0x200084) % 0x100 = 0 then
        (if (a - 0x200084) / 0x100 = 4 ∨ (a - 0x200084) / 0x100 = 24 then 0x3000000C else 0xFFFFFFFF) else 0
    else BitVec.ofNat 32 r.reset

/-- What a write of v leaves in a register that held old, by its access codes alone (R7): read/write, lockable and
shadowed bits take v (a shadowed bit's stored value is its shadow), a 1 clears or sets a W1C or W1S bit, and every
other bit keeps its value. -/
def accessWrite (r : RegDesc) (old v : Word) : Word :=
  let rw := BitVec.ofNat 32 (r.rw ||| r.rws)
  let c := BitVec.ofNat 32 r.w1c
  let st := BitVec.ofNat 32 r.w1s
  (v &&& rw) ||| (old &&& ~~~rw &&& ~~~(c &&& v)) ||| (v &&& st)

end Sys2Proof.Machine
end

