-- ==== Sys2Proof/Config.lean ====
section
/-! DEFINITION. What the spec leaves open: the free values of the FP7440 model. Each is a constant with no body, so
nothing can evaluate it and no proof can lean on a value of it. The device applies one to its counter of free values
(Dev.freeCtr) and advances the counter, so each draw is fresh. -/

namespace Sys2Proof

/-- A free 32-bit value (log entry 3): each place that draws one names the rule that leaves it open. -/
opaque Config.freeWord : Nat → Word

end Sys2Proof
end

