-- ==== Sys2Proof/Machine/State.lean ====
section
/-! DEFINITION. The state of the FP7440: the register words, the memories with their code-word syndromes, the
engines, queues and timing counters of every block, everything the device has put on its interfaces, and the queue of
commands waiting. All of it is plain data. A register's value stands in `regs` (a shadowed register's shadow) and
`live` (a shadowed register's value in force); what an engine computes and a register only shows stands in the
engine's own structure, and the read of that register computes it (Machine/Bus.lean). -/

namespace Sys2Proof.Machine

/-- A beam coordinate frame:line:dot (R6, R22). -/
structure Beam where
  frame : Nat
  line  : Nat
  dot   : Nat
  deriving DecidableEq, Repr

/-- What a pad carries: nothing, a level, a level held for `on` of every `per` TCLK, or a peripheral's own signal. -/
inductive Drive where
  | none
  | level (b : Bool)
  | pwm (onLevel : Bool) (on per : Nat)
  | signal
  deriving DecidableEq, Repr

/-- What the device has put on one of its interfaces. -/
inductive Sent where
  /-- A read completed with this data to the master that asked (R7, R246). -/
  | readData (m : Nat) (v : Word)
  /-- A read by a host function completed with Completer Abort status, logged by Advanced Error Reporting (R279). -/
  | abort (f : Nat)
  /-- A posted write to host memory by a function (R251, R264, R299). -/
  | hostWrite (f : Nat) (addr : Nat) (bytes : List Byte)
  /-- A read request to host memory by a function (R255, R258). -/
  | hostRead (f : Nat) (addr : Nat) (len : Nat)
  /-- An MSI-X message of a function's vector (R247, R406). -/
  | msix (f : Nat) (vec : Nat)
  /-- A configuration request answered (true) or given Retry Status (false) (R436). -/
  | config (f : Nat) (ok : Bool)
  /-- A line leaving a port: its coordinate and its 24-bit pixels, of port C the three 10-bit DAC
codes (R133, R148). -/
  | portLine (x : Nat) (frame line : Nat) (px : List Nat)
  /-- A link-training sequence begins on a port (R143). -/
  | train (x : Nat)
  /-- An AUX or DDC transaction on a port: type, address, bytes (R145). -/
  | aux (x : Nat) (ty : Nat) (addr : Nat) (bytes : List Byte)
  /-- What a digital port sends once per frame in vertical blanking: the InfoFrame's VIC in HDMI mode (none: the Main Stream
Attributes of DisplayPort), and whether an Audio InfoFrame goes with it (R142, R144). -/
  | frameInfo (x : Nat) (vic : Option Nat) (audio : Bool)
  /-- Embedded audio samples of one tick on a port (R147). -/
  | embedded (x : Nat) (samples : List (BitVec 24))
  /-- One frame of a serial audio output (R236). -/
  | serialAudio (n : Nat) (samples : List (BitVec 24))
  /-- A flash command: 1 erase, 2 program, 3 read, with the physical address and data (R288, R294, R355). -/
  | flash (op : Nat) (addr : Nat) (bytes : List Byte)
  /-- What a pad carries changes (R318, R319, R341, R387). -/
  | pin (k : Nat) (v : Drive)
  /-- An LED string's data for one transfer (R344). -/
  | leds (s : Nat) (bytes : List Byte)
  /-- A UART character (R345). -/
  | uart (u : Nat) (b : Byte)
  /-- An SPI command's words (R346). -/
  | spi (i : Nat) (words : List Word)
  /-- An I2C command: address, read flag, bytes (R347). -/
  | i2c (i : Nat) (addr : Nat) (rd : Bool) (bytes : List Byte)
  /-- A Gwyn Link unit on GL_TX: kind (0 claim, 1 training, 2 configuration, 3 line packet, 4 break) and its words (R365, R366, R367). -/
  | link (kind : Nat) (words : List Nat)
  /-- The level of CORE_EN (R430). -/
  | coreEn (level : Bool)
  deriving DecidableEq, Repr

/-- The master timing (R24, R26, R27) and the TCLK count. -/
structure TimeSt where
  /-- TCLK edges since reset (R22). -/
  tclk    : Nat
  /-- The running source: none is the idle timing, else 0-2 port A-C, 3 genlock, 4 Link (R24, R26). -/
  src     : Option Nat
  frame   : Nat
  line    : Nat
  dot     : Nat
  /-- The start of the current line has not yet been delivered (R13). -/
  fresh   : Bool
  /-- A line start waits for its line tick (R28). -/
  tickDue : Bool
  /-- Flywheeling on a lost reference (R27). -/
  fly     : Bool
  /-- A SYS commit waits for the next frame start (R25). -/
  commit  : Bool
  /-- Lines in a frame of a received reference, as last measured; 0 before one is measured (R27). -/
  refLines : Nat
  /-- Bit x: output x began locking and jams at the next master frame start (R30). -/
  jam     : Tab Bool
  /-- The line start delivered last is a poll line not yet polled (R255). -/
  pollDue : Bool
  /-- Line starts delivered since reset, which time what the spec counts in lines. -/
  lines   : Nat
  deriving DecidableEq, Repr

/-- A timed write queue (R35): the entries in order of entry, and the issuer's entries stalled on a full queue. -/
structure TwqSt where
  entries : List TimedWrite
  stalled : List TimedWrite
  deriving DecidableEq, Repr

/-- A pending source of the interrupt controller (R396, R400, R403): its count (0: not pending), the beam of the first
raise counted, whether its Weir group has released it, and the target it is presented to. -/
structure PendSt where
  count : Nat
  beam  : Beam
  elig  : Bool
  shown : Option Nat
  deriving DecidableEq, Repr

/-- A Weir group (R403): the held count and the start edge. -/
structure WeirSt where
  hc : Nat
  t0 : Nat
  deriving DecidableEq, Repr

/-- The interrupt controller and the Weir: pending sources, round-robin pointers (m + 1, 0 is none, R400), groups, and
the vectors of the burst being issued to each function, in the order of their first entries (R406). -/
structure IcSt where
  pend  : Tab PendSt
  rr    : Tab Nat
  weir  : Tab WeirSt
  burst : Tab (List Nat)
  deriving DecidableEq, Repr

/-- A completion ready to be written (R250): its opcode, tag, the three words of the engine (RESULT is bit 0 of the
first), and the IRQ bit of its descriptor. -/
structure Comp where
  op   : Nat
  tag  : Nat
  w1   : Word
  w2   : Word
  w3   : Word
  irq  : Bool
  deriving DecidableEq, Repr

/-- A ring (R248, R249, R251, R258): the sampled TAIL and CQ head, HEAD, the completions written, the descriptors
fetched and not yet passed (at most 8), those passed to the engine and not yet taken up with the count HEAD had, the
commands and refusals whose completion is not written yet in ring order (none: still in its engine), the count of
descriptors asked of host memory, whether the one after those fetched could not be read, whether the ring stopped by R263
or R265 or by R267, and whether its wait was reported (R266). -/
structure RingSt where
  tail    : Nat
  cqHead  : Nat
  head    : Nat
  comps   : Nat
  fetched : List (BitVec 512)
  passed  : List (Nat × BitVec 512)
  issue   : List (Nat × Option Comp)
  asked   : Nat
  unread  : Bool
  err     : Bool
  stopped : Bool
  stalled : Bool
  deriving DecidableEq, Repr

/-- A host function's side of the host interface: Bus Master Enable (R243), the doorbell read outstanding and whether
a sample was taken (R255), the event queue's head of the last sample and entries written (R264), whether its stall was
already reported (R266), and a pending commit (R270). -/
structure HostSt where
  bme     : Bool
  dbOut   : Bool
  eqHead  : Nat
  eqCount : Nat
  eqStall : Bool
  commit  : Bool
  deriving DecidableEq, Repr

/-- A scene admitted and not yet in force (R58): its deadline frame, its envelope (slot, words), its worst line and
cost. -/
structure SceneSt where
  frame : Nat
  env   : Tab (List Nat)
  line  : Nat
  cost  : Nat
  deriving DecidableEq, Repr

/-- The Headgate of a pipe: the envelope in force (slot number to the entry's eight words, R47), the admitted scenes
(R58), and whether the timing cost was evaluated over the port's shadow set as it stands (R51). -/
structure HgSt where
  env   : Tab (List Nat)
  pend  : List SceneSt
  evald : Bool
  deriving DecidableEq, Repr

/-- The start ladder (R426): tenths of an ampere granted in the current slot, the pending starts in rising index, the
indices of engines that were granted and still run, whether event 6 was raised in this slot. -/
structure LadderSt where
  used    : Nat
  pending : List Nat
  running : List Nat
  told    : Bool
  deriving DecidableEq, Repr

/-- Power and reset: a DIM or HOLD request on its way, an OFF on its way, the engines a wake restarts (R427), the
warning armed (R437), a trip on its way, the level of CORE_EN (R430). -/
structure PwrSt where
  dimReq   : Bool
  holdReq  : Bool
  offReq   : Bool
  warned   : Bool
  tripping : Bool
  coreEn   : Bool
  /-- Reset has been released and the straps sampled (R435). -/
  released : Bool
  deriving DecidableEq, Repr

/-- An access held while LPDDR5 is not ready (R273): the master, the data address, and the data of a write with its
byte enables. -/
structure HeldAccess where
  master : Nat
  addr   : Nat
  data   : Option (Word × BitVec 4)
  deriving DecidableEq, Repr

/-- The memory controllers: held accesses, the scrubber's next LPDDR5 block and next SRAM word of the set (R281), and
the corrected words whose write-back is outstanding. -/
structure MemSt where
  held    : List HeldAccess
  /-- Accesses of masters stalled on the fabric's limit (R14), in the order they came. -/
  waiting : List HeldAccess
  scrubL  : Nat
  scrubS  : Nat
  deriving DecidableEq, Repr

/-- A composed line in a pipe's line buffer (R127): its coordinate and its 24-bit pixels. -/
structure LineBuf where
  frame : Nat
  line  : Nat
  px    : List Nat
  deriving DecidableEq, Repr

/-- A compositor pipe with its tile planes, sprites, Sluice and bitmaps. `xOn` says block x's set is in force, `xArm`
that an enable passed and applies at the next line-0 latch point, `xGo` that a commit is requested, `xOff` that the
block stops at the next latch point (R85, R108, R109, R420). -/
structure PipeSt where
  tpOn   : Bool
  tpArm  : Bool
  tpGo   : Bool
  tpOff  : Bool
  spOn   : Bool
  spArm  : Bool
  spGo   : Bool
  spOff  : Bool
  cmpOn  : Bool
  cmpArm : Bool
  cmpGo  : Bool
  cmpOff : Bool
  /-- The ports stopped by DIM, HOLD or a trip: the pipe resumes at the first line-0 latch point (R431). -/
  cmpDim : Bool
  /-- The grant of CMPp_CTL.EN was made and EN has not been cleared (R36). -/
  live   : Bool
  /-- The next latch point's frame and line (R33, R34). -/
  nextF  : Nat
  nextL  : Nat
  /-- The walk order in use, as (group, entry), and the one made at the last list point for the next frame (R91). -/
  walk     : List (Nat × Nat)
  walkNext : List (Nat × Nat)
  /-- The line and column table values of each plane in use on the line composited last, and those fetched for the
  next line (R77). -/
  lt     : Tab (List Nat)
  ltNext : Tab (List Nat)
  ct     : Tab (List Nat)
  ctNext : Tab (List Nat)
  /-- Planes whose table this frame's commit enabled: not used on line 0 (R77). -/
  ltNew  : Tab Bool
  /-- Bit 2b + axis: the part has computed a value since the commit that enabled it (R104). -/
  slHas  : Tab Bool
  /-- The line buffer waiting for its row write (R127). -/
  buf    : Option LineBuf
  /-- Lines begun whose row write has not completed (R134). -/
  begun  : List (Nat × Nat)
  /-- Fetches outstanding past their pass (R117). -/
  lateOut : List LateFetch
  /-- Span fetches omitted so far in this frame (R114). -/
  cull   : Nat
  deriving DecidableEq, Repr

/-- A port: its timing generator, scan-out and link (R129-R150). -/
structure PortSt where
  /-- The ladder granted the start and the pixel PLL is locking (R129). -/
  locking : Bool
  /-- Locked, waiting for the mate's frame start (R139). -/
  waiting : Bool
  run     : Bool
  frame   : Nat
  line    : Nat
  dot     : Nat
  /-- Dot 0 of the current line has not been delivered yet. -/
  fresh   : Bool
  /-- Dots owed, in millionths (DOTCLK_KHZ against TCLK). -/
  acc     : Nat
  /-- A commit is requested (R130, R140), and one was made that the timing generator takes at the next 0:0:0. -/
  commit  : Bool
  change  : Bool
  /-- Black pixels to the end of the frame (R30, R131). -/
  black   : Bool
  /-- The CRC of each rectangle so far (R137). -/
  crc     : Tab Word
  /-- Genlock steering has begun on this output (R29, R31). -/
  steer   : Bool
  /-- The type of the AUX or DDC transaction in progress (R145). -/
  aux     : Nat
  deriving DecidableEq, Repr

/-- What a line processor's beam wait waits for (R162): a start of a master line or a delivery of a master dot, with
whether it has come since the wait began. -/
inductive LpWait where
  | none
  | line (v : Nat) (hit : Bool)
  | dot (v : Nat) (hit : Bool)
  deriving DecidableEq, Repr

/-- The states of R169 (WAIT is run with a wait). -/
inductive LpMode where
  | reset
  | run
  | halt
  | fault
  deriving DecidableEq, Repr

/-- A saved context (R166): the next word, the predicates, LOOP.CNT, the remaining repeat and whether its hazard was reported
(R187), the beam wait the code was in, the running cause and priority. -/
structure LpCtx where
  pc    : Nat
  preds : BitVec 8
  loop  : Word
  rep   : Option Nat
  haz   : Bool
  wait  : LpWait
  cause : Nat
  pri   : Nat
  deriving DecidableEq, Repr

/-- An access of the IO unit on its way (R163): a posted write, or a read and whether its result is still wanted. -/
inductive IoOp where
  | wr (a : Nat) (v : Word)
  | rd (a : Nat) (keep : Bool)
  deriving DecidableEq, Repr

/-- A line processor (R151-R192). `port` holds the general registers (ports 0-31) and every operand, result and state
port by its number. -/
structure LpSt where
  mode    : LpMode
  /-- The beam wait, and whether an IRQ.WAIT stalls the LP (R162, R168). -/
  wait    : LpWait
  irqWait : Bool
  /-- The word at pc met a stall that interrupts cannot cut (R153). -/
  stalled : Bool
  /-- A RUN whose check passed waits for its ladder grant (R171). -/
  starting : Bool
  /-- The debug port holds the halt (R172). -/
  dbgHalt : Bool
  /-- A STEP is under way: the LP halts again after the next word (R172). -/
  stepping : Bool
  pc      : Nat
  port    : Tab Word
  preds   : BitVec 8
  /-- The word at pc still to execute this many times (R186). -/
  rep     : Option Nat
  /-- The repeat hazard of this repeat was reported (R187). -/
  hazTold : Bool
  /-- The word after a LOOP.REP: no interrupt before its first iteration (R186). -/
  repFresh : Bool
  stack   : List LpCtx
  /-- The running handler's event (0xFFFF none) and priority (0xFF none). -/
  cause   : Nat
  pri     : Nat
  io      : List IoOp
  /-- LPCLK cycles since the LP left RESET (R191). -/
  cyc     : Nat
  deriving DecidableEq, Repr

/-- A timer (R378 to R391): the count, the shadow of its high half, the compares' values and the shadows of their high
halves, and the captures. Its run, armed, new and level bits stand in TMRn_STAT. -/
structure TmrSt where
  cnt   : Nat
  cntHi : Nat
  v     : Tab Nat
  vHi   : Tab Nat
  capr  : Nat
  capf  : Nat
  deriving DecidableEq, Repr

/-- A quadrature decoder (R327, R328): the phase 2A + B, the TCLK of the last accepted step, the TCLK at which the
phase last changed with the count and last step before that edge, and whether its event was raised in this line. -/
structure DecSt where
  phase : Nat
  last  : Option Nat
  edge  : Option (Nat × Word × Option Nat)
  told  : Bool
  deriving DecidableEq, Repr

/-- A coin or ticket channel (R333): the start of the pulse in progress, whether it was already rejected as too long,
and the end of the previous pulse. -/
structure CoinSt where
  start : Option Nat
  long  : Bool
  ended : Option Nat
  deriving DecidableEq, Repr

/-- A pending charge of the coil scheduler (R340): its current, and the lines it still bears on. -/
structure Charge where
  ma    : Nat
  lines : Nat
  deriving DecidableEq, Repr

/-- The coil scheduler (R339 to R342): running, a commit or enable waiting for the line tick, the requests of this line,
the charges, and whether event 496 was raised in this line. -/
structure DrvSt where
  on      : Bool
  arm     : Bool
  starts  : List Nat
  stops   : List Nat
  charges : List Charge
  told    : Bool
  deriving DecidableEq, Repr

/-- An LED string (R344, R349): enabled in force, and a commit or enable waiting for its frame start. -/
structure LedSt where
  on  : Bool
  arm : Bool
  deriving DecidableEq, Repr

/-- A UART (R345): its FIFOs, each received byte with its parity and framing error, and the byte being sent. -/
structure UartSt where
  tx   : List Byte
  rx   : List (Byte × Bool × Bool)
  busy : Option Byte
  deriving DecidableEq, Repr

/-- An SPI port (R346): its FIFOs and the command in progress. -/
structure SpiSt where
  tx  : List Word
  rx  : List Word
  cmd : Option Word
  deriving DecidableEq, Repr

/-- Pins and cabinet I/O. -/
structure IoSt where
  /-- What each pad carries, as last put on it. -/
  pads  : Tab Drive
  dec   : Tab DecSt
  coin  : Tab CoinSt
  /-- The ADC's next channel and each channel's last conversions, newest first (R330, R331). -/
  adcNext : Nat
  adcHist : Tab (List Nat)
  drv   : DrvSt
  led   : Tab LedSt
  uart  : Tab UartSt
  spi   : Tab SpiSt
  /-- The I2C command in progress (R347). -/
  i2c   : Tab (Option Word)
  /-- Pattern-unit wakes and other wake causes met in HOLD and not yet taken (R432). -/
  wakes : List WakeCause
  /-- The timers and the SLCK accumulator (R392). -/
  tmr   : Tab TmrSt
  acc   : Nat
  deriving DecidableEq, Repr


/-- A blit command's fields (R196), with whether a reserved field of its descriptor is nonzero. -/
structure BlitCmd where
  op      : Nat
  bgt     : Bool
  src     : Nat
  dst     : Nat
  clipEn  : Nat
  clipIdx : Nat
  sx      : Nat
  sy      : Nat
  dx      : Nat
  dy      : Nat
  w       : Nat
  h       : Nat
  cola    : Nat
  colb    : Nat
  bad     : Bool
  deriving DecidableEq, Repr

/-- A blit command running: its ring, place and descriptor (none in register mode), its fields, the segments done. -/
structure BlitRun where
  from' : Option (Nat × Nat × BitVec 512)
  cmd   : BlitCmd
  done  : Nat
  deriving DecidableEq, Repr

/-- The blit engine (R199 to R209): the command running, a register command started and not yet begun, the ring served
last, a commit pending. -/
structure BlitSt where
  run    : Option BlitRun
  go     : Option BlitCmd
  last   : Nat
  commit : Bool
  deriving DecidableEq, Repr


/-- A gain and its change under way (R222): from g0 to g1 in r samples, of which k have passed. -/
structure Ramp where
  g0 : Int
  g1 : Int
  k  : Nat
  r  : Nat
  deriving DecidableEq, Repr

/-- A voice (R217 to R223): its parameters, its position in 1/65,536 frames, its gains, the sample at which a VSTOP ends
it, and the values of its two channels for the current and the previous sample. -/
structure VoiceSt where
  on    : Bool
  fmt   : Nat
  st    : Bool
  loop  : Bool
  herm  : Bool
  addr  : Nat
  len   : Nat
  loops : Nat
  loope : Nat
  pitch : Nat
  pos   : Nat
  gl    : Ramp
  gr    : Ramp
  stop  : Option Nat
  outL  : Int
  outR  : Int
  prevL : Int
  prevR : Int
  deriving DecidableEq, Repr

/-- A command in the audio command queue (R215): its tag, ring, place in the ring and descriptor. -/
structure AuCmd where
  tag  : Nat
  ring : Nat
  id   : Nat
  desc : BitVec 512
  deriving DecidableEq, Repr

/-- What a valid page holds beside its COUNT, NWORDS and RATE (R225): NCODE and the masks of its header. -/
structure PageInfo where
  ncode : Nat
  bq    : Nat
  dw    : Nat
  dr    : Nat
  deriving DecidableEq, Repr

/-- A crossfade (R234): its length, the samples done, and the old page (none: silence). -/
structure XFade where
  x   : Nat
  j   : Nat
  old : Option Nat
  deriving DecidableEq, Repr

/-- The audio block (R210 to R241). `cnt` is the number of the next sample tick; `lost` a stop under R212; `frames` the
serial input frames completed since the last tick; `now` the input samples taken last; `g1` and `g2` the graph values of
the last two samples; `out` the output sample of the next serial frame. `wreg` holds the accumulators (0-3) and work
registers (4 + w) of page i from 512 i, `secs` the coefficients and state of each section, `load` a page load under way. -/
structure AudioSt where
  cnt    : Nat
  lost   : Bool
  commit : Bool
  retire : Bool
  voices : Tab VoiceSt
  gains  : Tab Ramp
  queue  : List AuCmd
  frames : Tab (List (List (BitVec 24)))
  now    : Tab (List (BitVec 24))
  g1     : List Int
  g2     : List Int
  out    : List Int
  wreg   : Tab Int
  secs   : Tab (List Int)
  secOut : Tab Int
  pages  : Tab PageInfo
  xf     : Option XFade
  load   : Option (Nat × Nat × BitVec 512)
  deriving DecidableEq, Repr


/-- An AREAD under way (R290): its ring, place and descriptor, the bytes written, the most bits corrected, the highest
retry step, the sectors lost, and the remap entry of the logical block being read. -/
structure AreadRun where
  ring  : Nat
  id    : Nat
  desc  : BitVec 512
  done  : Nat
  corr  : Nat
  retry : Nat
  lost  : Nat
  bad   : Bool
  entry : Option (Nat × Nat)
  deriving DecidableEq, Repr

/-- The asset store controller (R285 to R295): the AREAD under way, the ring served last, the flash address of the
register command under way, and the next page of the patrol as logical block × PPB + page. -/
structure AssetSt where
  run    : Option AreadRun
  last   : Nat
  pcmd   : Option Nat
  patrol : Nat
  deriving DecidableEq, Repr


/-- A descriptor in progress on a Flume channel (R298 to R305): its ring, place and words, the bytes done, and the first
mismatch of a COMPARE. -/
structure FmRun where
  ring : Nat
  id   : Nat
  desc : BitVec 512
  done : Nat
  mism : Option Nat
  deriving DecidableEq, Repr


/-- A write of the ledger SRAM (R351, R352): its master, the word, OP (0 store, 1 add, 2 saturating add) and the value. -/
structure LgWrite where
  master : Nat
  word   : Nat
  op     : Nat
  data   : Word
  deriving DecidableEq, Repr

/-- A commit from its snapshot edge on (R355): its ring, place and descriptor (none: an emergency commit), the target
block, the SEQ it writes, the snapshot's beam time, and the result and voltage of its hold-up conversion. -/
structure LgRun where
  from'  : Option (Nat × Nat × BitVec 512)
  block  : Nat
  seq    : Nat
  snap   : Beam
  code   : Nat
  volt   : Nat
  deriving DecidableEq, Repr

/-- The ledger (R350 to R362): the write queue, the writes of stalled writers, the commit running, the steps that failed
commits moved the target on (R356), an emergency commit waiting for the one running, a fall of PFAIL_N in HOLD not yet
raised, and a commit of the LG set waiting for the end of the commit running. The SRAM is memory 18. -/
structure LedgerSt where
  queue   : List LgWrite
  stalled : List LgWrite
  run     : Option LgRun
  skip    : Nat
  emerg   : Bool
  told    : Bool
  apply   : Bool
  deriving DecidableEq, Repr


/-- The Gwyn Link node (R363 to R377). Its STATE, node number, N, S code and RTT stand in its registers. -/
structure LinkSt where
  /-- It forwarded a lower claim and sends its own no more (R365). -/
  silent : Bool
  /-- The master's training set has returned: packets begin at the next master frame start (R366). -/
  ready  : Bool
  /-- The line period of the timing it sends, as training took it; none is one the spec gives no number for. -/
  period : Option Nat
  /-- Two masters met (R375). -/
  conflict : Bool
  /-- A commit waits for the next master frame start (R377). -/
  commit : Bool
  /-- RESYNC was written on a slave (R373). -/
  adopt  : Bool
  /-- Consecutive lines with a good header, and without one (R373, R374). -/
  good   : Nat
  miss   : Nat
  /-- A packet with a good header has come in this line. -/
  got    : Bool
  /-- The master's packet of this line is still to be sent (R367). -/
  due    : Bool
  /-- The ring is broken (R374). -/
  broken : Bool
  /-- The node has left the schedule since it was trained, so that R373's re-entry holds. -/
  left   : Bool
  /-- The node stays out of the schedule until RESYNC (R373). -/
  frameX : Bool
  /-- Event 500 was raised in this line (R376). -/
  told   : Bool
  /-- The slots as they last returned to the master (R367). -/
  lap    : List LinkSlot
  /-- The own slot, as formed at the last line tick (R370). -/
  own    : LinkSlot
  /-- The slots collected of the last line received, and of the line before it (R371). -/
  part   : List LinkSlot
  full   : List LinkSlot
  /-- Fragments of each node's message so far (R372). -/
  asm    : Tab (Option (List (BitVec 8)))
  /-- The message being sent: the bytes still to send, and whether its first fragment has been formed. -/
  tx     : Option (List (BitVec 8) × Bool)
  /-- The receive queue: sender and bytes. -/
  rx     : List (Nat × List (BitVec 8))
  deriving DecidableEq, Repr


/-- The block's whole state but for the queue of commands: registers, memories, engines, interfaces. -/
structure Dev where
  /-- Register words by key (RegMap), absent at their reset value. A shadowed register's entry is its shadow. -/
  regs  : Tab Word
  /-- Shadowed registers' values in force (R420). -/
  live  : Tab Word
  /-- The ports' timing registers as their timing generators use them: a commit reaches these at 0:0:0 (R130). -/
  scan  : Tab Word
  /-- Every memory of R18 and LPDDR5, by flat byte address (Machine/Ecc.lean), unlisted bytes 0. -/
  mem   : List Host.Cell
  /-- The syndrome of each stored code word that is not 0, by the flat address of the word (R275). -/
  syn   : Tab (BitVec 8)
  /-- Everything put on the interfaces, oldest first. -/
  sent  : List Sent
  /-- Free values drawn so far (Config.freeWord; the model's own field). -/
  freeCtr : Nat
  time  : TimeSt
  twq   : Tab TwqSt
  ic    : IcSt
  host  : Tab HostSt
  rings : Tab RingSt
  /-- The PCIe link is up (R267). -/
  link  : Bool
  hg    : Tab HgSt
  ladder : LadderSt
  pwr   : PwrSt
  memc  : MemSt
  pipes : Tab PipeSt
  ports : Tab PortSt
  lps   : Tab LpSt
  io    : IoSt
  blit  : BlitSt
  au    : AudioSt
  asset : AssetSt
  /-- The descriptor in progress of each Flume channel. -/
  flume : Tab (Option FmRun)
  lg    : LedgerSt
  gl    : LinkSt
  deriving DecidableEq, Repr

/-- The state: the device and the commands waiting, first in, first out. -/
structure State where
  dev     : Dev
  pending : List Instr
  deriving DecidableEq, Repr

/-- An audio block with nothing playing. -/
def AudioSt.init : AudioSt :=
  { cnt := 0, lost := false, commit := false, retire := false, voices := [], gains := [], queue := [], frames := [], now := [],
    g1 := [], g2 := [], out := [], wreg := [], secs := [], secOut := [], pages := [], xf := none, load := none }

/-- A ledger with nothing under way. -/
def LedgerSt.init : LedgerSt := ⟨[], [], none, 0, false, false, false⟩

/-- A Link node that is off. -/
def LinkSt.init : LinkSt :=
  { silent := false, ready := false, period := none, conflict := false, commit := false, adopt := false, good := 0, miss := 0,
    got := false, due := false, broken := false, left := false, frameX := false, told := false, lap := [],
    own := ⟨false, [], 0⟩, part := [], full := [], asm := [], tx := none, rx := [] }

/-- The master timing right after reset: the idle timing at 0:0:0, its first line start not yet delivered (R26). -/
def TimeSt.init : TimeSt :=
  { tclk := 0, src := none, frame := 0, line := 0, dot := 0, fresh := true, tickDue := false, fly := false, commit := false,
    refLines := 0, jam := [], pollDue := false, lines := 0 }

/-- The device right after reset (R434, R436): every register at its reset value (RegMap's resetWord), the on-chip memories 0
with good check bits, every engine idle, and reset still to be released. -/
def Dev.atReset : Dev :=
  { regs := [], live := [], scan := [], mem := [], syn := [], sent := [], freeCtr := 0, time := TimeSt.init, twq := [],
    ic := ⟨[], [], [], []⟩, host := [], rings := [], link := true, hg := [], ladder := ⟨0, [], [], false⟩,
    pwr := ⟨false, false, false, false, false, true, false⟩, memc := ⟨[], [], 0, 0⟩, pipes := [], ports := [], lps := [],
    io := { pads := [], dec := [], coin := [], adcNext := 0, adcHist := [], drv := ⟨false, false, [], [], [], false⟩, led := [],
            uart := [], spi := [], i2c := [], wakes := [], tmr := [], acc := 0 },
    blit := ⟨none, none, 67, false⟩, au := AudioSt.init, asset := ⟨none, 67, none, 0⟩, flume := [], lg := LedgerSt.init,
    gl := LinkSt.init }

/-- The state right after reset: no command waits. -/
def State.reset : State := ⟨Dev.atReset, []⟩

/-- Why a step stops. No command of this block makes it stop: a command whose access is refused, or that finds its
conditions not met, has the effect the spec gives (a violation, a refusal code) and the block goes on. -/
inductive Fault where
  /-- Raised by nobody: the block has no state in which it stops. Safe. -/
  | stopped
  deriving DecidableEq, Repr

/-- Why a command has no meaning. -/
inductive Refusal where
  /-- Raised by Machine/Dispatch.lean for a command whose meaning is not written yet. Safe. -/
  | notModelled (mnemonic : String)
  deriving DecidableEq, Repr

end Sys2Proof.Machine
end

