-- ==== Sys2Proof/Machine/Ops.lean ====
section
/-! DEFINITION. The named operations every block uses: sparse tables, bit fields, and the device's registers, shadow
sets and engine structures. -/

namespace Sys2Proof

/-- The entry of index i: the table's, or the default of that index. -/
def Tab.get {α : Type} (dflt : Nat → α) : Tab α → Nat → α
  | [], i => dflt i
  | (j, a) :: t, i => if j = i then a else Tab.get dflt t i

/-- The table with no entry at index i. -/
def Tab.erase {α : Type} (t : Tab α) (i : Nat) : Tab α := t.filter (fun e => e.1 != i)

/-- The table with an entry at index i, in rising order of index; i has no entry before. -/
def Tab.insert {α : Type} : Tab α → Nat → α → Tab α
  | [], i, a => [(i, a)]
  | (j, b) :: t, i, a => if i < j then (i, a) :: (j, b) :: t else (j, b) :: Tab.insert t i a

/-- The table with entry a at index i; an entry equal to the default is not listed. -/
def Tab.put {α : Type} [DecidableEq α] (dflt : Nat → α) (t : Tab α) (i : Nat) (a : α) : Tab α :=
  if a = dflt i then Tab.erase t i else Tab.insert (Tab.erase t i) i a

/-- The canonical form: indices strictly rising and no entry equal to its default. -/
def Tab.wf {α : Type} [DecidableEq α] (dflt : Nat → α) : Tab α → Bool
  | [] => true
  | (i, a) :: t => decide (a ≠ dflt i) && (match t with | [] => true | (j, _) :: _ => decide (i < j)) && Tab.wf dflt t

namespace Machine

/-! ### Bit fields -/

/-- Bits hi to lo of a word, as a number. -/
def fld (w : Word) (hi lo : Nat) : Nat := w.toNat / 2 ^ lo % 2 ^ (hi + 1 - lo)

/-- Bit i of a word. -/
def bit (w : Word) (i : Nat) : Bool := w.getLsbD i

/-- A word with bits hi to lo replaced by v (modulo the field's size). -/
def setFld (w : Word) (hi lo v : Nat) : Word :=
  let m := BitVec.ofNat 32 ((2 ^ (hi + 1 - lo) - 1) * 2 ^ lo)
  (w &&& ~~~m) ||| (BitVec.ofNat 32 (v * 2 ^ lo) &&& m)

/-- A word with bit i set to b. -/
def setBit (w : Word) (i : Nat) (b : Bool) : Word := setFld w i i (if b then 1 else 0)

/-- The number of a truth value. -/
def b2n (b : Bool) : Nat := if b then 1 else 0

/-- Saturating addition of 1. -/
def satInc (n mx : Nat) : Nat := if n < mx then n + 1 else mx

/-- A w-bit field read as a two's complement number. -/
def signed (w n : Nat) : Int := if n % 2 ^ w < 2 ^ (w - 1) then (n % 2 ^ w : Nat) else ((n % 2 ^ w : Nat) : Int) - (2 ^ w : Nat)

/-- An integer modulo 2^w as a natural number. -/
def wrapI (w : Nat) (z : Int) : Nat := (z % (2 ^ w : Nat)).toNat

/-- Division rounding up. -/
def ceilDiv (a b : Nat) : Nat := (a + b - 1) / b

/-- The numbers a to a + n - 1. -/
def rangeFrom (a n : Nat) : List Nat := (List.range n).map (a + ·)

/-- The n low bytes of a number, least significant first. -/
def toBytes (n v : Nat) : List Byte := (List.range n).map (fun i => BitVec.ofNat 8 (v / 2 ^ (8 * i)))

/-- The number a little-endian byte list spells. -/
def ofBytes : List Byte → Nat
  | [] => 0
  | b :: bs => b.toNat + 256 * ofBytes bs

/-! ### Registers -/

/-- The value of a register word; of a shadowed register, its shadow. -/
def Dev.reg (d : Dev) (a : Nat) : Word := Tab.get resetWord d.regs a

/-- The device with a register word set. -/
def Dev.setReg (d : Dev) (a : Nat) (v : Word) : Dev := { d with regs := Tab.put resetWord d.regs a v }

/-- Bits hi to lo of a register. -/
def Dev.rf (d : Dev) (a hi lo : Nat) : Nat := fld (d.reg a) hi lo

/-- Bit i of a register. -/
def Dev.rb (d : Dev) (a i : Nat) : Bool := bit (d.reg a) i

/-- A register takes a write by its access codes alone (R7). -/
def Dev.codeWrite (d : Dev) (a : Nat) (v : Word) : Dev :=
  match regDesc a with
  | some r => d.setReg a (accessWrite r (d.reg a) v)
  | none => d

/-- The device with bits hi to lo of a register replaced. -/
def Dev.setRf (d : Dev) (a hi lo v : Nat) : Dev := d.setReg a (setFld (d.reg a) hi lo v)

/-- The device with bit i of a register set to b. -/
def Dev.setRb (d : Dev) (a i : Nat) (b : Bool) : Dev := d.setRf a i i (b2n b)

/-- A shadowed register's value in force (R420). -/
def Dev.inForce (d : Dev) (a : Nat) : Word := Tab.get resetWord d.live a

/-- Bits hi to lo of a shadowed register's value in force. -/
def Dev.lf (d : Dev) (a hi lo : Nat) : Nat := fld (d.inForce a) hi lo

/-- Bit i of a shadowed register's value in force. -/
def Dev.lb (d : Dev) (a i : Nat) : Bool := bit (d.inForce a) i

/-- The registers at these keys take their shadow values (R420). -/
def Dev.apply (d : Dev) (ks : List Nat) : Dev :=
  { d with live := ks.foldl (fun t a => Tab.put resetWord t a (d.reg a)) d.live }

/-- A port timing register as the timing generator and scan-out use it (R130). -/
def Dev.scanWord (d : Dev) (a : Nat) : Word := Tab.get resetWord d.scan a

/-- Bits hi to lo of a port register as the timing generator uses it. -/
def Dev.sf (d : Dev) (a hi lo : Nat) : Nat := fld (d.scanWord a) hi lo

/-- The device having put something on an interface. -/
def Dev.send (d : Dev) (x : Sent) : Dev := { d with sent := d.sent ++ [x] }

/-- A fresh free value, and the device with the counter of free values advanced (log entry 3). -/
def Dev.free (d : Dev) : Word × Dev := (Config.freeWord d.freeCtr, { d with freeCtr := d.freeCtr + 1 })

/-! ### Engine structures -/

/-- A pipe's timed write queue with nothing in it. -/
def TwqSt.init : TwqSt := ⟨[], []⟩
/-- A source that is not pending. -/
def PendSt.init : PendSt := ⟨0, ⟨0, 0, 0⟩, false, none⟩
/-- A Weir group that holds nothing. -/
def WeirSt.init : WeirSt := ⟨0, 0⟩
/-- A host function after reset: Bus Master Enable is 0 (R243). -/
def HostSt.init : HostSt := ⟨false, false, 0, 0, false, false⟩
/-- A ring that was never enabled. -/
def RingSt.init : RingSt := ⟨0, 0, 0, 0, [], [], [], 0, false, false, false, false⟩
/-- Descriptors of ring r asked for and not arrived. -/
def RingSt.outstanding (q : RingSt) : Nat := (q.asked + 2 ^ 32 - q.head - q.fetched.length) % 2 ^ 32
/-- A Headgate with the empty envelope in force (R58). -/
def HgSt.init : HgSt := ⟨[], [], true⟩
/-- A pipe with nothing enabled; its next latch point is line 0 of frame 0. -/
def PipeSt.init : PipeSt :=
  { tpOn := false, tpArm := false, tpGo := false, tpOff := false, spOn := false, spArm := false, spGo := false,
    spOff := false, cmpOn := false, cmpArm := false, cmpGo := false, cmpOff := false, cmpDim := false, live := false, nextF := 0,
    nextL := 0, walk := [], walkNext := [], lt := [], ltNext := [], ct := [], ctNext := [], ltNew := [], slHas := [],
    buf := none, begun := [], lateOut := [], cull := 0 }
/-- A port whose timing generator is not enabled. -/
def PortSt.init : PortSt :=
  { locking := false, waiting := false, run := false, frame := 0, line := 0, dot := 0, fresh := false, acc := 0,
    commit := false, change := false, black := false, crc := [], steer := false, aux := 0 }
/-- A line processor in RESET (R169). -/
def LpSt.init : LpSt :=
  { mode := .reset, wait := .none, irqWait := false, stalled := false, starting := false, dbgHalt := false, stepping := false, pc := 0, port := [],
    preds := 0, rep := none, hazTold := false, repFresh := false, stack := [], cause := 0xFFFF, pri := 0xFF, io := [],
    cyc := 0 }

/-- Pipe p's timed write queue. -/
def Dev.tq (d : Dev) (p : Nat) : TwqSt := Tab.get (fun _ => TwqSt.init) d.twq p
/-- The device with pipe p's timed write queue replaced. -/
def Dev.setTq (d : Dev) (p : Nat) (q : TwqSt) : Dev := { d with twq := Tab.put (fun _ => TwqSt.init) d.twq p q }
/-- Pipe p. -/
def Dev.pipe (d : Dev) (p : Nat) : PipeSt := Tab.get (fun _ => PipeSt.init) d.pipes p
/-- The device with pipe p replaced. -/
def Dev.setPipe (d : Dev) (p : Nat) (q : PipeSt) : Dev := { d with pipes := Tab.put (fun _ => PipeSt.init) d.pipes p q }
/-- Port x (0-2: A-C). -/
def Dev.port (d : Dev) (x : Nat) : PortSt := Tab.get (fun _ => PortSt.init) d.ports x
/-- The device with port x replaced. -/
def Dev.setPort (d : Dev) (x : Nat) (q : PortSt) : Dev := { d with ports := Tab.put (fun _ => PortSt.init) d.ports x q }
/-- Line processor n. -/
def Dev.lp (d : Dev) (n : Nat) : LpSt := Tab.get (fun _ => LpSt.init) d.lps n
/-- The device with line processor n replaced. -/
def Dev.setLp (d : Dev) (n : Nat) (q : LpSt) : Dev := { d with lps := Tab.put (fun _ => LpSt.init) d.lps n q }
/-- Host function f. -/
def Dev.fn (d : Dev) (f : Nat) : HostSt := Tab.get (fun _ => HostSt.init) d.host f
/-- The device with host function f replaced. -/
def Dev.setFn (d : Dev) (f : Nat) (q : HostSt) : Dev := { d with host := Tab.put (fun _ => HostSt.init) d.host f q }
/-- Ring r (0-63 of function 0, 64-67 rings 0-3 of function 1). -/
def Dev.ring (d : Dev) (r : Nat) : RingSt := Tab.get (fun _ => RingSt.init) d.rings r
/-- The device with ring r replaced. -/
def Dev.setRing (d : Dev) (r : Nat) (q : RingSt) : Dev := { d with rings := Tab.put (fun _ => RingSt.init) d.rings r q }
/-- The Headgate of pipe p. -/
def Dev.gate (d : Dev) (p : Nat) : HgSt := Tab.get (fun _ => HgSt.init) d.hg p
/-- The device with the Headgate of pipe p replaced. -/
def Dev.setGate (d : Dev) (p : Nat) (q : HgSt) : Dev := { d with hg := Tab.put (fun _ => HgSt.init) d.hg p q }

/-! ### Clocks -/

/-- The device is frozen (R439). -/
def Dev.frozen (d : Dev) : Bool := d.rb Reg.pwrStat 2

/-- The power state: 0 RUN, 1 DIM, 2 HOLD, 3 OFF (R430). -/
def Dev.power (d : Dev) : Nat := d.rf Reg.pwrState 5 4

/-- CCLK and the clocks divided from it run: neither frozen (R439) nor in HOLD or OFF (Table — Power states). -/
def Dev.clocked (d : Dev) : Bool := !d.frozen && decide (d.power < 2)

/-! ### The effect of a command -/

/-- A reset, or what brings the rails up or down: it acts in every power state. -/
def State.anyPower (s : State) (f : Dev → Dev) : Host.Outcome State Fault Refusal := .next { s with dev := f s.dev }

/-- A command whose effect needs no CCLK. In OFF the core has no power and nothing but a reset acts (R430, R432). -/
def State.always (s : State) (f : Dev → Dev) : Host.Outcome State Fault Refusal :=
  .next (if s.dev.power = 3 then s else { s with dev := f s.dev })

/-- A command of a block clocked from CCLK: while those clocks stand still the request waits outside the block, so
the command leaves the state as it is (log entry 6). -/
def State.onClock (s : State) (f : Dev → Dev) : Host.Outcome State Fault Refusal :=
  .next (if s.dev.clocked then { s with dev := f s.dev } else s)

/-- A debug action: it needs the core's power and clock source, and acts while the device is frozen too (R438, R439). -/
def State.byDebug (s : State) (f : Dev → Dev) : Host.Outcome State Fault Refusal :=
  .next (if s.dev.power < 2 then { s with dev := f s.dev } else s)

end Machine
end Sys2Proof
end

