-- ==== Sys2Proof/Machine/Flags.lean ====
section
/-! DEFINITION. Status flags and events: raising a source (R396), the determinism status bits that events set (R44),
the Weir (R403, R404), presentation and priority (R399 to R402), and the report of a refused check (R418). -/

namespace Sys2Proof.Machine

/-- The SYS_DET_STAT class bit of an event (Table — Events that void the guarantee). -/
def detClass (n : Nat) : Option Nat :=
  if n = 45 ∨ n = 61 ∨ n = 77 ∨ n = 196 then some 0
  else if n = 46 ∨ n = 62 ∨ n = 78 then some 1
  else if n = 43 ∨ n = 59 ∨ n = 75 then some 2
  else if n = 2 ∨ n = 257 ∨ n = 259 ∨ n = 261 ∨ n = 263 ∨ n = 264 ∨ n = 266 ∨ n = 304 then some 3
  else if n = 198 ∨ n = 500 ∨ n = 504 then some 4
  else none

/-- The event numbers that Table — Event numbers reserves (R395). -/
def eventReserved (n : Nat) : Bool :=
  (8 ≤ n && n ≤ 15) || (84 ≤ n && n ≤ 87) || (98 ≤ n && n ≤ 127) || (232 ≤ n && n ≤ 255) || (268 ≤ n && n ≤ 271) ||
  (306 ≤ n && n ≤ 319) || 506 ≤ n

/-- Set a bit of SYS_DET_STAT (R44). -/
def Dev.setDet (d : Dev) (i : Nat) : Dev := d.setRb Reg.sysDetStat i true

/-- The master timing's coordinate. -/
def Dev.beam (d : Dev) : Beam := ⟨d.time.frame, d.time.line, d.time.dot⟩

/-! ### Sources -/

/-- IC_SRCn's fields (Table of IC_SRCn). -/
def srcEn (w : Word) : Bool := bit w 0
def srcTgt (w : Word) (m : Nat) : Bool := bit w (1 + m)
def srcPrio (w : Word) : Nat := fld w 15 8
def srcGroup (w : Word) : Nat := fld w 20 16
def srcVec (w : Word) : Nat := fld w 29 24

/-- The pending state of source n. -/
def Dev.pend (d : Dev) (n : Nat) : PendSt := Tab.get (fun _ => PendSt.init) d.ic.pend n
/-- The device with the pending state of source n replaced. -/
def Dev.setPend (d : Dev) (n : Nat) (q : PendSt) : Dev :=
  { d with ic := { d.ic with pend := Tab.put (fun _ => PendSt.init) d.ic.pend n q } }
/-- Weir group w. -/
def Dev.weir (d : Dev) (w : Nat) : WeirSt := Tab.get (fun _ => WeirSt.init) d.ic.weir w
/-- The device with Weir group w replaced. -/
def Dev.setWeir (d : Dev) (w : Nat) (q : WeirSt) : Dev :=
  { d with ic := { d.ic with weir := Tab.put (fun _ => WeirSt.init) d.ic.weir w q } }
/-- Source n's round-robin pointer: 0 names no target, m + 1 names target m (R400). -/
def Dev.rr (d : Dev) (n : Nat) : Nat := Tab.get (fun _ => 0) d.ic.rr n

/-- Event-queue entries of function f not yet taken up by the host, as far as the last sample says (R264). -/
def Dev.eqHeld (d : Dev) (f : Nat) : Nat := ((d.fn f).eqCount + 2 ^ 32 - (d.fn f).eqHead % 2 ^ 32) % 2 ^ 32

/-- Whether a target is ready (R399). -/
def Dev.ready (d : Dev) (t : Nat) : Bool :=
  if t < 2 then d.rb (Reg.hiCtl t) 0 && (d.fn t).bme
  else decide ((d.lp (t - 2)).mode = .run)

/-- Whether a target is idle (R404): an LP in IRQ.WAIT with no running handler, or a ready host function whose event
queue has caught up. -/
def Dev.idle (d : Dev) (t : Nat) : Bool :=
  if t < 2 then d.ready t && decide (d.eqHeld t = 0)
  else decide ((d.lp (t - 2)).mode = .run) && (d.lp (t - 2)).irqWait && decide ((d.lp (t - 2)).cause = 0xFFFF)

/-- The compatibility mode in force (R402). -/
def Dev.compat (d : Dev) : Bool := d.lb Reg.icCfg 0

/-- Presentation does not pass over target t for a source with this configuration (R400, R402). -/
def Dev.mayPresent (d : Dev) (w : Word) (t : Nat) : Bool :=
  srcTgt w t && d.ready t && (!d.compat || decide (d.rf (Reg.icThr t) 3 0 < srcPrio w % 16))

/-- The target a source is presented to: the first it may be, in ascending order after the pointer, wrapping (R400). -/
def Dev.pickTarget (d : Dev) (n : Nat) : Option Nat :=
  let w := d.reg (Reg.icSrc n)
  ((List.range 6).map (fun i => (d.rr n + i) % 6)).find? (fun t => d.mayPresent w t)

/-- One pending source presented again where its target ceased to be ready or it has none (R400). -/
def Dev.presentOne (d : Dev) (n : Nat) (q : PendSt) : PendSt :=
  if d.rb Reg.icCtl 0 && q.elig then
    match q.shown with
    | some t => if d.mayPresent (d.reg (Reg.icSrc n)) t then q else { q with shown := d.pickTarget n }
    | none => { q with shown := d.pickTarget n }
  else { q with shown := none }

/-- Every pending source presented under R400, after anything that changes readiness, eligibility or configuration. -/
def Dev.present (d : Dev) : Dev :=
  { d with ic := { d.ic with pend := d.ic.pend.map (fun e => (e.1, d.presentOne e.1 e.2)) } }

/-- A Weir group releases: every pending source of it becomes eligible and HC becomes 0 (R403). -/
def Dev.release (d : Dev) (g : Nat) : Dev :=
  let d1 : Dev := { d with ic := { d.ic with pend := d.ic.pend.map (fun e =>
    (e.1, if srcGroup (d.reg (Reg.icSrc e.1)) = g then { e.2 with elig := true } else e.2)) } }
  d1.setWeir g WeirSt.init

/-- Whether the group holds nothing back: CNT = 0 and US = 0 (R403). -/
def Dev.weirOff (d : Dev) (g : Nat) : Bool := decide (d.rf (Reg.icWeir g) 7 0 = 0) && decide (d.rf (Reg.icWeir g) 31 16 = 0)

/-- A raise adds to its source's pending state (R396) and to its Weir group (R403); an idle target named in its TGT
releases the group at once (R404). -/
def Dev.addPending (d : Dev) (n : Nat) : Dev :=
  let w := d.reg (Reg.icSrc n)
  let q := d.pend n
  let q1 := { q with count := satInc q.count 65535, beam := if q.count = 0 then d.beam else q.beam }
  let g := srcGroup w
  if d.weirOff g then (d.setPend n { q1 with elig := true }).present
  else
    let h := d.weir g
    let d1 := (d.setPend n q1).setWeir g ⟨satInc h.hc 255, if h.hc = 0 then d.time.tclk else h.t0⟩
    let full := d.rf (Reg.icWeir g) 7 0 ≠ 0 ∧ satInc h.hc 255 = d.rf (Reg.icWeir g) 7 0
    let bypass := (List.range 6).any (fun t => srcTgt w t && d.idle t)
    if full ∨ bypass then (d1.release g).present else d1.present

/-- Event n is raised: its raw bit, its class bit of SYS_DET_STAT, and, when its source is enabled, its pending count
(R44, R396). A reserved number is never raised (R395). -/
def Dev.raise (d : Dev) (n : Nat) : Dev :=
  let d1 := d.setRb (Reg.icRaw (n / 32)) (n % 32) true
  let d2 := match detClass n with | some c => d1.setDet c | none => d1
  if srcEn (d2.reg (Reg.icSrc n)) then d2.addPending n else d2

/-- Event n is raised when the condition holds. -/
def Dev.raiseIf (d : Dev) (c : Bool) (n : Nat) : Dev := if c then d.raise n else d

/-- Whether source a, of configuration wa, is more urgent than source b (R401, R402). -/
def Dev.moreUrgent (d : Dev) (a b : Nat) : Bool :=
  let pa := srcPrio (d.reg (Reg.icSrc a))
  let pb := srcPrio (d.reg (Reg.icSrc b))
  if d.compat then pb % 16 < pa % 16 else pa < pb

/-- The most urgent source presented to a target; ties go to the lowest event number (R401, R402). -/
def Dev.next (d : Dev) (t : Nat) : Option Nat :=
  d.ic.pend.foldl (fun best e =>
    if e.2.count ≠ 0 ∧ e.2.shown = some t then
      match best with
      | none => some e.1
      | some b => if d.moreUrgent e.1 b then some e.1 else best
    else best) none

/-- Target t takes source n: it stops being pending and its pointer moves to t (R397, R400). -/
def Dev.take (d : Dev) (n t : Nat) : Dev :=
  let d1 := d.setPend n PendSt.init
  { d1 with ic := { d1.ic with rr := Tab.put (fun _ => 0) d1.ic.rr n (t + 1) } }

/-- The tier of a priority: how many used boundaries in force are at most it (R401). -/
def Dev.tier (d : Dev) (prio : Nat) : Nat :=
  let ts := [d.lf Reg.icTier0 7 0, d.lf Reg.icTier0 15 8, d.lf Reg.icTier0 23 16, d.lf Reg.icTier0 31 24,
             d.lf Reg.icTier1 7 0, d.lf Reg.icTier1 15 8, d.lf Reg.icTier1 23 16]
  (ts.filter (fun t => t ≠ 0 ∧ t ≤ prio)).length

/-- The running priority of a handler of source n: its tier, or its level in compatibility mode (R401, R402). -/
def Dev.runPri (d : Dev) (n : Nat) : Nat :=
  let p := srcPrio (d.reg (Reg.icSrc n))
  if d.compat then p % 16 else d.tier p

/-- Whether source n may pre-empt code running at priority pri (0xFF: no handler) (R401, R402). -/
def Dev.mayPreempt (d : Dev) (n pri : Nat) : Bool :=
  if pri = 0xFF then true else if d.compat then pri < d.runPri n else d.runPri n < pri

/-! ### Refused checks -/

/-- A refusal: the check register takes the whole word of its report and event 0 is raised (R418). -/
def Dev.refuse (d : Dev) (chk : Nat) (w : Word) : Dev := (d.setReg chk w).raise 0

/-- A report of a check: the reason code in bits [7:0] and the failing instance from bit lo up (R418). -/
def chkWord (code lo idx : Nat) : Word := BitVec.ofNat 32 (code + idx * 2 ^ lo)

end Sys2Proof.Machine
end

