-- ==== Sys2Proof/Machine/Protect.lean ====
section
/-! DEFINITION. The access tables (R409 to R414): which target and offset an address reaches, whether a master may
access it, and the violation log. -/

namespace Sys2Proof.Machine

/-- The LPDDR5 data capacity D in bytes: seven eighths of the installed capacity (R272). -/
def Dev.dataCap (d : Dev) : Nat := 2 ^ d.rf Reg.memCfg 1 0 * 1879048192

/-- Bytes of the frame store (R18). -/
def frameBytes : Nat := 41943040

/-- The granule of a target in bytes (Table — Protection targets). -/
def granule : Nat → Nat
  | 0 => 1048576 | 1 => 4096 | 2 => 4096 | 3 => 4194304 | _ => 256

/-- The last granule of a target; for LPDDR5 by the capacity at this moment (R417). -/
def Dev.lastGranule (d : Dev) (t : Nat) : Nat := if t = 0 then d.dataCap / 1048576 - 1 else lastGranuleReset t

/-- Some region in use of table t grants master m the access to granule g (R410). -/
def Dev.granted (d : Dev) (m t g : Nat) (wr : Bool) : Bool :=
  (List.range 16).any (fun r =>
    d.rb (Reg.ptValid t) r && decide (d.rf (Reg.ptRange t r) 15 0 ≤ g) && decide (g ≤ d.rf (Reg.ptRange t r) 31 16) &&
    d.rb (Reg.ptPerm t r) (2 * m + b2n wr))

/-- Every byte of the access lies in a region that grants it (R410). -/
def Dev.permits (d : Dev) (m t off len : Nat) (wr : Bool) : Bool :=
  let g := granule t
  (rangeFrom (off / g) ((off + len - 1) / g + 1 - off / g)).all (fun k => d.granted m t k wr)

/-- A violation is logged and event 1 raised (R413, R414): the first after VALID was cleared is recorded, each later
one adds to CNT and sets MORE. `own` is the owning master of a Flume access (R21). -/
def Dev.violate (d : Dev) (m own t : Nat) (wr : Bool) (addr : Nat) : Dev :=
  let d1 :=
    if d.rb Reg.ptVlog 14 then
      (d.setRf Reg.ptVlog 31 16 (satInc (d.rf Reg.ptVlog 31 16) 65535)).setRb Reg.ptVlog 15 true
    else
      ((d.setReg Reg.ptVlog (BitVec.ofNat 32 (m + own * 16 + t * 256 + b2n wr * 8192 + 16384))).setReg Reg.ptVaddrLo
        (BitVec.ofNat 32 addr)).setReg Reg.ptVaddrHi (BitVec.ofNat 32 (addr / 2 ^ 32 % 64))
  d1.raise 1

/-- The target of TARGET 31: no target (R414). -/
def noTarget : Nat := 31

/-- Where an address leads: the target (31 for none), the offset checked within it, the key of the register or window
word, and the address a violation logs. -/
structure Place where
  target : Nat
  off    : Nat
  key    : Nat
  deriving DecidableEq, Repr

/-- The target whose range is the function 0 block of 1 MiB number n (Table — Protection targets). -/
def blockTarget (n : Nat) : Nat := if n ≤ 0x12 then n + 5 else if n = 0x14 then 25 else if n = 0x15 then 26 else noTarget

/-- The key is a word of a memory window of function 0 BAR0: map store (R64), sprite tables (R86), palettes (R121),
IMEM and DMEM (R170). -/
def windowWord (a : Nat) : Bool :=
  a % 4 = 0 &&
  ((0x1800000 ≤ a && a < 0x2000000) || (0x680000 ≤ a && a < 0x700000) || (0x710000 ≤ a && a < 0x720000) ||
   (0x790000 ≤ a && a < 0x7A0000) ||
   (0x900000 ≤ a && a < 0xA00000 && ((0x10000 ≤ a % 0x40000 && a % 0x40000 < 0x18000) ||
     (0x20000 ≤ a % 0x40000 && a % 0x40000 < 0x28000))))

/-- Whether a key is a register of the index or a word of a memory window. -/
def mapped (a : Nat) : Bool := windowWord a || (regDesc a).isSome

/-- Function 0's BAR0 offsets (R244, R409). An offset that maps nothing leads to no target. -/
def placeFn0 (a : Nat) : Place :=
  if !mapped a || decide (fn1Base ≤ a) then ⟨noTarget, a, a⟩
  else if 0x1800000 ≤ a then ⟨1, a - 0x1800000, a⟩
  else ⟨blockTarget (a / 0x100000), a % 0x100000, a⟩

/-- Function 1's BAR0 offsets (Table — Function 1 checked offsets). R284 and R295 give master 1 registers to which the
table gives no function 1 offset: an address beyond BAR0 that is their function 0 offset names them (log entry 5). -/
def placeFn1 (a : Nat) : Place :=
  let none' : Place := ⟨noTarget, a, fn1Base + a⟩
  let ok (k : Nat) (p : Place) : Place := if mapped k then p else none'
  if a < 0x4000 then
    if 0x2000 ≤ a then (if a % 4 = 0 then ⟨24, a, fn1Base + a⟩ else none') else ok (fn1Base + a) ⟨24, a, fn1Base + a⟩
  else if a < 0x5B00 then ok (0x200000 + (a - 0x4000)) ⟨7, a - 0x4000, 0x200000 + (a - 0x4000)⟩
  else if a = 0x5F00 ∨ a = 0x5F04 then ⟨7, a, fn1Base + a⟩
  else if a = 0x5F10 ∨ a = 0x5F14 ∨ a = 0x5F18 then ⟨7, 0x2010 + (a - 0x5F10), 0x202010 + (a - 0x5F10)⟩
  else if a < 0x6000 then none'
  else if a < 0x6400 then ok (fn1Base + a) ⟨22, 0x8000 + (a - 0x6000), fn1Base + a⟩
  else if a < 0x6440 then ok (fn1Base + a) ⟨8, 0x8000 + (a - 0x6400), fn1Base + a⟩
  else if a < 0x7000 then none'
  else if a < 0x7800 then ok (0x301000 + (a - 0x7000)) ⟨8, 0x1000 + (a - 0x7000), 0x301000 + (a - 0x7000)⟩
  else if a < 0x8000 then none'
  else if a < 0x9000 then ok (fn1Base + a) ⟨18, 0x10000 + (a - 0x8000), fn1Base + a⟩
  else if a < 0xE000 then ok (fn1Base + a) ⟨18, 0x11000 + (a - 0x9000), fn1Base + a⟩
  else if a < 0xF000 then ok (fn1Base + a) ⟨18, 0x18000 + (a - 0xE000), fn1Base + a⟩
  else if a < 0x10000 then ok (fn1Base + a) ⟨18, 0x19000 + (a - 0xF000), fn1Base + a⟩
  else if a = Reg.asLgpart ∨ a = Reg.asLgpfx then ⟨20, a - 0xF00000, a⟩
  else if 0xE01060 ≤ a ∧ a ≤ 0xE0106C then ok a ⟨19, a - 0xE00000, a⟩
  else none'

/-- The base that an LP I/O window reaches (Table — LP I/O windows). -/
def lpWindow : Nat → Nat
  | 0 => 0x1400000 | 1 => 0x300000 | 2 => 0x500000 | 3 => 0x580000 | 4 => 0x600000 | 5 => 0x604000 | 6 => 0x700000
  | 7 => 0x780000 | 8 => 0x800000 | 9 => 0x1200000 | 10 => 0x1210000 | 11 => 0x1220000 | 12 => 0x1230000
  | 13 => 0x1100000 | 14 => 0x1500000 | _ => fn1Base

/-- An LP I/O address (R456): a word that falls on no register of the index is unmapped, and memory windows are no
registers. An unmapped address is logged as itself (R414). -/
def placeLp (a : Nat) : Place :=
  let k := lpWindow (a / 4096 % 16) + 4 * (a % 4096)
  if (regDesc k).isSome && !windowWord k then
    if a / 4096 % 16 = 15 then ⟨24, k - fn1Base, k⟩ else ⟨blockTarget (k / 0x100000), k % 0x100000, k⟩
  else ⟨noTarget, a % 65536, a⟩

/-- The debug port's register space: function 0 offsets, or 0x1000_0000 plus a function 1 offset (R438, log entry 5). -/
def placeDebug (a : Nat) : Place := if a < fn1Base then placeFn0 a else placeFn1 (a - fn1Base)

/-- The master identifier of an issuer (Table — Master identifiers). -/
def masterOf : Src → Nat
  | .game => 0 | .custodian => 1 | .lp n => 2 + n.val | .debug => 13

/-- Where an issuer's address leads. -/
def placeOf : Src → Nat → Place
  | .game, a => placeFn0 a
  | .custodian, a => placeFn1 a
  | .lp _, a => placeLp a
  | .debug, a => placeDebug a

/-- The table registers, PT_CUST and PT_LOCK, which R416 governs and no table. -/
def isTableReg (k : Nat) : Bool := (0x200000 ≤ k && k < 0x201B00) || k = Reg.ptCust || k = Reg.ptLock

/-- The fixed rules of R411 refuse master m the key, whatever the table holds. -/
def fixedRefusal (m k : Nat) : Bool :=
  ((k = Reg.asLgpart || k = Reg.asLgpfx) && m ≠ 1 && m ≠ 14) ||
  (fn1Base + 0x6000 ≤ k && k < fn1Base + 0x6400 && m ≠ 1) ||
  (0x500040 ≤ k && k < 0x500060 && m ≠ 2 + (k - 0x500040) / 8) ||
  (fn1Base + 0x100 ≤ k && k < fn1Base + 0x120 && m ≠ 2 + (k - fn1Base - 0x100) / 8)

/-- Whether master m may make this access of one word (R410, R411). A write of a table register is judged by R416. -/
def Dev.admits (d : Dev) (m : Nat) (pl : Place) (wr : Bool) : Bool :=
  decide (pl.target ≠ noTarget) && !fixedRefusal m pl.key &&
  (if isTableReg pl.key && wr then true else d.permits m pl.target (if isTableReg pl.key then pl.off % 0x2000 else pl.off) 4 wr)

/-- A word access by an issuer: its effect where it is admitted, a violation otherwise (R413). -/
def Dev.access (d : Dev) (src : Src) (a : Nat) (wr : Bool) (f : Nat → Dev → Dev) : Dev :=
  let pl := placeOf src a
  if d.admits (masterOf src) pl wr then f pl.key d else d.violate (masterOf src) 0 pl.target wr pl.off

/-- Whether an issuer's access to a register known by its key is admitted: the issuer reaches the register in its own
address space, and the target's table and the fixed rules let it. Rows of the command table that name a register use it. -/
def keyPlace (src : Src) (k : Nat) : Place :=
  match src with
  | .game => placeFn0 k
  | .debug => placeDebug k
  | .custodian =>
    if fn1Base ≤ k then placeFn1 (k - fn1Base)
    else if 0x200000 ≤ k ∧ k < 0x201B00 then placeFn1 (0x4000 + (k - 0x200000))
    else if 0x202010 ≤ k ∧ k < 0x20201C then placeFn1 (0x5F10 + (k - 0x202010))
    else if 0x301000 ≤ k ∧ k < 0x301800 then placeFn1 (0x7000 + (k - 0x301000))
    else placeFn1 (if k < 0x10000 then 0x10000 else k)
  | .lp _ =>
    match ((List.range 16).map (fun w => (w, lpWindow w))).find? (fun e => e.2 ≤ k && k < e.2 + 0x4000) with
    | some (w, b) => placeLp (w * 4096 + (k - b) / 4)
    | none => ⟨noTarget, k, k⟩

/-- An access by an issuer to a register known by its key: its effect where it is admitted, a violation otherwise. -/
def Dev.accessKey (d : Dev) (src : Src) (k : Nat) (wr : Bool) (f : Dev → Dev) : Dev :=
  let pl := keyPlace src k
  if d.admits (masterOf src) pl wr then f d else d.violate (masterOf src) 0 pl.target wr pl.off

end Sys2Proof.Machine
end

