-- ==== Sys2Proof/Machine/Ecc.lean ====
section
/-! DEFINITION. The memories and their codes (R18, R274 to R280): one flat byte space with a region for each memory of
Table — Memory codes, the stored syndrome of every code word, decoding on read, narrow writes as indivisible
read-modify-writes, the flip mask, the counters and logs, and poison. -/

namespace Sys2Proof.Machine

/-- Where memory `id` of Table — Memory codes begins in the flat byte space. -/
def memBase (id : Nat) : Nat := id * 0x10000000000

/-- Bytes of data in a code word of memory id: 8 for the 64 + 8 codes, else 4. -/
def wordBytes (id : Nat) : Nat := if id = 0 ∨ id = 6 ∨ id = 17 ∨ id = 19 then 8 else 4

/-- Bytes of memory id (R18); for LPDDR5, D (R272). -/
def Dev.memBytes (d : Dev) (id : Nat) : Nat :=
  if id = 0 then d.dataCap else if id = 1 then 8388608 else if id ≤ 3 then 524288 else if id ≤ 5 then 65536
  else if id = 6 then frameBytes else if id ≤ 14 then 32768 else if id ≤ 16 then 65536 else if id = 17 then 262144
  else if id = 18 then 131072 else 16384

/-- The counter group of memory id (Table — Memory codes). -/
def memGroup (id : Nat) : Nat := if id = 0 then 0 else if id ≤ 5 then 1 else if id = 6 then 2 else 3

/-- The uncorrectable event of memory id (Table — Memory codes). -/
def memEvent (id : Nat) : Nat :=
  if id = 0 then 257 else if id ≤ 5 then 259 else if id = 6 then 261 else if id ≤ 14 then 263 else if id ≤ 16 then 264
  else if id = 17 then 304 else if id = 18 then 263 else 266

/-- The stored byte at a flat address; a byte nothing has written is 0 (log entry 4). -/
def Dev.byte (d : Dev) (a : Nat) : Byte := Tab.get (fun _ => 0) d.mem a

/-- The device with a stored byte set. -/
def Dev.setByte (d : Dev) (a : Nat) (b : Byte) : Dev := { d with mem := Tab.put (fun _ => 0) d.mem a b }

/-- The syndrome of the code word at a flat address (R275); 0 is a good word. -/
def Dev.synd (d : Dev) (a : Nat) : BitVec 8 := Tab.get (fun _ => 0) d.syn a

/-- The device with the syndrome of a code word set. -/
def Dev.setSynd (d : Dev) (a : Nat) (s : BitVec 8) : Dev := { d with syn := Tab.put (fun _ => 0) d.syn a s }

/-- How many bits of a number below 2^8 are set. -/
def weight8 (n : Nat) : Nat := (List.range 8).foldl (fun c i => c + n / 2 ^ i % 2) 0

/-- The columns of the data bits of the code whose words have wb data bytes (R275). -/
def columns (wb : Nat) : List Nat :=
  if wb = 8 then ((List.range 256).filter (fun n => weight8 n = 3)) ++
    [0x1F, 0x2F, 0x37, 0x3B, 0x3D, 0x3E, 0x4F, 0x57]
  else ((List.range 128).filter (fun n => weight8 n = 3)).take 32

/-- The XOR of the columns of the data bits set in a mask: the syndrome that flipping them gives (R275). -/
def maskSynd (wb mask : Nat) : Nat :=
  ((columns wb).zip (List.range 64)).foldl (fun s e => if mask / 2 ^ e.2 % 2 = 1 then s ^^^ e.1 else s) 0

/-- What decoding a code word gives (R275). -/
inductive WordRead where
  | good (v : Nat)
  | corrected (v : Nat) (bit : Nat)
  | bad
  deriving DecidableEq, Repr

/-- The stored data of the code word at flat address a, of wb bytes. -/
def Dev.rawWord (d : Dev) (a wb : Nat) : Nat := ofBytes ((List.range wb).map (fun i => d.byte (a + i)))

/-- Decode the code word at flat address a (R275). -/
def Dev.decodeWord (d : Dev) (a wb : Nat) : WordRead :=
  let s := (d.synd a).toNat
  let v := d.rawWord a wb
  if s = 0 then .good v
  else
    match (columns wb).findIdx? (· == s) with
    | some i => .corrected (v ^^^ 2 ^ i) i
    | none =>
      match (List.range 8).find? (fun j => 2 ^ j == s) with
      | some j => .corrected v (8 * wb + j)
      | none => .bad

/-- The data of a decoded word, 0 when it is uncorrectable. -/
def WordRead.value : WordRead → Nat
  | .good v => v
  | .corrected v _ => v
  | .bad => 0

/-- A correction counts in its group, is logged, and overflows the group's threshold (R276, R280). -/
def Dev.countCorrection (d : Dev) (id m a bit : Nat) : Dev :=
  let g := memGroup id
  let d1 := (d.setReg (Reg.edcLogAddr g) (BitVec.ofNat 32 ((a - memBase id) / wordBytes id))).setReg (Reg.edcLogSrc g)
    (BitVec.ofNat 32 (id + bit * 256 + m * 65536))
  let c := satInc (d.rf (Reg.edcCnt g) 15 0) 65535
  if d.rf (Reg.edcCnt g) 31 16 < c then (d1.setRf (Reg.edcCnt g) 15 0 0).raise (256 + 2 * g)
  else d1.setRf (Reg.edcCnt g) 15 0 c

/-- EDC_UE and EDC_UE_ADDR record an uncorrectable read (R279). -/
def Dev.logBad (d : Dev) (id m a : Nat) : Dev :=
  (d.setReg Reg.edcUe (BitVec.ofNat 32 (id + m * 256 + satInc (d.rf Reg.edcUe 31 16) 65535 * 65536))).setReg
    Reg.edcUeAddr (BitVec.ofNat 32 ((a - memBase id) / wordBytes id))

/-- An uncorrectable read is reported at once: its event, EDC_UE and EDC_UE_ADDR (R279). -/
def Dev.reportBad (d : Dev) (id m a : Nat) : Dev := (d.logBad id m a).raise (memEvent id)

/-- The counting and reporting that a read of the code word at flat address a brings about (R276, R279). -/
def Dev.noteRead (d : Dev) (id m a : Nat) : Dev :=
  match d.decodeWord a (wordBytes id) with
  | .good _ => d
  | .corrected _ b => d.countCorrection id m a b
  | .bad => d.reportBad id m a

/-- The flat address of the code word that holds byte off of memory id. -/
def wordAt (id off : Nat) : Nat := memBase id + off / wordBytes id * wordBytes id

/-- The code words of memory id that len bytes from off touch. -/
def wordsOf (id off len : Nat) : List Nat :=
  (rangeFrom (off / wordBytes id) ((off + len - 1) / wordBytes id + 1 - off / wordBytes id)).map
    (fun k => memBase id + k * wordBytes id)

/-- The byte that a read of byte off of memory id gives: decoded, and 0 where its word is uncorrectable. -/
def Dev.peek (d : Dev) (id off : Nat) : Byte :=
  BitVec.ofNat 8 ((d.decodeWord (wordAt id off) (wordBytes id)).value / 2 ^ (8 * (off % wordBytes id)))

/-- len bytes from off, decoded, as a number. -/
def Dev.peekN (d : Dev) (id off len : Nat) : Nat := ofBytes ((List.range len).map (fun i => d.peek id (off + i)))

/-- A word of the bytes off to off + len - 1 is uncorrectable. -/
def Dev.badAt (d : Dev) (id off len : Nat) : Bool :=
  (wordsOf id off len).any (fun a => d.decodeWord a (wordBytes id) = .bad)

/-- The effects of reading len bytes from off of memory id as master m: each touched word is noted once. -/
def Dev.noteReads (d : Dev) (id m off len : Nat) : Dev :=
  if len = 0 then d else (wordsOf id off len).foldl (fun d a => d.noteRead id m a) d

/-- The memory's flip is armed (R284). -/
def Dev.flipArmed (d : Dev) (id : Nat) : Bool := d.rb Reg.edcFlipSel 31 && decide (d.rf Reg.edcFlipSel 4 0 = id)

/-- Store a whole code word with its check bits; an armed flip is applied to it and disarms (R275, R284). `poison`
stores the check bits XOR 0x03 (R279). -/
def Dev.storeWord (d : Dev) (id a v : Nat) (poison : Bool) : Dev :=
  let wb := wordBytes id
  let armed := d.flipArmed id
  let dm := if armed then (d.rf Reg.edcFlipDlo 31 0 + (if wb = 8 then d.rf Reg.edcFlipDhi 31 0 * 2 ^ 32 else 0)) else 0
  let cm := if armed then (if wb = 8 then d.rf Reg.edcFlipC 7 0 else d.rf Reg.edcFlipC 6 0) else 0
  let v1 := v ^^^ dm
  let d1 := (List.range wb).foldl (fun d i => d.setByte (a + i) (BitVec.ofNat 8 (v1 / 2 ^ (8 * i)))) d
  let d2 := d1.setSynd a (BitVec.ofNat 8 (maskSynd wb dm ^^^ cm ^^^ (if poison then 3 else 0)))
  if armed then d2.setRb Reg.edcFlipSel 31 false else d2

/-- Write part or all of one code word of memory id as master m: byte i of the word takes `new i` where it is
present. A partial write is a read-modify-write; an uncorrectable read leaves 0 in the bytes it did not cover
(R277, R278). -/
def Dev.mergeWord (d : Dev) (id m a : Nat) (new : Nat → Option Byte) : Dev :=
  let wb := wordBytes id
  let idx := List.range wb
  let whole := idx.all (fun i => (new i).isSome)
  let old := (d.decodeWord a wb).value
  let v := ofBytes (idx.map (fun i => (new i).getD (BitVec.ofNat 8 (old / 2 ^ (8 * i)))))
  (if whole then d else d.noteRead id m a).storeWord id a v false

/-- Write bytes from off of memory id as master m, word by word in rising order. -/
def Dev.writeBytes (d : Dev) (id m off : Nat) (bs : List Byte) : Dev :=
  if bs.isEmpty then d else
  (wordsOf id off bs.length).foldl (fun d a =>
    d.mergeWord id m a (fun i =>
      if memBase id + off ≤ a + i then bs[a + i - (memBase id + off)]? else none)) d

/-- Write a 32-bit word under byte enables. -/
def Dev.writeEn (d : Dev) (id m off : Nat) (v : Word) (be : BitVec 4) : Dev :=
  let bs := toBytes 4 v.toNat
  (wordsOf id off 4).foldl (fun d a =>
    d.mergeWord id m a (fun i =>
      if memBase id + off ≤ a + i ∧ be.getLsbD (a + i - (memBase id + off)) then bs[a + i - (memBase id + off)]? else none)) d

/-- Write poisoned words over len bytes from off: every touched word reads as uncorrectable (R279, R291). -/
def Dev.writePoison (d : Dev) (id off len : Nat) : Dev :=
  if len = 0 then d else (wordsOf id off len).foldl (fun d a => d.storeWord id a 0 true) d

/-- LPDDR5 is trained and zeroed (R273). -/
def Dev.memReady (d : Dev) : Bool := d.rb Reg.memStat 0

/-- Transactions outstanding in the fabric (R14): accesses that wait for LPDDR5, I/O accesses of the line processors on their
way, and reads of host memory not yet answered. -/
def Dev.fabricUsed (d : Dev) : Nat :=
  d.memc.held.length + d.lps.foldl (fun n e => n + e.2.io.length) 0 +
    d.rings.foldl (fun n e => n + e.2.outstanding) 0 + d.host.foldl (fun n e => n + b2n e.2.dbOut) 0

/-- The fabric tracks as many transactions as it can (R14). Reads of host memory, at most 8 of each of 68 rings and two doorbell
reads, never come near their limit of 768. -/
def Dev.fabricFull (d : Dev) : Bool := decide (8192 ≤ d.fabricUsed)

/-- An access to LPDDR5 that is not ready waits (R273); beyond the fabric's limit, or behind an access of its master that does,
its master stalls with it (R14). -/
def Dev.hold (d : Dev) (h : HeldAccess) : Dev :=
  { d with memc :=
      if d.fabricFull || d.memc.waiting.any (fun x => x.master = h.master) then { d.memc with waiting := d.memc.waiting ++ [h] }
      else { d.memc with held := d.memc.held ++ [h] } }

/-- A 32-bit read of an on-chip memory word as master m: the value (0 when uncorrectable) and the device after its
counting (R276, R279). -/
def Dev.readWord (d : Dev) (id m off : Nat) : Word × Dev :=
  (BitVec.ofNat 32 (d.peekN id off 4), d.noteReads id m off 4)

end Sys2Proof.Machine
end

