-- ==== Sys2Proof/Machine/Timers.lean ====
section
/-! DEFINITION. The sixteen timers (R378 to R394): counting, loading, starting and stopping, compares, captures, and the
reads that copy a pair. A command acts at the edge at which the spec lets its write take effect (log entry 7). -/

namespace Sys2Proof.Machine

/-- A stopped timer with count 0 (R379). -/
def TmrSt.init : TmrSt := ⟨0, 0, [], [], 0, 0⟩

/-- Timer n. -/
def Dev.tmr (d : Dev) (n : Nat) : TmrSt := Tab.get (fun _ => TmrSt.init) d.io.tmr n
/-- The device with timer n replaced. -/
def Dev.setTmr (d : Dev) (n : Nat) (q : TmrSt) : Dev :=
  { d with io := { d.io with tmr := Tab.put (fun _ => TmrSt.init) d.io.tmr n q } }

/-- 2^48, the modulus of a count. -/
def cntMod : Nat := 281474976710656

/-- Timer n is running (TMRn_STAT.RUN). -/
def Dev.tmrOn (d : Dev) (n : Nat) : Bool := d.rb (Reg.tmrStat n) 17

/-- The TCLK domain is clocked from SLCK (R392): in HOLD and in a freeze. -/
def Dev.slow (d : Dev) : Bool := d.frozen || decide (d.power = 2)

/-- The counts move: on TCLK, or from a running SLCK (R392, R429). -/
def Dev.counting (d : Dev) : Bool := decide (d.power < 3) && (!d.frozen || d.rb Reg.clkStat 16)

/-- Event 480 + n is raised; in HOLD it is a wake cause (R432). -/
def Dev.tmrEvent (d : Dev) (n : Nat) : Dev :=
  let d1 := d.raise (480 + n)
  match (List.finRange 16)[n]? with
  | some t => if d.power = 2 then { d1 with io := { d1.io with wakes := d1.io.wakes ++ [.timer t] } } else d1
  | none => d1

/-- A timer's count rises by k; passing 2^48 − 1 sets WRAP, and raises the event with WRAPEV = 1 (R378). -/
def Dev.tmrAdvance (d : Dev) (n k : Nat) : Dev :=
  let c := (d.tmr n).cnt + k
  let d1 := d.setTmr n { d.tmr n with cnt := c % cntMod }
  if cntMod ≤ c then
    let d2 := d1.setRb (Reg.tmrStat n) 15 true
    if d.rb (Reg.tmrCfg n) 5 then d2.tmrEvent n else d2
  else d1

/-- Every running timer's count rises by k. -/
def Dev.tmrAll (d : Dev) (k : Nat) : Dev :=
  (List.range 16).foldl (fun d n => if d.tmrOn n then d.tmrAdvance n k else d) d

/-- One SLCK edge: the accumulator and the running timers (R392). -/
def Dev.slckEdge (d : Dev) : Dev :=
  let a := d.io.acc + 97
  if 128 ≤ a then { d with io := { d.io with acc := a - 128 } }.tmrAll 3052
  else { d with io := { d.io with acc := a } }.tmrAll 3051

/-- The output level of timer n: OUTINIT while it is stopped (R387). -/
def Dev.tmrOut (d : Dev) (n : Nat) : Bool := if d.tmrOn n then d.rb (Reg.tmrStat n) 16 else d.rb (Reg.tmrCfg n) 1

/-- Timer n starts: it is stopped and TMRn_CFG.EN = 1; its output is OUTINIT at the release edge (R381, R387). -/
def Dev.tmrStart (d : Dev) (n : Nat) : Dev :=
  if !d.tmrOn n && d.rb (Reg.tmrCfg n) 0 then
    (d.setRb (Reg.tmrStat n) 17 true).setRb (Reg.tmrStat n) 16 (d.rb (Reg.tmrCfg n) 1)
  else d

/-- Timer n stops (R381, R382). -/
def Dev.tmrStop (d : Dev) (n : Nat) : Dev := d.setRb (Reg.tmrStat n) 17 false

/-- The owner of pin k (R316). -/
def Dev.pinOwner (d : Dev) (k : Nat) : Nat := d.rf (Reg.pinOwn k) 2 0

/-- Master m may change what pin k's owner may: it is the owner, or the debug port acting for it (R317). -/
def Dev.owns (d : Dev) (m k : Nat) : Bool := decide (m = 13) || decide (d.pinOwner k = m)

/-- A GO or HALT mask: each named timer whose pin the writer owns is acted on; bits that fail are ignored and the first
is reported (R382). -/
def Dev.tmrMask (d : Dev) (m : Nat) (v : Word) (f : Dev → Nat → Dev) : Dev :=
  let named := (List.range 16).filter (fun n => bit v n)
  let d1 := (named.filter (fun n => d.owns m (48 + n))).foldl f d
  match named.find? (fun n => !d.owns m (48 + n)) with
  | some n => d1.refuse Reg.tmrChk (chkWord 0x43 8 n)
  | none => d1

/-- TMR_GO (R381). -/
def Dev.tmrGo (d : Dev) (m : Nat) (v : Word) : Dev := d.tmrMask m v Dev.tmrStart

/-- TMR_HALT (R381). -/
def Dev.tmrHalt (d : Dev) (m : Nat) (v : Word) : Dev := d.tmrMask m v Dev.tmrStop

/-- A write of TMRn_CNT_HI enters the shadow (R379). -/
def Dev.tmrCntHiWrite (d : Dev) (n : Nat) (v : Word) : Dev :=
  if d.tmrOn n then d.refuse Reg.tmrChk (chkWord 0x46 8 n)
  else d.setTmr n { d.tmr n with cntHi := fld v 15 0 }

/-- A write of TMRn_CNT_LO loads a stopped timer (R379). -/
def Dev.tmrCntLoWrite (d : Dev) (n : Nat) (v : Word) : Dev :=
  if d.tmrOn n then d.refuse Reg.tmrChk (chkWord 0x46 8 n)
  else d.setTmr n { d.tmr n with cnt := v.toNat + (d.tmr n).cntHi * 2 ^ 32 }

/-- A read of TMRn_CNT_LO: the low count, and the high half copied for TMRn_CNT_HI (R380). -/
def Dev.tmrCntRead (d : Dev) (n : Nat) : Word × Dev :=
  (BitVec.ofNat 32 (d.tmr n).cnt, d.setReg (Reg.tmrCntHi n) (BitVec.ofNat 32 ((d.tmr n).cnt / 2 ^ 32)))

/-- A compare's value. -/
def TmrSt.val (q : TmrSt) (k : Nat) : Nat := Tab.get (fun _ => 0) q.v k

/-- Compare k of timer n matches (R385): it disarms or moves on by STEP, acts on the output level, and with EVEN = 1
sets MATCHk and raises the event. -/
def Dev.cmpMatch (d : Dev) (n k : Nat) : Dev :=
  let cfg := d.reg (Reg.tmrCmpCfg n k)
  let step := (d.reg (Reg.tmrCmpStep n k)).toNat
  let again := bit cfg 4 && decide (step ≠ 0)
  let q := d.tmr n
  let d1 := if again then d.setTmr n { q with v := Tab.put (fun _ => 0) q.v k ((q.val k + step) % cntMod) }
            else d.setRb (Reg.tmrStat n) (8 + k) false
  let lvl := d1.rb (Reg.tmrStat n) 16
  let d2 := match fld cfg 1 0 with
    | 1 => d1.setRb (Reg.tmrStat n) 16 true
    | 2 => d1.setRb (Reg.tmrStat n) 16 false
    | 3 => d1.setRb (Reg.tmrStat n) 16 (!lvl)
    | _ => d1
  if bit cfg 2 then (d2.setRb (Reg.tmrStat n) k true).tmrEvent n else d2

/-- A new V of compare k becomes active (R383): it matches at once when it equals the count, and a past one sets PASTk
and, with PASTFIRE = 1, matches at once. -/
def Dev.cmpJudge (d : Dev) (n k : Nat) : Dev :=
  let dd := ((d.tmr n).val k + cntMod - (d.tmr n).cnt) % cntMod
  if dd = 0 then d.cmpMatch n k
  else if cntMod / 2 ≤ dd then
    let d1 := d.setRb (Reg.tmrStat n) (4 + k) true
    if d.rb (Reg.tmrCmpCfg n k) 3 then d1.cmpMatch n k else d1
  else d

/-- A write of TMRn_CMPk_LO sets V, arms the compare and judges the new V (R383). -/
def Dev.cmpArm (d : Dev) (n k : Nat) (v : Word) : Dev :=
  let q := d.tmr n
  ((d.setTmr n { q with v := Tab.put (fun _ => 0) q.v k (v.toNat + Tab.get (fun _ => 0) q.vHi k * 2 ^ 32) }).setRb
    (Reg.tmrStat n) (8 + k) true).cmpJudge n k

/-- A write of TMRn_CMPk_HI enters the shadow (R383). -/
def Dev.cmpHiWrite (d : Dev) (n k : Nat) (v : Word) : Dev :=
  let q := d.tmr n
  d.setTmr n { q with vHi := Tab.put (fun _ => 0) q.vHi k (fld v 15 0) }

/-- The compare disarms (R383, TMRn_CMPk_CFG.DISARM). -/
def Dev.cmpDisarm (d : Dev) (n k : Nat) : Dev := d.setRb (Reg.tmrStat n) (8 + k) false

/-- A match of compare k is due: it is armed, and the count stands at V, or from SLCK has just been carried to V or past
it (R383, R393). -/
def Dev.cmpDue (d : Dev) (n k : Nat) : Bool :=
  d.rb (Reg.tmrStat n) (8 + k) &&
  decide (((d.tmr n).cnt + cntMod - (d.tmr n).val k) % cntMod <
    (if !d.slow then 1 else if d.io.acc < 97 then 3052 else 3051))

/-- An edge of the capture pin is captured (R388, R391): `rise` into CAPR, else into CAPF. -/
def Dev.capture (d : Dev) (n : Nat) (rise : Bool) : Dev :=
  let b := if rise then 12 else 13
  let q := d.tmr n
  let ev := d.rb (Reg.tmrCfg n) 4
  let ovr := d.rb (Reg.tmrStat n) b
  let d1 := d.setTmr n (if rise then { q with capr := q.cnt } else { q with capf := q.cnt })
  let d2 := if ovr then d1.setRb (Reg.tmrStat n) 14 true else d1
  if ev then (d2.setRb (Reg.tmrStat n) b true).tmrEvent n else d2

/-- A change of the filter output of pin k captures in timer k − 32, with the pin at function 2 and the edge selected
(R388). -/
def Dev.capturePin (d : Dev) (k : Nat) (rise : Bool) : Dev :=
  if 32 ≤ k ∧ k < 48 ∧ d.rf (Reg.pinkFunc k) 2 0 = 2 then
    let mode := d.rf (Reg.tmrCfg (k - 32)) 3 2
    if mode = 3 ∨ (mode = 1 ∧ rise) ∨ (mode = 2 ∧ !rise) then d.capture (k - 32) rise else d
  else d

/-- A read of TMRn_CAPR_LO: the pair's copies are taken and the NEW bits cleared (R389). -/
def Dev.capRead (d : Dev) (n : Nat) : Word × Dev :=
  let q := d.tmr n
  (BitVec.ofNat 32 q.capr,
   (((((d.setReg (Reg.tmrCaprLo n) (BitVec.ofNat 32 q.capr)).setReg (Reg.tmrCaprHi n) (BitVec.ofNat 32 (q.capr / 2 ^ 32))).setReg
     (Reg.tmrCapfLo n) (BitVec.ofNat 32 q.capf)).setReg (Reg.tmrCapfHi n) (BitVec.ofNat 32 (q.capf / 2 ^ 32))).setRb
     (Reg.tmrStat n) 12 false).setRb (Reg.tmrStat n) 13 false)

/-- A write of TMRn_CFG; clearing EN stops the timer (R382). -/
def Dev.tmrCfgWrite (d : Dev) (n : Nat) (v : Word) : Dev :=
  let d1 := d.setReg (Reg.tmrCfg n) (v &&& 0x3F)
  if bit v 0 then d1 else d1.tmrStop n

/-- A read of a compare's V (R383). -/
def Dev.cmpRead (d : Dev) (n k : Nat) (hi : Bool) : Word :=
  BitVec.ofNat 32 (if hi then (d.tmr n).val k / 2 ^ 32 else (d.tmr n).val k)

end Sys2Proof.Machine
end

