-- ==== Sys2Proof/Machine/Pins.lean ====
section
/-! DEFINITION. Pins (R312 to R325): functions, the level each peripheral input takes, what each pad carries, owners,
and the pattern units. -/

namespace Sys2Proof.Machine

/-- Function f of pin k is listed in Table — Pin functions (R313). -/
def pinFuncOk (k f : Nat) : Bool :=
  f = 0 ||
  (f = 1 && k < 128) ||
  (f = 2 && (k = 25 || (32 ≤ k && k < 84))) ||
  (f = 3 && ((96 ≤ k && k < 104) || k = 124 || k = 125))

/-- The filter output of pin k (R315). -/
def Dev.level (d : Dev) (k : Nat) : Bool := d.rb (Reg.pinIn (k / 32)) (k % 32)

/-- The device with the filter output of pin k set. -/
def Dev.setLevel (d : Dev) (k : Nat) (b : Bool) : Dev := d.setRb (Reg.pinIn (k / 32)) (k % 32) b

/-- PINk_FUNC.FUNC. -/
def Dev.func (d : Dev) (k : Nat) : Nat := d.rf (Reg.pinkFunc k) 2 0

/-- The default level of the input that function f of pin k gives (Table — Pin functions); 0 for outputs and GPIO. -/
def Dev.pinDefault (d : Dev) (k f : Nat) : Bool :=
  (f = 1 && 26 ≤ k && k < 30) || (f = 1 && 120 ≤ k && k % 2 = 1) ||
  (((k = 30 && f = 1) || (k = 124 && f = 3)) && !d.lb Reg.sysGlkCfg 4) ||
  (((k = 31 && f = 1) || (k = 125 && f = 3)) && !d.lb Reg.sysGlkCfg 5)

/-- The pins and functions that supply the input which function f of pin k names, when two pins offer it (R320). -/
def twinPin (k f : Nat) : Option (Nat × Nat) :=
  if 64 ≤ k ∧ k < 72 ∧ f = 2 then some (k + 32, 3)
  else if 96 ≤ k ∧ k < 104 ∧ f = 3 then some (k - 32, 2)
  else if (k = 30 ∨ k = 31) ∧ f = 1 then some (k + 94, 3)
  else if (k = 124 ∨ k = 125) ∧ f = 3 then some (k - 94, 1)
  else none

/-- The level a peripheral input takes from the pins that offer it: the filter output of the one pin that selects it,
its default when none or both do (R318, R320). -/
def Dev.inputOf (d : Dev) (offers : List (Nat × Nat)) (dflt : Bool) : Bool :=
  match offers.filter (fun e => d.func e.1 = e.2) with
  | [(k, _)] => d.level k
  | _ => dflt

/-- The input of coin or ticket channel i (Table — Pin functions). -/
def Dev.coinIn (d : Dev) (i : Nat) : Bool :=
  if i < 8 then d.inputOf [(64 + i, 2), (96 + i, 3)] false else d.inputOf [(64 + i, 2)] false

/-- The phase 2A + B of decoder e. -/
def Dev.encPhase (d : Dev) (e : Nat) : Nat :=
  2 * b2n (d.inputOf [(96 + 2 * e, 1)] false) + b2n (d.inputOf [(97 + 2 * e, 1)] false)

/-! ### Pads -/

/-- The state of coil output o: 0 off, 1 pulse, 2 hold, 3 pending (DRV_OUTd_STAT). -/
def Dev.coil (d : Dev) (o : Nat) : Nat := d.rf (Reg.drvOutStat o) 1 0

/-- What coil output o puts on its pad (R338, R341). -/
def Dev.coilDrive (d : Dev) (o : Nat) : Drive :=
  let inv := d.lb (Reg.drvOutCfg o) 1
  match d.coil o with
  | 1 => .level (!inv)
  | 2 =>
    let per := d.lf Reg.drvPwm 9 0
    .pwm (!inv) (d.lf (Reg.drvOutCfg o) 9 2 * per * 100 / 256) (per * 100)
  | _ => .level inv

/-- The direction of function f of pin k: it is an input (Table — Pin functions). -/
def Dev.isInput (d : Dev) (k f : Nat) : Bool :=
  (f = 1 && ((12 ≤ k && k < 18 && !((k % 3 < 2) && d.lb (Reg.auSiCfg ((k - 12) / 3)) 0)) || k = 20 || k = 24 || k = 30 || k = 31 ||
    (96 ≤ k && k < 112) || (120 ≤ k && k % 2 = 1))) ||
  (f = 2 && (k = 25 || (32 ≤ k && k < 48) || (64 ≤ k && k < 76) || (80 ≤ k && k < 84))) ||
  f = 3

/-- What the pad of pin k carries (R313, R318, R319). -/
def Dev.padOut (d : Dev) (k : Nat) : Drive :=
  let f := d.func k
  let od (v : Drive) : Drive := if d.rb (Reg.pinkCfg k) 13 && v = .level true then .none else v
  if f = 0 then (if d.rb (Reg.pinkGpio k) 1 then od (.level (d.rb (Reg.pinkGpio k) 0)) else .none)
  else if d.isInput k f then .none
  else if f = 1 ∧ 32 ≤ k ∧ k < 96 then od (d.coilDrive (k - 32))
  else if f = 2 ∧ 48 ≤ k ∧ k < 64 then od (.level (d.tmrOut (k - 48)))
  else .signal

/-- Pin k's pad is brought up to date; a change is put on it. -/
def Dev.drivePin (d : Dev) (k : Nat) : Dev :=
  let v := d.padOut k
  if v = Tab.get (fun _ => Drive.none) d.io.pads k then d
  else { d with io := { d.io with pads := Tab.put (fun _ => Drive.none) d.io.pads k v } }.send (.pin k v)

/-! ### Owners -/

/-- A write that the owner of pin k may make: carried out, or a violation of the pin block's target (R317, R326). -/
def Dev.ownerWrite (d : Dev) (m k target off : Nat) (f : Dev → Dev) : Dev :=
  if d.owns m k then f d else d.violate m 0 target true off

/-- A pin or pattern-unit owner register is written by master 1 (R316): refused whole with OWNER 6 or 7, dropped with
event 1 when locked (R7). -/
def Dev.ownWrite (d : Dev) (a idx : Nat) (v : Word) : Dev :=
  if d.rb a 31 then d.violate 1 0 22 true (a - fn1Base + 0x2000)
  else if 6 ≤ fld v 2 0 then d.refuse Reg.pinChk (chkWord 0x40 8 idx)
  else d.setReg a (v &&& 0x80000007)

/-! ### Pattern units -/

/-- Unit u's 32 pins match its pattern (R322). -/
def Dev.patMatch (d : Dev) (u : Nat) : Bool :=
  let base := d.lf (Reg.pinPatCfg u) 7 1
  (List.range 32).all (fun j =>
    !d.lb (Reg.pinPatMask u) j || d.level (base + j) == d.lb (Reg.pinPatVal u) j)

/-- Unit u's owner (R316). -/
def Dev.patOwner (d : Dev) (u : Nat) : Nat := d.rf (Reg.pinPatown u) 2 0

/-- Checks of PIN_COMMIT over the shadow of unit u, in the order of Table — PIN reason codes (R325). -/
def Dev.patCheck (d : Dev) (u : Nat) : Nat :=
  let c := d.reg (Reg.pinPatCfg u)
  if !bit c 0 then 0
  else if d.reg (Reg.pinPatMask u) = 0 then 1
  else if 96 < fld c 7 1 then 2
  else if bit c 9 && decide (d.pinOwner (32 + fld c 21 16) ≠ d.patOwner u) then 0x43
  else 0

end Sys2Proof.Machine
end

