-- ==== Sys2Proof/Machine/CabinetIo.lean ====
section
/-! DEFINITION. Cabinet I/O (R326 to R349) and what a pin's change does (R315 to R323): quadrature decoders, the ADC,
coin and ticket channels, watchers, the coil scheduler, LED strings, serial ports, and the sub-blocks' checks. -/

namespace Sys2Proof.Machine

/-! ### Sub-blocks -/

/-- Sub-blocks in the order of their addresses. -/
abbrev sbCio : Nat := 0
abbrev sbAdc : Nat := 1
abbrev sbEnc : Nat := 2
abbrev sbDrv : Nat := 3
abbrev sbLed : Nat := 4
abbrev sbUa : Nat := 5
abbrev sbSpi : Nat := 6
abbrev sbI2c : Nat := 7

/-- Bit i of a sub-block's X_CTL. -/
def Dev.ioOn (d : Dev) (b i : Nat) : Bool := d.rb (Reg.ioCtl b) i

/-- The instances of a sub-block, as bits of X_CTL (Table of X_CTL). -/
def ioInstances : Nat → List Nat
  | 0 => List.range 12 ++ rangeFrom 16 16
  | 1 => List.range 16 | 2 => List.range 8 | 3 => [0] | 4 => List.range 8 | 5 => List.range 4 | _ => List.range 2

/-- The owning pin of instance i of sub-block b (R326). -/
def ioPin (b i : Nat) : Option Nat :=
  if b = sbCio then (if i < 8 then some (64 + i) else if i < 12 then some (72 + (i - 8)) else none)
  else if b = sbEnc then some (96 + 2 * i)
  else if b = sbLed then some (112 + i)
  else if b = sbUa then some (120 + 2 * i)
  else none

/-! ### Initial values of the engines -/

def DecSt.init : DecSt := ⟨0, none, none, false⟩
def CoinSt.init : CoinSt := ⟨none, false, none⟩
def LedSt.init : LedSt := ⟨false, false⟩
def UartSt.init : UartSt := ⟨[], [], none⟩
def SpiSt.init : SpiSt := ⟨[], [], none⟩

def Dev.dec (d : Dev) (e : Nat) : DecSt := Tab.get (fun _ => DecSt.init) d.io.dec e
def Dev.setDec (d : Dev) (e : Nat) (q : DecSt) : Dev :=
  { d with io := { d.io with dec := Tab.put (fun _ => DecSt.init) d.io.dec e q } }
def Dev.coin (d : Dev) (i : Nat) : CoinSt := Tab.get (fun _ => CoinSt.init) d.io.coin i
def Dev.setCoin (d : Dev) (i : Nat) (q : CoinSt) : Dev :=
  { d with io := { d.io with coin := Tab.put (fun _ => CoinSt.init) d.io.coin i q } }
def Dev.led (d : Dev) (s : Nat) : LedSt := Tab.get (fun _ => LedSt.init) d.io.led s
def Dev.setLed (d : Dev) (s : Nat) (q : LedSt) : Dev :=
  { d with io := { d.io with led := Tab.put (fun _ => LedSt.init) d.io.led s q } }
def Dev.ua (d : Dev) (u : Nat) : UartSt := Tab.get (fun _ => UartSt.init) d.io.uart u
def Dev.setUa (d : Dev) (u : Nat) (q : UartSt) : Dev :=
  { d with io := { d.io with uart := Tab.put (fun _ => UartSt.init) d.io.uart u q } }
def Dev.spi (d : Dev) (i : Nat) : SpiSt := Tab.get (fun _ => SpiSt.init) d.io.spi i
def Dev.setSpi (d : Dev) (i : Nat) (q : SpiSt) : Dev :=
  { d with io := { d.io with spi := Tab.put (fun _ => SpiSt.init) d.io.spi i q } }
def Dev.i2c (d : Dev) (i : Nat) : Option Word := Tab.get (fun _ => none) d.io.i2c i
def Dev.setI2c (d : Dev) (i : Nat) (q : Option Word) : Dev :=
  { d with io := { d.io with i2c := Tab.put (fun _ => none) d.io.i2c i q } }
def Dev.setDrv (d : Dev) (q : DrvSt) : Dev := { d with io := { d.io with drv := q } }

/-! ### Watchers -/

/-- Watcher k is enabled and names this source: kind 0 pin, 1 channel, 2 decoder, 3 ADC (R336). -/
def Dev.watches (d : Dev) (k src idx : Nat) : Bool :=
  d.ioOn sbCio (16 + k) && decide (d.lf (Reg.cioTo k) 2 1 = src) && decide (d.lf (Reg.cioTo k) 9 3 = idx)

/-- The source is flagged by a watcher (R337). -/
def Dev.watchFlag (d : Dev) (src idx : Nat) : Bool :=
  (List.range 16).any (fun k => d.rb Reg.cioTostat k && d.watches k src idx)

/-- The source of watcher k stands at its stuck value (R336). -/
def Dev.stuck (d : Dev) (k : Nat) : Bool :=
  let idx := d.lf (Reg.cioTo k) 9 3
  match d.lf (Reg.cioTo k) 2 1 with
  | 0 => d.level idx == d.lb (Reg.cioTo k) 10
  | 1 => d.coinIn idx == d.lb (Reg.cioCoinCfg idx) 1
  | 3 => decide (d.rf (Reg.adcChVal idx) 11 0 = 0) || decide (d.rf (Reg.adcChVal idx) 11 0 = 4095)
  | _ => false

/-- A source changed: each watcher of it whose condition has ended clears (R337). -/
def Dev.watchTouch (d : Dev) (src idx : Nat) : Dev :=
  (List.range 16).foldl (fun d k =>
    if d.watches k src idx && !(d.lb (Reg.cioTo k) 0 && d.stuck k) then d.setRb Reg.cioTostat k false else d) d

/-- Watcher k trips (R337): an INACT watcher, or a STUCK one whose source stands at its stuck value. -/
def Dev.watchTrip (d : Dev) (k : Nat) : Dev :=
  if d.ioOn sbCio (16 + k) && !d.rb Reg.cioTostat k && (!d.lb (Reg.cioTo k) 0 || d.stuck k) then
    (d.setRb Reg.cioTostat k true).raise 504
  else d

/-! ### Quadrature decoders -/

/-- The phase that follows in the +1 direction: 00, 10, 11, 01 of (A, B) (R327). -/
def nextPhase : Nat → Nat
  | 0 => 2 | 2 => 3 | 3 => 1 | _ => 0

/-- A step is rejected: REJ, the cause bit, the flag, and event 456 + e at most once in a line (R328). -/
def Dev.decReject (d : Dev) (e bitNo : Nat) : Dev :=
  let d1 := ((d.setRf (Reg.encStat e) 31 16 (satInc (d.rf (Reg.encStat e) 31 16) 65535)).setRb (Reg.encStat e) bitNo
    true).setRb (Reg.encStat e) 0 true
  if (d.dec e).told then d1 else (d1.setDec e { d.dec e with told := true }).raise (456 + e)

/-- One input changed from the phase q holds to p at TCLK t: an accepted step counts, one that comes too soon is rejected
(R327, R328). -/
def Dev.decStep (d : Dev) (e : Nat) (q : DecSt) (p t : Nat) : Dev :=
  let c := d.reg (Reg.encCnt e)
  let q1 : DecSt := { q with phase := p, edge := some (t, c, q.last) }
  let early := match q.last with | some l => decide (t - l < d.lf (Reg.encCfg e) 31 16) | none => false
  if early then (d.setDec e q1).decReject e 2
  else
    let up := (p = nextPhase q.phase) != d.lb (Reg.encCfg e) 0
    ((d.setReg (Reg.encCnt e) (if up then c + 1 else c - 1)).setDec e { q1 with last := some t }).watchTouch 2 e

/-- The phase of decoder e may have changed (R327, R328): a change of the second input at the edge of the first is
illegal and undoes the first one's step. -/
def Dev.decChange (d : Dev) (e : Nat) : Dev :=
  let q := d.dec e
  let p := d.encPhase e
  let t := d.time.tclk
  if !d.ioOn sbEnc e || p = q.phase then d
  else
    match q.edge with
    | some (t0, c0, l0) =>
      if t0 = t then ((d.setReg (Reg.encCnt e) c0).setDec e { q with phase := p, last := l0 }).decReject e 1
      else d.decStep e q p t
    | none => d.decStep e q p t

/-- The line tick of the decoders: LCNT takes CNT, and the flag of a rejection in the line before ends (R328, R329). -/
def Dev.encTick (d : Dev) : Dev :=
  (List.range 8).foldl (fun d e =>
    ((d.setReg (Reg.encLcnt e) (d.reg (Reg.encCnt e))).setRb (Reg.encStat e) 0 false).setDec e { d.dec e with told := false }) d

/-! ### ADC -/

/-- The result of the last 2^k conversions (R331). -/
def adcMean (hist : List Nat) (k : Nat) : Nat :=
  if k = 0 then hist.headD 0 else ((hist.take (2 ^ k)).foldl (· + ·) 0 + 2 ^ (k - 1)) / 2 ^ k

/-- The enabled channel converted next, wrapping (R330). -/
def Dev.adcChannel (d : Dev) : Option Nat :=
  (((List.range 16).map (fun i => (d.io.adcNext + i) % 16))).find? (fun c => d.ioOn sbAdc c)

/-- A conversion completes (R330 to R332). -/
def Dev.adcConvert (d : Dev) (code : Nat) : Dev :=
  match d.adcChannel with
  | none => d
  | some c =>
    let h := Tab.get (fun _ => ([] : List Nat)) d.io.adcHist c
    let h1 := if h.isEmpty then List.replicate 16 code else (code :: h).take 16
    let v := adcMean h1 (d.lf (Reg.adcChCfg c) 2 0)
    let out := decide (v < d.lf (Reg.adcChWin c) 11 0) || decide (d.lf (Reg.adcChWin c) 27 16 < v)
    let was := d.rb (Reg.adcChVal c) 12
    let old := d.rf (Reg.adcChVal c) 11 0
    let d1 := ({ d with io := { d.io with adcNext := (c + 1) % 16, adcHist := Tab.put (fun _ => []) d.io.adcHist c h1 } }).setReg
      (Reg.adcChVal c) (BitVec.ofNat 32 (v + 4096 * b2n out))
    let d2 := d1.raiseIf (out && !was) (464 + c)
    if v = old then d2 else d2.watchTouch 3 c

/-! ### The coil scheduler -/

/-- The load of the current line (R340). -/
def Dev.drvLoad (d : Dev) : Nat := d.io.drv.charges.foldl (fun n c => n + c.ma) 0

/-- Coil output o takes a state, and its pad follows (R338, R341). -/
def Dev.setCoil (d : Dev) (o st : Nat) : Dev := (d.setRf (Reg.drvOutStat o) 1 0 st).drivePin (32 + o)

/-- Output o is on. -/
def Dev.coilOn (d : Dev) (o : Nat) : Bool := decide (d.coil o = 1) || decide (d.coil o = 2)

/-- Output o may hold: its duty is not 0 and its hold condition has not ended (R338, R341). -/
def Dev.holdOk (d : Dev) (o : Nat) : Bool :=
  let src := d.lf (Reg.drvOutCfg o) 13 10
  decide (d.lf (Reg.drvOutCfg o) 9 2 ≠ 0) && (decide (src = 0) || d.rb (Reg.pinPatStat (src - 1)) 0)

/-- After its pulse output o holds, or turns off (R341). -/
def Dev.coilHold (d : Dev) (o : Nat) : Dev := d.setCoil o (if d.holdOk o then 2 else 0)

/-- A start of output o is made: its charge, its count, and its pulse (R340, R341). -/
def Dev.coilMake (d : Dev) (o : Nat) : Dev :=
  let d1 := (d.setDrv { d.io.drv with charges := d.io.drv.charges ++
    [⟨d.lf (Reg.drvOutLim o) 15 0, d.lf Reg.drvWin 6 0⟩] }).setRf (Reg.drvOutStat o) 31 16
      (satInc (d.rf (Reg.drvOutStat o) 31 16) 65535)
  if d.lf (Reg.drvOutCfg o) 31 16 = 0 then d1.coilHold o else d1.setCoil o 1

/-- Output o stops; a pending start of it is removed (R340). -/
def Dev.coilStop (d : Dev) (o : Nat) : Dev := if d.coil o = 0 then d else d.setCoil o 0

/-- A start of output o is not dropped: the scheduler runs, and the output is enabled, off and not latched (R340). -/
def Dev.startable (d : Dev) (o : Nat) : Bool :=
  d.io.drv.on && d.lb (Reg.drvOutCfg o) 0 && decide (d.coil o = 0) && !d.rb (Reg.drvOutStat o) 2

/-- A start is deferred: the first of a line raises event 496 and is logged (R340). -/
def Dev.drvDefer (d : Dev) (o : Nat) : Dev :=
  if d.io.drv.told then d
  else (((d.setDrv { d.io.drv with told := true }).setRf Reg.drvDeflog 5 0 o).setRf Reg.drvDeflog 31 16
    (satInc (d.rf Reg.drvDeflog 31 16) 65535)).raise 496

/-- Starts are considered in order: each is made while it fits the budget, and from the first that does not, all are
pending (R340). -/
def Dev.drvOffer (d : Dev) : List Nat → Dev
  | [] => d
  | o :: os =>
    if d.drvLoad + d.lf (Reg.drvOutLim o) 15 0 ≤ d.lf Reg.drvBudget 15 0 then Dev.drvOffer (d.coilMake o) os
    else ((o :: os).foldl (fun d o => d.setCoil o 3) d).drvDefer o

/-- Outputs whose start is pending. -/
def Dev.drvPend (d : Dev) : List Nat := (List.range 64).filter (fun o => d.coil o = 3)

/-- A reflex start reaches the scheduler (R339, R340); it is dropped while the scheduler is stopped (R324). -/
def Dev.reflexStart (d : Dev) (o : Nat) : Dev :=
  if !d.clocked || !d.startable o then d
  else if d.drvPend.isEmpty then d.drvOffer [o]
  else (d.setCoil o 3).drvDefer o

/-- Every output off, the pending set and all charges cleared (R342, R437). -/
def Dev.coilsOff (d : Dev) : Dev :=
  let d1 := (List.range 64).foldl (fun d o => d.coilStop o) d
  d1.setDrv { d1.io.drv with charges := [], starts := [], stops := [] }

/-- The scheduler's shadow checks over block and outputs (R349, R418): code and failing output. -/
def Dev.drvCheck (d : Dev) : Nat × Nat :=
  let win := d.rf Reg.drvWin 6 0
  let per := d.rf Reg.drvPwm 9 0
  if win = 0 ∨ 64 < win ∨ per = 0 ∨ 1000 < per then (0x40, 0)
  else
    let codeOf (o : Nat) : Nat :=
      let c := d.reg (Reg.drvOutCfg o)
      if !bit c 0 then 0
      else if d.rf Reg.drvBudget 15 0 < d.rf (Reg.drvOutLim o) 15 0 then 1
      else if 9 ≤ fld c 13 10 then 0x40
      else if fld c 13 10 ≠ 0 ∧ d.patOwner (fld c 13 10 - 1) ≠ d.pinOwner (32 + o) then 0x43
      else 0
    match (List.range 64).find? (fun o => codeOf o ≠ 0) with
    | some o => (codeOf o, o)
    | none => (0, 0)

/-- The scheduler's shadowed registers. -/
def drvKeys : List Nat :=
  [Reg.drvBudget, Reg.drvWin, Reg.drvPwm] ++ (List.range 64).flatMap (fun o => [Reg.drvOutCfg o, Reg.drvOutLim o])

/-- The check register of sub-block b takes a result; a failure raises event 0 (R349, R418). -/
def Dev.ioReport (d : Dev) (b : Nat) (r : Nat × Nat) : Dev :=
  if r.1 = 0 then d.setReg (Reg.ioChk b) 0 else d.refuse (Reg.ioChk b) (chkWord r.1 8 r.2)

/-- The scheduler's commit point (R349): the set is checked and applied; outputs no longer enabled turn off (R342). -/
def Dev.drvCommitAt (d : Dev) : Dev :=
  if !d.io.drv.arm then d
  else
    let r := d.drvCheck
    let d1 := d.setDrv { d.io.drv with arm := false }
    if r.1 ≠ 0 then (if d1.io.drv.on then d1 else d1.setRb (Reg.ioCtl sbDrv) 0 false).ioReport sbDrv r
    else
      let d2 := (d1.apply drvKeys).ioReport sbDrv (0, 0)
      let d3 := d2.setDrv { d2.io.drv with on := true }
      (List.range 64).foldl (fun d o => if d.lb (Reg.drvOutCfg o) 0 then d else d.coilStop o) d3

/-- The scheduler at a line tick (R339, R340). -/
def Dev.drvTick (d : Dev) : Dev :=
  let d1 := d.drvCommitAt
  let q := d1.io.drv
  let d2 := d1.setDrv { q with charges := (q.charges.map (fun c => { c with lines := c.lines - 1 })).filter (fun c => c.lines ≠ 0),
                               starts := [], stops := [], told := false }
  let d3 := q.stops.foldl (fun d o => d.coilStop o) d2
  let set := (List.range 64).filter (fun o => d3.coil o = 3 || (q.starts.contains o && d3.startable o))
  if d3.io.drv.on then d3.drvOffer set else d3

/-- DRV_FIRE (R339): a request for the next line tick. -/
def Dev.drvFire (d : Dev) (o : Nat) (stop : Bool) : Dev :=
  let q := d.io.drv
  d.setDrv (if stop then { q with stops := q.stops ++ [o] } else { q with starts := q.starts ++ [o] })

/-! ### Coin and ticket channels -/

/-- The event group of channel i (R334). -/
def coinEvent (i : Nat) : Nat := 456 + (if i < 8 then i else i - 8)

/-- A pulse of channel i is rejected with cause 1 SHORT, 2 LONG, 3 GAP (R333, R334). -/
def Dev.coinReject (d : Dev) (i cause : Nat) : Dev :=
  ((d.setRf (Reg.cioCoinStat i) 7 0 (satInc (d.rf (Reg.cioCoinStat i) 7 0) 255)).setRf (Reg.cioCoinStat i) 9 8 cause).raise
    (coinEvent i)

/-- A pulse of channel i is accepted; a ticket dispenser stops at its last ticket (R333, R335). -/
def Dev.coinAccept (d : Dev) (i : Nat) : Dev :=
  let d1 := (d.setReg (Reg.cioCoinAcc i) (d.reg (Reg.cioCoinAcc i) + 1)).raise (coinEvent i)
  let left := d1.rf (Reg.cioCoinStat i) 31 16
  if 8 ≤ i ∧ d1.lb (Reg.cioCoinGap i) 12 ∧ 0 < left then
    let d2 := d1.setRf (Reg.cioCoinStat i) 31 16 (left - 1)
    if left = 1 then d2.coilStop (d2.lf (Reg.cioCoinGap i) 18 13) else d2
  else d1

/-- The unit of pulse widths, 100 µs in TCLK (R333). -/
def coinUnit : Nat := 10000

/-- The pulse of channel i that began at b ends now: judged by width, then gap (R333, R334). -/
def Dev.coinJudge (d : Dev) (i b : Nat) (prev : Option Nat) : Dev :=
  let w := d.time.tclk - b
  if d.watchFlag 1 i then d.coinReject i 2
  else if w < d.lf (Reg.cioCoinCfg i) 13 2 * coinUnit then d.coinReject i 1
  else if d.lf (Reg.cioCoinCfg i) 25 14 * coinUnit < w then d.coinReject i 2
  else
    match prev with
    | some f => if b - f < d.lf (Reg.cioCoinGap i) 11 0 * coinUnit then d.coinReject i 3 else d.coinAccept i
    | none => d.coinAccept i

/-- The input of channel i changed (R333). -/
def Dev.coinEdge (d : Dev) (i : Nat) : Dev :=
  if !d.ioOn sbCio i then d
  else
    let q := d.coin i
    let t := d.time.tclk
    let d1 :=
      if d.coinIn i == d.lb (Reg.cioCoinCfg i) 1 then d.setCoin i { q with start := some t, long := false }
      else
        match q.start with
        | some b =>
          let d2 := d.setCoin i { q with start := none, long := false, ended := some t }
          if q.long then d2 else d2.coinJudge i b q.ended
        | none => d
    d1.watchTouch 1 i

/-- A pulse still active past MAXW is rejected with cause LONG and its end ignored (R333). -/
def Dev.coinTooLong (d : Dev) (i : Nat) : Dev :=
  let q := d.coin i
  if d.ioOn sbCio i && q.start.isSome && !q.long then (d.setCoin i { q with long := true }).coinReject i 2 else d

/-! ### Pattern units -/

/-- Unit u fires (R323). -/
def Dev.patFire (d : Dev) (u : Nat) : Dev :=
  let c := d.inForce (Reg.pinPatCfg u)
  let d1 := (d.setRb (Reg.pinPatStat u) 1 false).setRf (Reg.pinPatStat u) 31 16 (satInc (d.rf (Reg.pinPatStat u) 31 16) 65535)
  let d2 := d1.raiseIf (bit c 8) (448 + u)
  let d3 :=
    if bit c 9 then
      if d2.pinOwner (32 + fld c 21 16) = d2.patOwner u then d2.reflexStart (fld c 21 16)
      else d2.setRb (Reg.pinPatStat u) 2 true
    else d2
  match (List.finRange 8)[u]? with
  | some v => if bit c 10 && decide (d.power = 2) then { d3 with io := { d3.io with wakes := d3.io.wakes ++ [.pattern v] } } else d3
  | none => d3

/-- Unit u no longer reports a match: the outputs that it holds stop (R341). -/
def Dev.patDrop (d : Dev) (u : Nat) : Dev :=
  let d1 := d.setRb (Reg.pinPatStat u) 0 false
  if d.rb (Reg.pinPatStat u) 0 then
    (List.range 64).foldl (fun d o => if d.coil o = 2 ∧ d.lf (Reg.drvOutCfg o) 13 10 = u + 1 then d.coilStop o else d) d1
  else d1

/-- Unit u at an edge (R322): a non-match arms it, a match while armed fires it. -/
def Dev.patEdge (d : Dev) (u : Nat) : Dev :=
  if !d.lb (Reg.pinPatCfg u) 0 then d.patDrop u
  else if d.patMatch u then
    let d1 := d.setRb (Reg.pinPatStat u) 0 true
    if d1.rb (Reg.pinPatStat u) 1 then d1.patFire u else d1
  else (d.patDrop u).setRb (Reg.pinPatStat u) 1 true

/-- Every pattern unit at an edge. -/
def Dev.patAll (d : Dev) : Dev := (List.range 8).foldl Dev.patEdge d

/-- PIN_COMMIT.GO (R325). -/
def Dev.pinCommit (d : Dev) : Dev :=
  match (List.range 8).find? (fun u => d.patCheck u ≠ 0) with
  | some u => d.refuse Reg.pinChk (chkWord (d.patCheck u) 8 u)
  | none =>
    let d1 := (List.range 8).foldl (fun d u =>
      let fresh := d.rb (Reg.pinPatCfg u) 0 && !d.lb (Reg.pinPatCfg u) 0
      let d2 := (d.apply [Reg.pinPatCfg u, Reg.pinPatMask u, Reg.pinPatVal u]).setRb (Reg.pinPatStat u) 1 false
      if fresh then d2.setRf (Reg.pinPatStat u) 31 16 0 else d2) (d.setReg Reg.pinChk 0)
    d1.patAll

/-! ### UARTs -/

/-- The transmitter of UART u takes its next byte when it is idle, enabled and, with flow control, clear to send
(R345; the active level of CTS is the model's choice, log entry 8). -/
def Dev.uaNext (d : Dev) (u : Nat) : Dev :=
  let q := d.ua u
  match q.busy, q.tx with
  | none, b :: rest =>
    if d.ioOn sbUa u && (!d.lb (Reg.uaCfg u) 5 || !d.inputOf [(80 + u, 2)] false) then
      d.setUa u { q with busy := some b, tx := rest }
    else d
  | _, _ => d

/-- A byte is pushed to UART u's TX FIFO, which holds 64; a push to a full FIFO is lost (log entry 9) (R345). -/
def Dev.uaPush (d : Dev) (u : Nat) (b : Byte) : Dev :=
  let q := d.ua u
  if q.tx.length < 64 then (d.setUa u { q with tx := q.tx ++ [b] }).uaNext u else d

/-- A character has gone out: the next one leaves the FIFO, and TXLVL ≤ TXTH raises event 499 with TXEN (R345, R348). -/
def Dev.uaTxEnd (d : Dev) (u : Nat) : Dev :=
  let q := d.ua u
  match q.busy with
  | none => d
  | some b =>
    let d1 := ((d.setUa u { q with busy := none }).send (.uart u b)).uaNext u
    d1.raiseIf (d1.rb (Reg.uaIen u) 17 && decide ((d1.ua u).tx.length ≤ d1.rf (Reg.uaIen u) 13 8)) 499

/-- A character is received (R345, R348). -/
def Dev.uaRx (d : Dev) (u : Nat) (b : Byte) (perr ferr : Bool) : Dev :=
  let q := d.ua u
  if !d.ioOn sbUa u then d
  else
    let full := decide (64 ≤ q.rx.length)
    let d1 := if full then d.setRb (Reg.uaStat u) 15 true else d.setUa u { q with rx := q.rx ++ [(b, perr, ferr)] }
    let lvl := (d1.ua u).rx.length
    d1.raiseIf ((d1.rb (Reg.uaIen u) 16 && decide (d1.rf (Reg.uaIen u) 5 0 ≤ lvl)) ||
      (d1.rb (Reg.uaIen u) 18 && (full || perr || ferr))) 499

/-- A read of UAu_DATA pops the RX FIFO; of an empty one it gives EMPTY (R345). -/
def Dev.uaRead (d : Dev) (u : Nat) : Word × Dev :=
  let q := d.ua u
  match q.rx with
  | (b, p, f) :: rest => (BitVec.ofNat 32 (b.toNat + 256 * b2n p + 512 * b2n f), d.setUa u { q with rx := rest })
  | [] => (0x400, d)

/-! ### SPI and I2C -/

/-- SPIi_CMD with GO (R346): a command of NWORDS words; none completes at once. A GO while a command runs is ignored
(log entry 9). -/
def Dev.spiGo (d : Dev) (i : Nat) (v : Word) : Dev :=
  let q := d.spi i
  if !d.ioOn sbSpi i || q.cmd.isSome then d
  else if fld v 15 0 = 0 then (d.setRb (Reg.spiStat i) 1 true).raise 505
  else (d.setSpi i { q with cmd := some v }).setRb (Reg.spiStat i) 0 true

/-- An SPI command ends (R346, R348): its words have left the TX FIFO and as many have come into RX. -/
def Dev.spiEnd (d : Dev) (i : Nat) (rx : List Word) : Dev :=
  let q := d.spi i
  match q.cmd with
  | none => d
  | some v =>
    let n := fld v 15 0
    ((((d.setSpi i { q with cmd := none, tx := q.tx.drop n, rx := q.rx ++ rx.take n }).setRb (Reg.spiStat i) 0 false).setRb
      (Reg.spiStat i) 1 true).send (.spi i (q.tx.take n))).raise 505

/-- The bytes of I2Ci_DATA0 to 7. -/
def Dev.i2cBytes (d : Dev) (i : Nat) : List Byte :=
  (List.range 8).flatMap (fun k => toBytes 4 (d.reg (Reg.i2cData i k)).toNat)

/-- I2Ci_CMD with GO (R347). A GO while a command runs is ignored (log entry 9). -/
def Dev.i2cGo (d : Dev) (i : Nat) (v : Word) : Dev :=
  if !d.ioOn sbI2c i || (d.i2c i).isSome then d
  else ((d.setI2c i (some v)).setRb (Reg.i2cStat i) 0 true).send
    (.i2c i (fld v 6 0) (bit v 7) (if bit v 7 then [] else (d.i2cBytes i).take (fld v 12 8 + 1)))

/-- Bytes land in I2Ci_DATA from byte 0. -/
def Dev.i2cStore (d : Dev) (i : Nat) (bs : List Byte) : Dev :=
  let all := bs ++ (d.i2cBytes i).drop bs.length
  (List.range 8).foldl (fun d k => d.setReg (Reg.i2cData i k) (BitVec.ofNat 32 (ofBytes ((all.drop (4 * k)).take 4)))) d

/-- An I2C command ends, with the error bit it sets, if any (R347, R348). -/
def Dev.i2cEnd (d : Dev) (i : Nat) (err : Option Nat) (rx : List Byte) : Dev :=
  match d.i2c i with
  | none => d
  | some v =>
    let d1 := ((d.setI2c i none).setRb (Reg.i2cStat i) 0 false).setRb (Reg.i2cStat i) 1 true
    let d2 := if bit v 7 then d1.i2cStore i (rx.take (fld v 12 8 + 1)) else d1
    (match err with | some b => d2.setRb (Reg.i2cStat i) b true | none => d2).raise 505

/-! ### LED strings -/

/-- The three bytes of an LED word in string order (Table of LEDs_CFG). -/
def ledBytes (w order : Nat) : List Byte :=
  let r := BitVec.ofNat 8 (w / 65536)
  let g := BitVec.ofNat 8 (w / 256)
  let b := BitVec.ofNat 8 w
  if order = 0 then [g, r, b] else if order = 1 then [r, g, b] else [b, r, g]

/-- LED i of string s: the frame-store word, read as master 8; 0 when the table blocks it or it is uncorrectable (R343). -/
def Dev.ledRead (d : Dev) (s i : Nat) : List Byte × Dev :=
  let off := 4 * (d.lf (Reg.ledBase s) 23 0 + i)
  let ord := d.lf (Reg.ledCfg s) 14 13
  if !d.permits 8 2 off 4 false then (ledBytes 0 ord, d.violate 8 0 2 false off)
  else (ledBytes (d.peekN 6 off 4) ord, d.noteReads 6 8 off 4)

/-- A transfer of string s starts: its data goes out (R343, R344; all words are taken at the start, log entry 10). -/
def Dev.ledStart (d : Dev) (s : Nat) : Dev :=
  let (bs, d1) := (List.range (d.lf (Reg.ledCfg s) 12 0)).foldl (fun (acc : List Byte × Dev) i =>
    let (b, d2) := acc.2.ledRead s i
    (acc.1 ++ b, d2)) ([], d)
  (d1.setRb (Reg.ledStat s) 0 true).send (.leds s bs)

/-- The shadow check of LED string s (R343, R349). -/
def Dev.ledCheck (d : Dev) (s : Nat) : Nat :=
  let t0 := d.rf (Reg.ledTim s) 7 0
  let t1 := d.rf (Reg.ledTim s) 15 8
  let n := d.rf (Reg.ledCfg s) 12 0
  let off := 4 * d.rf (Reg.ledBase s) 23 0
  if !(t0 < t1 && t1 < d.rf (Reg.ledTim s) 27 16) || decide (d.rf (Reg.ledCfg s) 31 16 < 5000) then 4
  else if frameBytes < off + 4 * n then 5
  else if 4096 < n ∨ d.rf (Reg.ledCfg s) 14 13 = 3 then 0x40
  else if n ≠ 0 ∧ !d.permits 8 2 off (4 * n) false then 0x44
  else 0

/-- The LED strings at the line tick of master line 0: an idle string commits and starts, a busy one skips, and one of no LEDs sends
nothing (R343, R344, R349). -/
def Dev.ledTick (d : Dev) : Dev :=
  (List.range 8).foldl (fun d s =>
    let busy := d.rb (Reg.ledStat s) 0
    let d1 :=
      if (d.led s).arm && !busy then
        let c := d.ledCheck s
        if c ≠ 0 then
          ((if (d.led s).on then d else d.setRb (Reg.ioCtl sbLed) s false).setLed s { d.led s with arm := false }).ioReport sbLed (c, s)
        else ((d.apply [Reg.ledCfg s, Reg.ledBase s, Reg.ledTim s]).setLed s ⟨true, false⟩).ioReport sbLed (0, 0)
      else d
    if !(d1.led s).on then d1
    else if d1.lf (Reg.ledCfg s) 12 0 = 0 then d1
    else if busy then d1.setRf (Reg.ledStat s) 31 16 (satInc (d1.rf (Reg.ledStat s) 31 16) 65535)
    else d1.ledStart s) d

/-- A transfer of string s ends (R344). -/
def Dev.ledEnd (d : Dev) (s : Nat) : Dev :=
  if d.rb (Reg.ledStat s) 0 then (d.setRb (Reg.ledStat s) 0 false).raise 498 else d

/-! ### Checks, enables and commits of the sub-blocks -/

/-- The shadow check of one instance, in the order of Table — Cabinet I/O reason codes (R349). -/
def Dev.ioCheck (d : Dev) (b i : Nat) : Nat :=
  if b = sbCio ∧ i < 12 then
    let mx := d.rf (Reg.cioCoinCfg i) 25 14
    if mx < d.rf (Reg.cioCoinCfg i) 13 2 ∨ mx = 0 then 3
    else if 8 ≤ i ∧ d.rb (Reg.cioCoinGap i) 12 ∧ d.pinOwner (32 + d.rf (Reg.cioCoinGap i) 18 13) ≠ d.pinOwner ((ioPin b i).getD 0) then 0x43
    else 0
  else if b = sbCio then
    let k := i - 16
    let idx := d.rf (Reg.cioTo k) 9 3
    let src := d.rf (Reg.cioTo k) 2 1
    if (src = 1 ∧ 12 ≤ idx) ∨ (src = 2 ∧ (8 ≤ idx ∨ d.rb (Reg.cioTo k) 0)) ∨ (src = 3 ∧ 16 ≤ idx) then 8
    else if d.rf (Reg.cioTo k) 31 16 = 0 then 0x40 else 0
  else if b = sbAdc then
    if d.rf (Reg.adcChWin i) 27 16 < d.rf (Reg.adcChWin i) 11 0 then 6
    else if 5 ≤ d.rf (Reg.adcChCfg i) 2 0 then 0x40 else 0
  else if b = sbDrv then d.drvCheck.1
  else if b = sbLed then d.ledCheck i
  else if b = sbUa then
    if d.rf (Reg.uaCfg i) 3 2 = 3 ∨ d.rf (Reg.uaBaud i) 23 0 < 512 then 0x40 else 0
  else if b = sbSpi then (if d.rf (Reg.spiCfg i) 3 2 = 3 then 0x40 else 0)
  else 0

/-- The shadowed registers of one instance. -/
def ioKeys (b i : Nat) : List Nat :=
  if b = sbCio then (if i < 12 then [Reg.cioCoinCfg i, Reg.cioCoinGap i] else [Reg.cioTo (i - 16)])
  else if b = sbAdc then [Reg.adcChCfg i, Reg.adcChWin i]
  else if b = sbEnc then [Reg.encCfg i]
  else if b = sbUa then [Reg.uaCfg i, Reg.uaBaud i]
  else if b = sbSpi then [Reg.spiCfg i]
  else if b = sbI2c then [Reg.i2cCfg i]
  else []

/-- Instance i of sub-block b has passed its enable check (R349): its set applies at the commit point, which for CIO, ADC,
ENC and the ports is now. -/
def Dev.ioStart (d : Dev) (b i : Nat) : Dev :=
  let d1 := (d.setRb (Reg.ioCtl b) i true).apply (ioKeys b i)
  if b = sbDrv then d1.setDrv { d1.io.drv with arm := true }
  else if b = sbLed then d1.setLed i { d1.led i with arm := true }
  else if b = sbAdc then { d1 with io := { d1.io with adcHist := Tab.put (fun _ => []) d1.io.adcHist i [] } }
  else if b = sbEnc then d1.setDec i { DecSt.init with phase := d1.encPhase i }
  else if b = sbCio ∧ i < 12 then d1.setCoin i CoinSt.init
  else d1

/-- Instance i of sub-block b is disabled: the scheduler's outputs turn off (R342), a tripped watcher clears. -/
def Dev.ioStop (d : Dev) (b i : Nat) : Dev :=
  let d1 := d.setRb (Reg.ioCtl b) i false
  if b = sbDrv then
    let d2 := (List.range 64).foldl (fun d o => d.coilStop o) d1
    d2.setDrv { d2.io.drv with on := false, arm := false }
  else if b = sbLed then d1.setLed i ⟨false, false⟩
  else if b = sbCio ∧ 16 ≤ i then d1.setRb Reg.cioTostat (i - 16) false
  else d1

/-- A write of X_CTL (R326, R349): each changed bit by the owner of its instance, an enable by its check; the first
failure is reported, and the other bits act. -/
def Dev.ioCtlWrite (d : Dev) (m b : Nat) (v : Word) : Dev :=
  let changed := (ioInstances b).filter (fun i => bit v i != d.ioOn b i)
  let mine (i : Nat) : Bool := match ioPin b i with | some k => d.owns m k | none => true
  let code (i : Nat) : Nat := if !mine i then 0x43 else if bit v i then d.ioCheck b i else 0
  let d1 := (changed.filter (fun i => code i = 0)).foldl (fun d i => if bit v i then d.ioStart b i else d.ioStop b i) d
  match changed.find? (fun i => code i ≠ 0) with
  | some i => d1.ioReport b (code i, if b = sbDrv then d.drvCheck.2 else i)
  | none => if changed.any (fun i => bit v i) then d1.ioReport b (0, 0) else d1

/-- An SPI, I2C or UART port with work in progress. -/
def Dev.portBusy (d : Dev) (b i : Nat) : Bool :=
  if b = sbUa then (d.ua i).busy.isSome else if b = sbSpi then (d.spi i).cmd.isSome else (d.i2c i).isSome

/-- X_COMMIT.GO (R349, R421): the enabled instances' sets are checked and applied at the commit point. -/
def Dev.ioGo (d : Dev) (b : Nat) : Dev :=
  let on := (ioInstances b).filter (fun i => d.ioOn b i)
  if on.isEmpty then d
  else if b = sbDrv then d.setDrv { d.io.drv with arm := true }
  else if b = sbLed then on.foldl (fun d s => d.setLed s { d.led s with arm := true }) d
  else
    match on.find? (fun i => d.ioCheck b i ≠ 0 ∨ (sbUa ≤ b ∧ d.portBusy b i)) with
    | some i => d.ioReport b (if d.ioCheck b i ≠ 0 then d.ioCheck b i else 0x46, i)
    | none => (d.apply (on.flatMap (ioKeys b))).ioReport b (0, 0)

/-! ### A pin's change -/

/-- The channel whose input pin k may supply. -/
def coinOf (k f : Nat) : Option Nat :=
  if f = 2 ∧ 64 ≤ k ∧ k < 76 then some (k - 64) else if f = 3 ∧ 96 ≤ k ∧ k < 104 then some (k - 96) else none

/-- The filter output of pin k changes to a level, and every consumer acts on it (R315, R321 to R324): the pin's event, a
capture, and while TCLK runs the decoder, channel, watcher and clear-to-send that the pin supplies; then the pattern
units. -/
def Dev.filterChange (d : Dev) (k : Nat) (lv : Bool) : Dev :=
  if d.level k = lv then d
  else
    let d1 := d.setLevel k lv
    let edge := d1.rf (Reg.pinkCfg k) 15 14
    let d2 := d1.raiseIf (edge = 3 || (edge = 1 && lv) || (edge = 2 && !lv)) (320 + k)
    let d3 := d2.capturePin k lv
    let f := d3.func k
    let d4 :=
      if !d3.clocked then d3
      else
        let d5 := if f = 1 ∧ 96 ≤ k ∧ k < 112 then d3.decChange ((k - 96) / 2) else d3
        let d6 := match coinOf k f with
          | some i => if d.coinIn i = d1.coinIn i then d5 else d5.coinEdge i
          | none => d5
        let d7 := if f = 2 ∧ 80 ≤ k ∧ k < 84 then d6.uaNext (k - 80) else d6
        d7.watchTouch 0 k
    d4.patAll

/-- A PINk_FUNC write that the owner may make (R313, R318, R320): the pin takes the function, its filter output restarts
at the function's default level, consumers of changes take nothing from it, and two pins on one input conflict. -/
def Dev.pinFunc (d : Dev) (k : Nat) (v : Word) : Dev :=
  let f := fld v 2 0
  if !pinFuncOk k f then d.refuse Reg.pinChk (chkWord 0x40 8 k)
  else
    let old := d.func k
    let d1 := (d.setReg (Reg.pinkFunc k) (v &&& 7)).setLevel k (d.pinDefault k f)
    let drop (d : Dev) (f : Nat) : Dev := match coinOf k f with
      | some i => d.setCoin i { d.coin i with start := none, long := false }
      | none => d
    let d2 := drop (drop d1 old) f
    let d3 := if 96 ≤ k ∧ k < 112 then d2.setDec ((k - 96) / 2) { d2.dec ((k - 96) / 2) with phase := d2.encPhase ((k - 96) / 2), edge := none } else d2
    let d4 := match twinPin k f with
      | some (k2, f2) =>
        if d3.func k2 = f2 then
          [k, k2].foldl (fun (d : Dev) j => (((d.setRb (Reg.pinkStat j) 1 true).setRb (Reg.pinConflict (j / 32)) (j % 32) true).raise (320 + j))) d3
        else d3
      | none => d3
    (d4.drivePin k).patAll

/-- A PINk_GPIO write that the owner may make (R319). -/
def Dev.pinGpio (d : Dev) (k : Nat) (v : Word) : Dev := (d.setReg (Reg.pinkGpio k) (v &&& 3)).drivePin k

/-- A write of ENCe_CNT (R329). -/
def Dev.encWrite (d : Dev) (e : Nat) (v : Word) : Dev := (d.setReg (Reg.encCnt e) v).setDec e { d.dec e with edge := none }

end Sys2Proof.Machine
end

