-- ==== Sys2Proof/Machine/Beam.lean ====
section
/-! DEFINITION. Beam time: the ports' timing, which port a pipe feeds, latch points, the master timing, genlock, and
the timed write queues (R22 to R39). -/

namespace Sys2Proof.Machine

/-! ### Timing fields -/

/-- A port's timing set, as compositing sees it (in force) or as its timing generator runs it (scan) (R128, R130). -/
structure Timing where
  hact : Nat
  htot : Nat
  vact : Nat
  vtot : Nat
  khz  : Nat
  lead : Nat
  ilace : Bool
  deriving DecidableEq, Repr

/-- The timing that a reading of the port's registers gives; a `word` function tells which set. -/
def timingOf (word : Nat → Word) (x : Nat) : Timing :=
  { hact := fld (word (Reg.soHtim x)) 15 0, htot := fld (word (Reg.soHtim x)) 31 16,
    vact := fld (word (Reg.soVtim x)) 15 0, vtot := fld (word (Reg.soVtim x)) 31 16,
    khz := fld (word (Reg.soDotclk x)) 19 0, lead := fld (word (Reg.soCfg x)) 31 16,
    ilace := bit (word (Reg.soCfg x)) 5 }

/-- Lines of frame f: a field of parity 1 has one more (R132). -/
def Timing.lines (t : Timing) (f : Nat) : Nat := t.vtot + (if t.ilace then f % 2 else 0)

/-- The line period P in CCLK (R50). -/
def Timing.period (t : Timing) : Nat := t.htot * 1000000 / t.khz

/-- The line budget B in CCLK (R50). -/
def Timing.budget (t : Timing) : Nat := 95 * t.period / 100

/-- SO_x_CTL.EN. -/
def Dev.soEn (d : Dev) (x : Nat) : Bool := d.rb (Reg.soCtl x) 0

/-- The pipe that a port names in the set in force: 0, 1, or 2 for none (R139). -/
def Dev.soPipe (d : Dev) (x : Nat) : Nat := d.lf (Reg.soCfg x) 1 0

/-- The running port that pipe p feeds, the first in the order A, B, C (R33, R139); none while its fed timing is
stopped (R36). -/
def Dev.feed (d : Dev) (p : Nat) : Option Nat :=
  (List.range 3).find? (fun x => (d.port x).run && decide (d.soPipe x = p))

/-- The primary of the mirrored pair that port x is in, or x itself (R139). -/
def Dev.primary (d : Dev) (x : Nat) : Nat :=
  if d.soPipe x < 2 then ((List.range 3).find? (fun y => d.soEn y && decide (d.soPipe y = d.soPipe x))).getD x else x

/-- The timing that pipe p composites by, of the port it feeds. -/
def Dev.feedTiming (d : Dev) (p : Nat) : Option Timing := (d.feed p).map (fun x => timingOf d.inForce x)

/-- The lead that pipe p's latch points use: the primary's (R139). -/
def Dev.leadOf (d : Dev) (x : Nat) : Nat := d.lf (Reg.soCfg (d.primary x)) 31 16

/-- The first event number of port x's scan-out events (R136). -/
def portEvent (x : Nat) : Nat := 32 + 16 * x

/-- The event `e` places into the table of R136 raised on the port that pipe p feeds, if it feeds one. -/
def Dev.raiseFeed (d : Dev) (p e : Nat) : Dev :=
  match d.feed p with
  | some x => d.raise (portEvent x + e)
  | none => d

/-! ### Latch points -/

/-- The line composited after line L of frame f. -/
def nextLine (vact f l : Nat) : Nat × Nat := if l + 1 < vact then (f, l + 1) else ((f + 1) % 65536, 0)

/-- The first latch point of a timing that starts at dot 0:0 of frame f (R33): line SO_LEAD, or line 0 of the next
frame when no active line is that far on. -/
def firstLatch (vact lead f : Nat) : Nat × Nat := if lead < vact then (f, lead) else ((f + 1) % 65536, 0)

/-- A tag is future against a pipe's next latch point (R38). -/
def tagFuture (tf tl nf nl : Nat) : Bool :=
  let dd := (tf + 65536 - nf % 65536) % 65536
  if dd = 0 then decide (nl ≤ tl) else decide (dd ≤ 32767)

/-- Frame f is due against frame g: f is g or past (R38, R58). -/
def frameDue (f g : Nat) : Bool :=
  let dd := (f + 65536 - g % 65536) % 65536
  decide (dd = 0) || decide (32768 ≤ dd)

/-! ### The timed write queues -/

/-- The target address lies in pipe p's timed space (R79, R106, R122). -/
def timedSpace (p a : Nat) : Bool :=
  a % 4 = 0 &&
  ((let o := a - (0x500100 + 0x80000 * p)
    0x500100 + 0x80000 * p ≤ a && o < 0x200 && 0x20 ≤ o % 0x40 && o % 0x40 ≤ 0x30) ||
   (0x1800000 ≤ a && a < 0x2000000) ||
   (0x680000 ≤ a && a < 0x700000 && a % 32 < 24) ||
   (let o := a - (0x700000 + 0x80000 * p)
    0x700000 + 0x80000 * p ≤ a &&
    (o = 0x10 || (0x40 ≤ o && o < 0x68) || (0x100 ≤ o && o < 0x180 && 0x20 ≤ o % 0x40 && o % 0x40 ≤ 0x30) ||
     (0x10000 ≤ o && o < 0x20000))))

/-- What a timed write entry met (TQ.STAT's values, R164): 0 in time, 1 LATE, 2 dropped, 3 violation, 4 stalled on a
full queue. -/
abbrev TqOutcome := Nat

/-- A LATE entry is refused: the port's LATE event, SYS_TWQn_LATE and LATE_CNT (R37). -/
def Dev.twqLate (d : Dev) (p : Nat) (line master cause : Nat) : Dev :=
  ((d.setReg (Reg.sysTwqLate p) (BitVec.ofNat 32 (line + master * 65536 + cause * 1048576))).setRf (Reg.sysTwqStat p) 31 24
    (satInc (d.rf (Reg.sysTwqStat p) 31 24) 255)).raiseFeed p 13

/-- A write dropped by the pipe check is counted (R36). -/
def Dev.twqDrop (d : Dev) (p n : Nat) : Dev :=
  d.setRf (Reg.sysTwqStat p) 23 16 (min 255 (d.rf (Reg.sysTwqStat p) 23 16 + n))

/-- The pipe's fed timing runs and its compositor is enabled (R36). -/
def Dev.pipeLive (d : Dev) (p : Nat) : Bool := (d.pipe p).live && (d.feed p).isSome

/-- The line of a tag lies in the timing's active lines (R38); with no timing running the pipe check decides. -/
def Dev.tagLineOk (d : Dev) (p line : Nat) : Bool :=
  match d.feedTiming p with
  | some t => decide (line < t.vact)
  | none => true

/-- An entry enters pipe p's queue: address, line range, access table, pipe, lateness, room (R35 to R38). -/
def Dev.twqEnter (d : Dev) (p : Nat) (e : TimedWrite) : Dev × TqOutcome :=
  let pl := placeFn0 e.addr
  let q := d.tq p
  if !timedSpace p e.addr then (d.refuse Reg.sysChk 2, 2)
  else if !d.tagLineOk p e.line then (d.refuse Reg.sysChk 3, 2)
  else if !d.permits e.master pl.target pl.off 4 true then (d.violate e.master 0 pl.target true pl.off, 3)
  else if !d.pipeLive p then (d.twqDrop p 1, 2)
  else if !tagFuture e.frame e.line (d.pipe p).nextF (d.pipe p).nextL then (d.twqLate p e.line e.master 0, 1)
  else if 256 ≤ (q.entries.filter (fun x => x.frame = e.frame ∧ x.line = e.line)).length then
    (d.twqLate p e.line e.master 1, 1)
  else if 4096 ≤ q.entries.length then (d.setTq p { q with stalled := q.stalled ++ [e] }, 4)
  else (d.setTq p { q with entries := q.entries ++ [e] }, 0)

/-- The entries tagged for a line, in source order: Headgate, then LP0 to LP3, each in order of entry (R39). -/
def twqDue (es : List TimedWrite) (f l : Nat) : List TimedWrite :=
  let due := es.filter (fun e => e.frame = f ∧ e.line = l)
  [0, 2, 3, 4, 5].flatMap (fun m => due.filter (fun e => e.master = m))

/-- A pipe's queue is discarded; at DIM each entry is counted in DROP (R36, R431). -/
def Dev.twqDiscard (d : Dev) (p : Nat) (count : Bool) : Dev :=
  let n := (d.tq p).entries.length
  (if count then d.twqDrop p n else d).setTq p { d.tq p with entries := [] }

/-! ### The master timing -/

/-- Lines of the master timing's current frame, when known (R26, R27). -/
def Dev.masterLines (d : Dev) : Option Nat :=
  match d.time.src with
  | none => some 1000
  | some x => if x < 3 then some ((timingOf d.scanWord x).lines (d.port x).frame)
              else if d.time.refLines = 0 then none else some d.time.refLines

/-- Dots of a master line, when known (R26). -/
def Dev.masterDots (d : Dev) : Option Nat :=
  match d.time.src with
  | none => some 10000
  | some x => if x < 3 then some (timingOf d.scanWord x).htot else none

/-- The idle timing starts at once, with the next frame number (R26). -/
def Dev.idleStart (d : Dev) : Dev :=
  { d with time := { d.time with src := none, frame := (d.time.frame + 1) % 65536, line := 0, dot := 0, fresh := true, fly := false } }

/-- The selected source, from SYS_TBASE in force: none when it names an output whose timing generator is stopped (R24, R26). -/
def Dev.selected (d : Dev) : Option Nat :=
  let s := d.lf Reg.sysTbase 2 0
  if s < 3 then (if (d.port s).run then some s else none) else if s < 5 then some s else none

/-- An LP's wait, seen by a delivered master line start (line l, so also dot 0) (R162). -/
def waitLine (l : Nat) : LpWait → LpWait
  | .line v h => .line v (h || decide (v = l))
  | .dot v h => .dot v (h || decide (v = 0))
  | w => w

/-- An LP's wait, seen by the delivery of dot k (R162). -/
def waitDot (k : Nat) : LpWait → LpWait
  | .dot v h => .dot v (h || decide (v = k))
  | w => w

/-- Every wait of an LP, its own and those of its saved contexts (R162). -/
def LpSt.mapWait (l : LpSt) (f : LpWait → LpWait) : LpSt :=
  { l with wait := f l.wait, stack := l.stack.map (fun c => { c with wait := f c.wait }) }

/-- The master line start is delivered to the CCLK domain: the poll and the beam waits it sets off, and the line tick
it will give (R13, R28, R162, R255). -/
def Dev.deliverLine (d : Dev) (l : Nat) : Dev :=
  let poll := d.lf (Reg.hiCfg 0) 6 0
  { d with
    time := { d.time with line := l, dot := 0, fresh := false, tickDue := true, lines := d.time.lines + 1,
                          pollDue := d.time.pollDue || decide (l % poll = 0) },
    lps := d.lps.map (fun e => (e.1, e.2.mapWait (waitLine l))) }

/-- A SYS commit's check over the shadow set (R25, R29). -/
def Dev.sysCheck (d : Dev) : Nat :=
  let s := d.rf Reg.sysTbase 2 0
  if s < 3 ∧ !(d.port s).run then 1
  else if 5 ≤ s then 0x40
  else if s < 3 ∧ d.rb Reg.sysGlkCfg s then 0x41
  else 0

/-- Genlock steering starts or stops on an output as SYS_GLK_CFG in force says (R29, R30); a secondary of a mirrored
pair ignores its bit (R139). -/
def Dev.glkFollow (d : Dev) (x : Nat) : Dev :=
  let want := d.lb Reg.sysGlkCfg x && decide (d.primary x = x)
  let q := d.port x
  if want && !q.steer && q.run then
    let jam := d.lb Reg.sysGlkCfg 3
    let d1 := d.setPort x { q with steer := true, black := q.black || jam }
    { d1 with time := { d1.time with jam := Tab.put (fun _ => false) d1.time.jam x jam } }
  else if !want && q.steer then
    (d.setPort x { q with steer := false }).setRb Reg.sysGlkStat x false
  else d

/-- The SYS commit at a master frame start (R25, R420). -/
def Dev.sysCommitAt (d : Dev) : Dev :=
  if d.time.commit then
    let c := d.sysCheck
    let d1 := { d with time := { d.time with commit := false } }
    if c ≠ 0 then d1.refuse Reg.sysChk (BitVec.ofNat 32 c)
    else ((((d1.setReg Reg.sysChk 0).apply [Reg.sysTbase, Reg.sysGlkCfg]).glkFollow 0).glkFollow 1).glkFollow 2
  else d

/-- The shadowed registers of port x. -/
def soKeys (x : Nat) : List Nat :=
  [Reg.soCfg x, Reg.soFsbase x, Reg.soDotclk x, Reg.soHtim x, Reg.soHsync x, Reg.soVtim x, Reg.soVsync x, Reg.soDp x,
    Reg.soAud x, Reg.soInfo x, Reg.soCrcen x] ++
  (List.range 16).flatMap (fun r => [Reg.soCrcx x r, Reg.soCrcy x r, Reg.soCrcexp x r])

/-- Port x's timing generator and scan-out take up the set in force (R130). -/
def Dev.takeSet (d : Dev) (x : Nat) : Dev :=
  { d with scan := (soKeys x).foldl (fun t a => Tab.put resetWord t a (d.inForce a)) d.scan }

/-- Pipe p begins with the first latch point of port x that follows dot 0:0 of frame f (R33, R109). -/
def Dev.firstPoint (d : Dev) (p x f : Nat) : Dev :=
  let (nf, nl) := firstLatch (d.lf (Reg.soVtim x) 15 0) (d.leadOf x) f
  d.setPipe p { d.pipe p with nextF := nf, nextL := nl, buf := none, begun := [] }

/-- A port's timing generator starts at 0:0:0 of frame f; the pipe it feeds takes its first latch point (R23, R33). -/
def Dev.portStart (d : Dev) (x f : Nat) : Dev :=
  let d1 := (d.takeSet x).setRb (Reg.soStat x) 0 true
  let d2 := d1.setPort x { d1.port x with run := true, locking := false, waiting := false, frame := f, line := 0, dot := 0, fresh := true, acc := 0, crc := [] }
  let p := d2.soPipe x
  if p < 2 ∧ d2.feed p = some x then d2.firstPoint p x f else d2

/-- Outputs flagged to jam restart at 0:0:0 with the master's frame number (R30). -/
def Dev.jamOutputs (d : Dev) : Dev :=
  let d1 := (List.range 3).foldl (fun d x =>
    if Tab.get (fun _ => false) d.time.jam x && (d.port x).run then
      let d2 := d.portStart x d.time.frame
      d2.setPort x { d2.port x with black := false }
    else d) d
  { d1 with time := { d1.time with jam := [] } }

end Sys2Proof.Machine
end

