-- ==== Sys2Proof/Machine/Rings.lean ====
section
/-! DEFINITION. Descriptors and rings (R248 to R253, R261 to R268): descriptor fields, ring registers, the commands a
ring has in its engine, completions, and what the device puts on the PCIe link. -/

namespace Sys2Proof.Machine

/-- A descriptor: 64 bytes, byte 0 in the low bits. -/
abbrev Desc := BitVec 512

/-- n bytes of a descriptor from byte o, little-endian. -/
def dN (w : Desc) (o n : Nat) : Nat := w.toNat / 2 ^ (8 * o) % 2 ^ (8 * n)

/-- Bits hi to lo of the 32-bit word at byte o of a descriptor. -/
def dF (w : Desc) (o hi lo : Nat) : Nat := dN w o 4 / 2 ^ lo % 2 ^ (hi + 1 - lo)

/-- The header's fields (Table — Descriptor header). -/
def dOp (w : Desc) : Nat := dN w 0 1
def dDl (w : Desc) : Bool := dF w 0 8 8 == 1
def dIrq (w : Desc) : Bool := dF w 0 9 9 == 1
def dFence (w : Desc) : Bool := dF w 0 10 10 == 1
def dArg (w : Desc) : Nat := dN w 2 1
def dDot (w : Desc) : Nat := dN w 4 2
def dLine (w : Desc) : Nat := dN w 6 2
def dFrame (w : Desc) : Nat := dN w 8 2
def dTag (w : Desc) : Nat := dN w 12 2

/-- The deadline as the 48-bit sample count of an audio ring. -/
def dSample (w : Desc) : Nat := dN w 4 6

/-- The header's reserved fields are 0 (R252). -/
def dClean (w : Desc) : Bool := dF w 0 15 11 == 0 && dN w 3 1 == 0 && dN w 10 2 == 0 && dN w 14 2 == 0

/-- The function a ring belongs to: rings 64 to 67 are rings 0 to 3 of function 1 (R248). -/
def ringFn (r : Nat) : Nat := if r < 64 then 0 else 1

/-- The ring's number within its function. -/
def ringNo (r : Nat) : Nat := if r < 64 then r else r - 64

/-- HI_RINGn_CFG's fields. -/
def Dev.ringEn (d : Dev) (r : Nat) : Bool := d.rb (Reg.hiRingCfg r) 0
def Dev.ringSize (d : Dev) (r : Nat) : Nat := 2 ^ d.rf (Reg.hiRingCfg r) 5 1
def Dev.ringType (d : Dev) (r : Nat) : Nat := d.rf (Reg.hiRingCfg r) 8 6
def Dev.ringUnit (d : Dev) (r : Nat) : Nat := d.rf (Reg.hiRingCfg r) 20 16

/-- Every ring, in the order in which they are served (R258). -/
def allRings : List Nat := List.range 68

/-- A request that function f may issue: the link is up and Bus Master Enable is 1 (R243, R267). -/
def Dev.mayIssue (d : Dev) (f : Nat) : Bool := d.link && (d.fn f).bme

/-- A posted write to host memory; nothing is issued while the function may issue no request (R243). -/
def Dev.hostWrite (d : Dev) (f addr : Nat) (bs : List Byte) : Dev :=
  if d.mayIssue f then d.send (.hostWrite f addr bs) else d

/-- The 64-bit address a LO and HI register pair holds. -/
def Dev.addr64 (d : Dev) (lo hi : Nat) : Nat := (d.reg lo).toNat + (d.reg hi).toNat * 2 ^ 32

/-- The mask bit of an MSI-X vector: bit 0 of its vector control word (R247). -/
def Dev.vecMasked (d : Dev) (f v : Nat) : Bool := d.rb (Reg.hiMsixT f (4 * v + 3)) 0

/-- Function f's vector v is to be signalled: its message is sent, or its pending bit set while it is masked (R247). -/
def Dev.msix (d : Dev) (f v : Nat) : Dev :=
  if d.vecMasked f v then d.setRb (Reg.hiMsixP f (v / 32)) (v % 32) true
  else if d.mayIssue f then d.send (.msix f v) else d

/-- A completion word 1 with RESULT 1 and a REASON (R260, R263). -/
def refuseWord (reason : Nat) : Word := BitVec.ofNat 32 (1 + reason * 256)

/-- The completion of a descriptor with the engine's three words. -/
def compOf (w : Desc) (w1 w2 w3 : Word) : Comp := ⟨dOp w, dTag w, w1, w2, w3, dIrq w⟩

/-- RESULT of a completion is 1. -/
def Comp.failed (c : Comp) : Bool := bit c.w1 0

/-- A command of ring r, known by the HEAD it was passed at, has its completion ready: it is written in ring order
(R251). -/
def Dev.complete (d : Dev) (r id : Nat) (c : Comp) : Dev :=
  let q := d.ring r
  d.setRing r { q with issue := q.issue.map (fun e => if e.1 = id ∧ e.2 = none then (id, some c) else e) }

/-- The first descriptor that stands passed to the engine of ring r and not taken up, if it has one of these opcodes. -/
def Dev.front (d : Dev) (r : Nat) (ops : List Nat) : Option (Nat × Desc) :=
  match (d.ring r).passed with
  | (id, w) :: _ => if ops.contains (dOp w) then some (id, w) else none
  | [] => none

/-- The engine of ring r takes up n descriptors. -/
def Dev.takePassed (d : Dev) (r n : Nat) : Dev :=
  let q := d.ring r
  d.setRing r { q with passed := q.passed.drop n }

/-- The bytes of a completion entry (Table — Completion entry header). -/
def compBytes (c : Comp) (phase : Bool) : List Byte :=
  toBytes 4 (b2n phase + c.op * 256 + c.tag * 65536) ++ toBytes 4 c.w1.toNat ++ toBytes 4 c.w2.toNat ++ toBytes 4 c.w3.toNat

/-- Whether ring r's next completion has no room (R251). -/
def Dev.cqFull (d : Dev) (r : Nat) : Bool :=
  decide (((d.ring r).comps + 2 ^ 32 - (d.ring r).cqHead) % 2 ^ 32 = d.ringSize r)

/-- The oldest completion of ring r is written, and its event or message follows (R250, R251, R264). A completion that
finds the link down is dropped (R267). -/
def Dev.writeCompletion (d : Dev) (r : Nat) : Dev :=
  let q := d.ring r
  match q.issue with
  | (_, some c) :: rest =>
    if !d.link then d.setRing r { q with issue := rest }
    else if d.cqFull r || !d.mayIssue (ringFn r) then d
    else
      let phase := q.comps / d.ringSize r % 2 = 0
      let addr := d.addr64 (Reg.hiRingCqLo r) (Reg.hiRingCqHi r) + 16 * (q.comps % d.ringSize r)
      let d1 := (d.setRing r { q with issue := rest, comps := (q.comps + 1) % 2 ^ 32, stalled := false }).hostWrite
        (ringFn r) addr (compBytes c phase)
      if c.irq || c.failed then (if r < 64 then d1.raise (128 + r) else d1.msix 1 (r - 64)) else d1
  | _ => d

/-- A command waits on ring r: something it passed has no completion written yet (R268). -/
def Dev.ringBusy (d : Dev) (r : Nat) : Bool := !(d.ring r).issue.isEmpty

/-- The deadline of a descriptor against the master timing has come or passed (R253). -/
def Dev.deadlineDue (d : Dev) (w : Desc) : Bool :=
  let dd := (dFrame w + 65536 - d.time.frame % 65536) % 65536
  if dd = 0 then decide (dLine w < d.time.line) || (decide (dLine w = d.time.line) && decide (dDot w ≤ d.time.dot))
  else decide (32768 ≤ dd)

/-- The deadline's line or dot is at or above the master total (R253). A total that is not known refuses none. -/
def Dev.deadlineBad (d : Dev) (w : Desc) : Bool :=
  (match d.masterLines with | some n => decide (n ≤ dLine w) | none => false) ||
  (match d.masterDots with | some n => decide (n ≤ dDot w) | none => false)

end Sys2Proof.Machine
end

