-- ==== Sys2Proof/Machine/Headgate.lean ====
section
/-! DEFINITION. The Headgate (R46 to R63): envelopes, the line budget, the cost of a line, the checks of a scene,
admission, pending scenes, and the clamp log. -/

namespace Sys2Proof.Machine

/-! ### Envelopes -/

/-- An envelope: slot number to the entry's eight words; a slot not named has EN = 0 (R47). -/
abbrev Env := Tab (List Nat)

/-- Bits hi to lo of word i of slot s's entry (Table — Envelope entry). -/
def envF (e : Env) (s i hi lo : Nat) : Nat := (Tab.get (fun _ => []) e s).getD i 0 / 2 ^ lo % 2 ^ (hi + 1 - lo)

def envEn (e : Env) (s : Nat) : Bool := envF e s 0 0 0 == 1
def envVs (e : Env) (s : Nat) : Bool := envF e s 0 1 1 == 1
def envFmt (e : Env) (s : Nat) : Nat := envF e s 0 3 2
def envOpq (e : Env) (s : Nat) : Bool := envF e s 0 4 4 == 1
def envDs (e : Env) (s : Nat) : Nat := envF e s 0 27 16
def envW (e : Env) (s : Nat) : Nat := envF e s 1 15 0
def envYmin (e : Env) (s : Nat) : Nat := envF e s 2 15 0
def envYmax (e : Env) (s : Nat) : Nat := envF e s 2 31 16
def envSpans (e : Env) (s : Nat) : Nat := envF e s 3 15 0
def envWmax (e : Env) (s : Nat) : Nat := envF e s 3 31 16

/-- Slot s is composited on line y (R48). -/
def envOnLine (e : Env) (s y : Nat) : Bool := envEn e s && decide (envYmin e s ≤ y) && decide (y ≤ envYmax e s)

/-- The base layer order from the top down (R54): bitmap 1, groups 3 and 2, planes 7 and 6, group 1, planes 5 and 4,
group 0, planes 3 to 0, bitmap 0. -/
def baseOrder : List Nat := [9, 13, 12, 7, 6, 11, 5, 4, 10, 3, 2, 1, 0, 8]

/-- The declared opaque rectangle of slot s acts on line y (R49). -/
def envRectOn (e : Env) (s y : Nat) : Bool :=
  envOnLine e s y && envOpq e s && decide (envF e s 5 15 0 ≤ y) && decide (y ≤ envF e s 5 31 16)

/-- The dots of slot s's rectangle. -/
def envRect (e : Env) (s : Nat) : Nat × Nat := (envF e s 4 15 0, envF e s 4 31 16)

/-- The slots above slot s in the base order. -/
def slotsAbove (s : Nat) : List Nat := baseOrder.takeWhile (· ≠ s)

/-! ### The cost of a line -/

/-- Output spans of a rectangle list that lie wholly inside one rectangle, of the ns spans of the line (R53). -/
def coveredSpans (rects : List (Nat × Nat)) (ns : Nat) : Nat :=
  ((List.range ns).filter (fun j => rects.any (fun r => decide (r.1 ≤ 8 * j) && decide (8 * j + 7 ≤ r.2)))).length

/-- The term of slot s on a line where it is composited, with the rectangles declared above it (R52, R53). -/
def slotCost (e : Env) (s ns : Nat) (rects : List (Nat × Nat)) : Nat :=
  let ds := max 0x100 (envDs e s)
  if 10 ≤ s then envSpans e s * (ceilDiv (envWmax e s * ds) 2048 + 4)
  else
    let w := min (envW e s) (8 * (ns - coveredSpans rects ns))
    if w = 0 then 0 else ceilDiv (w * ds) 2048 * (if envVs e s then 2 else 1) + 6

/-- C(y) of an envelope over an active width of hact dots (R52 to R54). -/
def lineCost (e : Env) (hact y : Nat) : Nat :=
  let ns := ceilDiv hact 8
  (baseOrder.foldl (fun (acc : Nat × List (Nat × Nat)) s =>
    if envOnLine e s y then
      (acc.1 + slotCost e s ns acc.2, if s < 10 && envRectOn e s y then envRect e s :: acc.2 else acc.2)
    else acc) (24, [])).1

/-- The band starts below the active line count (R54). -/
def bandStarts (e : Env) (vact : Nat) : List Nat :=
  (0 :: (List.range 14).flatMap (fun s =>
    if envEn e s then
      [envYmin e s, envYmax e s + 1] ++ (if s < 10 && envOpq e s then [envF e s 5 15 0, envF e s 5 31 16 + 1] else [])
    else [])).filter (· < vact)

/-- The worst line and its cost: the highest cost over the band starts, the lowest line of those that share it (R54). -/
def worstLine (e : Env) (hact vact : Nat) : Nat × Nat :=
  (bandStarts e vact).foldl (fun best y =>
    let c := lineCost e hact y
    if best.2 < c ∨ (c = best.2 ∧ y < best.1) then (y, c) else best) (0, lineCost e hact 0)

/-! ### The pipe's timing and budget -/

/-- The port that pipe p feeds, running or not: the running one, else the first that names the pipe (R36, R139). -/
def Dev.pipePort (d : Dev) (p : Nat) : Option Nat :=
  match d.feed p with
  | some x => some x
  | none => (List.range 3).find? (fun x => d.soEn x && decide (d.soPipe x = p))

/-- The timing that pipe p's scenes are judged by. -/
def Dev.pipeTiming (d : Dev) (p : Nat) : Timing :=
  match d.pipePort p with
  | some x => timingOf d.inForce x
  | none => ⟨0, 0, 0, 0, 1, 0, false⟩

/-- HG_CTL.ENp. -/
def Dev.hgEn (d : Dev) (p : Nat) : Bool := d.rb Reg.hgCtl p

/-- HG_WORSTp and HG_WORSTLNp take the worst line of the envelope in force under a timing (R51, R54). -/
def Dev.hgWorstSet (d : Dev) (p hact vact : Nat) : Dev :=
  let w := worstLine (d.gate p).env hact vact
  (d.setReg (Reg.hgWorst p) (BitVec.ofNat 32 w.2)).setReg (Reg.hgWorstln p) (BitVec.ofNat 32 w.1)

/-- HG_PERIODp and HG_BUDGETp are computed from a timing (R50). -/
def Dev.hgBudgetSet (d : Dev) (p : Nat) (t : Timing) : Dev :=
  (d.setReg (Reg.hgPeriod p) (BitVec.ofNat 32 t.period)).setReg (Reg.hgBudget p) (BitVec.ofNat 32 t.budget)

/-- HG_CTL.ENp is set: the fed timing must run (R50, R58, R63). -/
def Dev.hgEnable (d : Dev) (p : Nat) : Dev :=
  if d.hgEn p then d
  else
    match d.feedTiming p with
    | none => d.refuse Reg.hgChk (chkWord 0x45 8 p)
    | some t =>
      let d1 := ((d.setRb Reg.hgCtl p true).setReg Reg.hgChk 0).hgBudgetSet p t
      ((d1.setGate p { HgSt.init with evald := (d.gate p).evald }).setReg (Reg.hgLast p) 0).hgWorstSet p t.hact t.vact

/-- HG_CTL.ENp is cleared: refused while the compositor pipe is enabled, else the pending scenes go and the envelope in
force is empty (R63). -/
def Dev.hgDisable (d : Dev) (p : Nat) : Dev :=
  if !d.hgEn p then d
  else if d.rb (Reg.cmpCtl p) 0 then d.refuse Reg.hgChk (chkWord 0x46 8 p)
  else
    ((((d.setRb Reg.hgCtl p false).setGate p HgSt.init).setReg (Reg.hgBudget p) 0).setReg (Reg.hgWorst p) 24).setReg
      (Reg.hgWorstln p) 0

/-! ### Scene groups -/

/-- The members of the scene group that opens with w: 1 + NENV + NUPD descriptors (R46). -/
def groupLen (w : Desc) : Nat := 1 + dN w 16 1 + dN w 17 1

/-- The payload bytes from o to the end of a descriptor are 0. -/
def payloadZero (w : Desc) (o n : Nat) : Bool := dN w o n == 0

/-- Check 2 of R55: the group is well formed. -/
def groupOk (sc : Desc) (ms : List Desc) : Bool :=
  let nenv := dN sc 16 1
  let envs := ms.take nenv
  let upds := ms.drop nenv
  decide (nenv ≤ 14) && dClean sc && decide (dArg sc = 0) && payloadZero sc 18 46 &&
  envs.all (fun w => decide (dOp w = 2) && dClean w && decide (dArg w = 0) && payloadZero w 17 15 && decide (dN w 16 1 ≤ 13)) &&
  upds.all (fun w => decide (dOp w = 3) && dClean w && decide (1 ≤ dArg w) && decide (dArg w ≤ 4)) &&
  decide ((envs.map (fun w => dN w 16 1)).Nodup)

/-- The envelope that the ENV descriptors declare (R47). -/
def groupEnv (envs : List Desc) : Env :=
  envs.foldl (fun t w => Tab.put (fun _ => []) t (dN w 16 1) ((List.range 8).map (fun i => dN w (32 + 4 * i) 4))) []

/-- Write i of an UPD descriptor (R261): address, data, line, frame. -/
def updWrite (w : Desc) (i : Nat) : TimedWrite :=
  ⟨dN w (26 + 12 * i) 2, dN w (24 + 12 * i) 2, dN w (16 + 12 * i) 4, BitVec.ofNat 32 (dN w (20 + 12 * i) 4), 0⟩

/-- The writes of an UPD descriptor, in order. -/
def updWrites (w : Desc) : List TimedWrite := (List.range (dArg w)).map (updWrite w)

/-- Check 5 of R55 for one slot: the code of the first offending field in word order, 0 when all pass (R47, R48). Every
layer kind but bitmaps takes FMT 0 (R69, R115). -/
def entryCode (e : Env) (s hact vact : Nat) : Nat :=
  let f (i hi lo : Nat) : Nat := envF e s i hi lo
  if !envEn e s then 0
  else if 10 ≤ s ∧ f 0 4 1 ≠ 0 then 0x40
  else if s ∈ [8, 9] ∧ envFmt e s = 0 then 7
  else if f 0 15 5 ≠ 0 then 0x40
  else if envDs e s < 0x100 ∨ 0x400 < envDs e s then 1
  else if f 0 31 28 ≠ 0 then 0x40
  else if 10 ≤ s ∧ f 1 15 0 ≠ 0 then 0x40
  else if s < 10 ∧ (envW e s = 0 ∨ hact < envW e s) then 2
  else if f 1 31 16 ≠ 0 then 0x40
  else if envYmax e s < envYmin e s ∨ vact ≤ envYmax e s then 3
  else if s < 10 ∧ f 3 31 0 ≠ 0 then 0x40
  else if 10 ≤ s ∧ (envSpans e s = 0 ∨ envWmax e s = 0 ∨ 4096 < envWmax e s) then 6
  else if (10 ≤ s ∨ !envOpq e s) ∧ (f 4 31 0 ≠ 0 ∨ f 5 31 0 ≠ 0) then 0x40
  else if s < 10 ∧ envOpq e s ∧ (f 4 31 16 < f 4 15 0 ∨ hact ≤ f 4 31 16 ∨ f 5 31 16 < f 5 15 0 ∨ vact ≤ f 5 31 16) then 4
  else if f 6 31 0 ≠ 0 ∨ f 7 31 0 ≠ 0 then 0x40
  else 0

/-- Check 5 of R55: the first failing slot's code; a group slot that brings the sum of SPANS above 1,024 gives 0x05 after
its own fields. -/
def envCode (e : Env) (hact vact : Nat) : Nat :=
  ((List.range 14).foldl (fun (acc : Nat × Nat) s =>
    if acc.1 ≠ 0 then acc
    else
      let c := entryCode e s hact vact
      let sum := if 10 ≤ s ∧ envEn e s then acc.2 + envSpans e s else acc.2
      if c ≠ 0 then (c, sum) else if 10 ≤ s ∧ envEn e s ∧ 1024 < sum then (5, sum) else (0, sum)) (0, 0)).1

/-- Checks 1 to 8 of R55 on a group for pipe p: the reason code, and the worst line and cost reported (R55, R59). -/
def Dev.sceneJudge (d : Dev) (p : Nat) (sc : Desc) (ms : List Desc) : Nat × Nat × Nat :=
  let t := d.pipeTiming p
  let nenv := dN sc 16 1
  let env := groupEnv (ms.take nenv)
  let f := dFrame sc
  let writes := (ms.drop nenv).flatMap updWrites
  if !d.hgEn p then (0x0C, 0, 0)
  else if !groupOk sc ms then (9, 0, 0)
  else if dLine sc ≠ 0 ∨ dDot sc ≠ 0 then (0x0D, 0, 0)
  else if writes.any (fun w => decide (32768 ≤ (w.frame + 65536 - f) % 65536)) then (0x0E, 0, 0)
  else if envCode env t.hact t.vact ≠ 0 then (envCode env t.hact t.vact, 0, 0)
  else
    let w := worstLine env t.hact t.vact
    if (d.gate p).pend.any (fun s => frameDue f s.frame) then (0x0B, w)
    else if d.rf (Reg.hgBudget p) 21 0 < w.2 then (0x42, w)
    else if (d.feed p).isSome && !tagFuture f 0 (d.pipe p).nextF (d.pipe p).nextL then (0x0A, w)
    else (0, w)

/-- Entries enter pipe p's queue in order; whether any met a full queue (R35). -/
def Dev.twqEnterAll (d : Dev) (p : Nat) (es : List TimedWrite) : Dev × Bool :=
  es.foldl (fun acc e => let r := acc.1.twqEnter p e; (r.1, acc.2 || decide (r.2 = 4))) (d, false)

/-- The result of an admission is reported: HG_LASTp, HG_LASTCOSTp, the completion and the event (R59). -/
def Dev.sceneReport (d : Dev) (p r id : Nat) (sc : Desc) (code line cost : Nat) : Dev :=
  let w1 := BitVec.ofNat 32 (b2n (decide (code ≠ 0)) + code * 256 + line * 65536)
  ((((d.setReg (Reg.hgLast p) (w1 ||| 2)).setReg (Reg.hgLastcost p) (BitVec.ofNat 32 cost)).complete r id
    (compOf sc w1 (BitVec.ofNat 32 cost) 0)).raise (80 + 2 * p + b2n (decide (code ≠ 0))))

/-- The whole group at the front of ring r is passed: the SCENE's identifier, it and its members. -/
def Dev.frontGroup (d : Dev) (r : Nat) : Option (Nat × Desc × List Desc) :=
  match (d.ring r).passed with
  | (id, sc) :: rest =>
    if dOp sc = 1 ∧ groupLen sc ≤ rest.length + 1 then some (id, sc, (rest.take (groupLen sc - 1)).map Prod.snd) else none
  | [] => none

/-- SCENE (R55 to R60): the group at the front of ring r is judged for its pipe; accepted, its writes enter the timed
write queue and it is pending, refused it changes nothing else. A group whose writes find the queue full waits (R35). -/
def Dev.scene (d : Dev) (r : Nat) : Dev :=
  let p := d.ringType r
  match d.frontGroup r with
  | none => d
  | some (id, sc, ms) =>
    if 2 ≤ p then d
    else
      let (code, line, cost) := d.sceneJudge p sc ms
      let d1 := d.takePassed r (groupLen sc)
      if code = 0 then
        let (d2, full) := d1.twqEnterAll p ((ms.drop (dN sc 16 1)).flatMap updWrites)
        if full then d
        else
          (d2.setGate p { d2.gate p with pend := (d2.gate p).pend ++ [⟨dFrame sc, groupEnv (ms.take (dN sc 16 1)), line, cost⟩],
                                         evald := false }).sceneReport p r id sc 0 line cost
      else if code = 0x0A then (d1.twqLate p 0 0 0).sceneReport p r id sc code line cost
      else d1.sceneReport p r id sc code line cost

/-- A scene group with a member that could not be read is refused with 0x24 (R46). -/
def Dev.sceneUnread (d : Dev) (r : Nat) : Dev :=
  match (d.ring r).passed with
  | (id, sc) :: rest =>
    if dOp sc = 1 ∧ d.ringType r < 2 then (d.takePassed r (rest.length + 1)).sceneReport (d.ringType r) r id sc 0x24 0 0 else d
  | [] => d

/-- ENV outside a group: refused with 0x09, HG_LASTp unchanged (R46). -/
def Dev.envAlone (d : Dev) (r : Nat) : Dev :=
  match d.front r [2] with
  | some (id, w) =>
    if d.ringType r < 2 then
      ((d.takePassed r 1).complete r id (compOf w (BitVec.ofNat 32 (1 + 9 * 256)) 0 0)).raise (81 + 2 * d.ringType r)
    else d
  | none => d

/-- UPD outside a group (R261): its writes enter the queue as master 0; bit i of bytes 8 to 11 tells write i refused. A
queue that cannot take a write holds the UPD (R35). -/
def Dev.upd (d : Dev) (r : Nat) : Dev :=
  match d.front r [3] with
  | some (id, w) =>
    let p := d.ringType r
    if 2 ≤ p then d
    else
      let (d1, bad, full) := (List.range (dArg w)).foldl (fun (acc : Dev × Nat × Bool) i =>
        let r1 := acc.1.twqEnter p (updWrite w i)
        (r1.1, (if r1.2 = 0 then acc.2.1 else acc.2.1 + 2 ^ i), acc.2.2 || decide (r1.2 = 4))) (d, 0, false)
      if full then d
      else
        (d1.takePassed r 1).complete r id
          (compOf w (if bad = 0 then 0 else BitVec.ofNat 32 (1 + 0x22 * 256)) (BitVec.ofNat 32 bad) 0)
  | none => d

/-- The pending scenes that are due at the line-0 latch point of frame g take force in ascending deadline, the last
stands (R58). -/
def Dev.scenesForce (d : Dev) (p g : Nat) : Dev :=
  let q := d.gate p
  let due := q.pend.filter (fun s => frameDue s.frame g)
  match due.getLast? with
  | none => d
  | some s =>
    let t := d.pipeTiming p
    (d.setGate p { q with env := s.env, pend := q.pend.filter (fun s => !frameDue s.frame g) }).hgWorstSet p t.hact t.vact

/-- TIMING_COST_EVALUATION (R51): the admitted costs are evaluated over port x's shadow timing as it stands. -/
def Dev.hgEvaluate (d : Dev) (x : Nat) : Dev :=
  let p := d.soPipe x
  if p < 2 then d.setGate p { d.gate p with evald := true } else d

/-- The new budget of a timing is below the cost, over that timing, of the envelope in force or of a pending scene
(R51). -/
def Dev.hgOverBudget (d : Dev) (p : Nat) (t : Timing) : Bool :=
  ((d.gate p).env :: (d.gate p).pend.map (fun s => s.env)).any (fun e => decide (t.budget < (worstLine e t.hact t.vact).2))

/-! ### Clamps -/

/-- A line had clamps: the first is logged, the line counted, and the port's envelope event raised once (R62). -/
def Dev.clampLine (d : Dev) (p line : Nat) (clamps : List (Nat × Nat)) : Dev :=
  match clamps with
  | [] => d
  | (slot, kind) :: _ =>
    (d.setReg (Reg.hgEnvlog p) (BitVec.ofNat 32 (line + slot * 65536 + kind * 1048576 +
      satInc (d.rf (Reg.hgEnvlog p) 31 24) 255 * 16777216))).raiseFeed p 14

end Sys2Proof.Machine
end

