-- ==== Sys2Proof/Machine/Sprites.lean ====
section
/-! DEFINITION. Sprites and the Sluice (R86 to R108): the list walk, the Sluice's values, the sprites of a line, and the
checks of the sprite block. -/

namespace Sys2Proof.Machine

/-! ### The walk -/

/-- Word w of entry i of pipe p's sprite table, as a read gives it (R86). -/
def Dev.spWord (d : Dev) (p i w : Nat) : Nat := d.peekN (2 + p) (32 * i + 4 * w) 4

/-- Bits hi to lo of a number. -/
def bitsOf (n hi lo : Nat) : Nat := n / 2 ^ lo % 2 ^ (hi + 1 - lo)

/-- The head of group g's list: none when it is empty (R90). -/
def Dev.spHead (d : Dev) (p g : Nat) : Option Nat :=
  let w := d.reg (Reg.spHead p (g / 2))
  let o := 16 * (g % 2)
  if bit w (15 + o) then none else some (fld w (13 + o) o)

/-- A walk under way: the order so far, the entries visited, and the device with the status bits it set. -/
structure Walk where
  order   : List (Nat × Nat)
  visited : List Nat
  dev     : Dev

/-- Walk group g's list from entry i (R91): a revisit ends it, an entry of another group is passed over, an uncorrectable
entry ends it (R100). -/
def walkList (p g : Nat) : Nat → Nat → Walk → Walk
  | 0, _, k => k
  | fuel + 1, i, k =>
    if k.visited.contains i then { k with dev := k.dev.setRb (Reg.spStat p) 0 true }
    else if k.dev.badAt (2 + p) (32 * i + 16) 8 then
      { k with dev := (k.dev.noteReads (2 + p) 8 (32 * i + 16) 8).setRb (Reg.spStat p) 4 true }
    else
      let w4 := k.dev.spWord p i 4
      let w5 := k.dev.spWord p i 5
      let d1 := k.dev.noteReads (2 + p) 8 (32 * i + 16) 8
      let k1 : Walk :=
        if bitsOf w4 25 24 = g then ⟨k.order ++ [(g, i)], i :: k.visited, d1⟩
        else ⟨k.order, i :: k.visited, d1.setRb (Reg.spStat p) 1 true⟩
      if bitsOf w5 31 31 = 1 then k1 else walkList p g fuel (bitsOf w5 29 16) k1

/-- The list point (R91): the four lists are walked in group order; the order is that of the frame that follows. -/
def Dev.listPoint (d : Dev) (p : Nat) : Dev :=
  if !(d.pipe p).spOn || (d.feed p).isNone then d
  else
    let k := (List.range 4).foldl (fun (k : Walk) g =>
      match k.dev.spHead p g with
      | some i => walkList p g 16385 i k
      | none => k) ⟨[], [], d⟩
    k.dev.setPipe p { k.dev.pipe p with walkNext := k.order }

/-! ### The Sluice -/

/-- A part of a binding: its source, index and pin count (Table of SPp_SLSRCb); axis 0 is X, 1 is Y. -/
def Dev.slPart (d : Dev) (p b axis : Nat) : Nat × Nat × Nat :=
  let w := d.inForce (Reg.spSlsrc p b)
  if axis = 0 then (fld w 1 0, fld w 8 2, fld w 12 9) else (fld w 17 16, fld w 24 18, fld w 28 25)

/-- A source's condition and value at a sample point (R102, R104): cause 0 good, 1 disabled, 2 flagged. -/
def Dev.slSource (d : Dev) (src idx np : Nat) : Nat × Int :=
  if src = 1 then
    (if !d.ioOn sbEnc idx then 1 else if d.rb (Reg.encStat idx) 0 || d.watchFlag 2 idx then 2 else 0,
     (d.reg (Reg.encCnt idx)).toInt)
  else if src = 2 then
    (if !d.ioOn sbAdc idx then 1 else if d.rb (Reg.adcChVal idx) 12 || d.watchFlag 3 idx then 2 else 0,
     (d.rf (Reg.adcChVal idx) 11 0 : Nat))
  else
    (if (rangeFrom idx (np + 1)).any (fun k => d.watchFlag 0 k) then 2 else 0,
     ((List.range (np + 1)).foldl (fun n j => n + b2n (d.level (idx + j)) * 2 ^ j) 0 : Nat))

/-- The position a part computes from its source's value, in sixteenths, and whether it was clamped (R103). -/
def slPosition (val gain off mn mx : Int) : Int × Bool :=
  let t := val * gain
  let p := signed 32 (wrapI 32 (off + t / 16))
  let p1 := if p < mn * 16 then mn * 16 else p
  let p2 := if p1 > mx * 16 then mx * 16 else p1
  (p2, decide (p2 ≠ p))

/-- The value register of a part. -/
def slValReg (p b axis : Nat) : Nat := if axis = 0 then Reg.spSlxval p b else Reg.spSlyval p b

/-- One part computes at a latch point (R101 to R104); `told` holds the banks that have faulted in this line. -/
def Dev.slCompute (d : Dev) (p line : Nat) (told : List Nat) (b axis : Nat) : Dev × List Nat :=
  let (src, idx, np) := d.slPart p b axis
  let vr := slValReg p b axis
  if src = 0 ∨ (d.lb (Reg.spSlsrc p b) 13 ∧ line ≠ 0) then (d, told)
  else
    let (cause, val) := d.slSource src idx np
    if cause = 0 then
      let gain := signed 16 (if axis = 0 then d.lf (Reg.spSlgain p b) 15 0 else d.lf (Reg.spSlgain p b) 31 16)
      let off := signed 20 (d.lf (if axis = 0 then Reg.spSlxoff p b else Reg.spSlyoff p b) 19 0)
      let lim := if axis = 0 then Reg.spSlxlim p b else Reg.spSlylim p b
      let (pos, cl) := slPosition val gain off (signed 16 (d.lf lim 15 0)) (signed 16 (d.lf lim 31 16))
      let d1 := d.setReg vr (BitVec.ofNat 32 (wrapI 20 pos + b2n cl * 2 ^ 30))
      (d1.setPipe p { d1.pipe p with slHas := Tab.put (fun _ => false) (d1.pipe p).slHas (2 * b + axis) true }, told)
    else
      let d1 := d.setRb vr 31 true
      let bank := b / 32
      if told.contains bank then (d1, told)
      else
        ((d1.setReg (Reg.spSlfault p bank) (BitVec.ofNat 32 (b + axis * 128 + cause * 256 + line * 65536))).raise
          (88 + 4 * p + bank), bank :: told)

/-- The Sluice at the latch point of a line of pipe p (R101). -/
def Dev.sluice (d : Dev) (p line : Nat) : Dev :=
  ((List.range 128).foldl (fun acc b =>
    let a1 := acc.1.slCompute p line acc.2 b 0
    a1.1.slCompute p line a1.2 b 1) (d, ([] : List Nat))).1

/-- The Sluice value that overrides a coordinate of an entry bound to b, if the part is enabled and has computed (R101,
R104). -/
def Dev.slValue (d : Dev) (p b axis : Nat) : Option Nat :=
  if (d.slPart p b axis).1 ≠ 0 ∧ Tab.get (fun _ => false) (d.pipe p).slHas (2 * b + axis) then some (d.rf (slValReg p b axis) 19 0)
  else none

/-! ### Sprites on a line -/

/-- A sprite span of a line (R93, R95, R97): its group, entry words, covered dots, row position, and steps in force. -/
structure Span where
  group : Nat
  words : List Nat
  xpos  : Int
  first : Nat
  width : Nat
  v     : Nat
  xstep : Nat
  deriving DecidableEq, Repr

/-- Field of an entry's words (Table — Sprite entry). -/
def entF (ws : List Nat) (w hi lo : Nat) : Nat := bitsOf (ws.getD w 0) hi lo

/-- A bad entry: SW or SH above 256, or a reserved BLEND (R88, R89). -/
def entBad (ws : List Nat) : Bool :=
  decide (256 < entF ws 0 28 20) || decide (256 < entF ws 1 28 20) || decide (5 ≤ entF ws 4 15 13)

/-- A 4.12 step after the clamps of R94. -/
def spStep (s : Nat) : Nat := if s < 0x40 then 0x40 else if 0x4000 < s then 0x4000 else s

/-- The dots of 0 to hact − 1 that a sprite covers: the first and their number (R93, R95). -/
def coveredDots (xpos : Int) (sw xstep hact : Nat) : Nat × Nat :=
  let dmax : Int := ((sw * 65536 - 1) / xstep : Nat)
  let first := max 0 (-((-xpos) / 16))
  let last := min ((hact : Int) - 1) ((dmax + xpos) / 16)
  if last < first then (0, 0) else (first.toNat, (last - first + 1).toNat)

/-- What the line test of one entry gives: the span if it is one, and the flags it met: bad entry, step clamped by R94,
step clamped by R61. -/
def entryTest (ws : List Nat) (g : Nat) (xv yv : Option Nat) (dsmax y hact : Nat) : Option Span × Bool × Bool × Bool :=
  let sw := entF ws 0 28 20
  let sh := entF ws 1 28 20
  if entBad ws then (none, true, false, false)
  else
    let ypos := signed 20 (yv.getD (entF ws 1 19 0))
    let xpos := signed 20 (xv.getD (entF ws 0 19 0))
    let e : Int := (16 * y : Nat) - ypos
    if sw = 0 ∨ sh = 0 ∨ e < 0 then (none, false, false, false)
    else
      let ys := entF ws 3 31 16
      let v := e.toNat * spStep ys
      let yc := decide (spStep ys ≠ ys)
      if sh * 65536 ≤ v then (none, false, yc, false)
      else
        let xs := entF ws 3 15 0
        let xc := decide (spStep xs ≠ xs)
        let xe := min (spStep xs) (16 * dsmax)
        let (f, w) := coveredDots xpos sw xe hact
        if w = 0 then (none, false, yc || xc, false)
        else (some ⟨g, ws, xpos, f, w, v, xe⟩, false, yc || xc, decide (xe ≠ spStep xs))

/-- The entries of the walk order are tested against line y (R93, R98): the spans in walk order, which of their groups had
a step clamped by R61, and the device with the status bits and reports (R89, R94, R100). -/
def Dev.lineTest (d : Dev) (p : Nat) (env : Env) (y hact : Nat) : List (Span × Bool) × Dev :=
  (d.pipe p).walk.foldl (fun (acc : List (Span × Bool) × Dev) gi =>
    let d := acc.2
    let off := 32 * gi.2
    let d1 := d.noteReads (2 + p) 8 off 24
    if d.badAt (2 + p) off 24 then (acc.1, d1.setRb (Reg.spStat p) 4 true)
    else
      let ws := (List.range 6).map (d.spWord p gi.2)
      let b := entF ws 5 6 0
      let bound := entF ws 4 26 26 = 1
      let ds := if envEn env (10 + gi.1) then envDs env (10 + gi.1) else 0x400
      let (sp, bad, st, cl) := entryTest ws gi.1 (if bound then d.slValue p b 0 else none) (if bound then d.slValue p b 1 else none) ds y hact
      let d2 := if bad then d1.setRb (Reg.spStat p) 2 true else d1
      let d3 := if st then d2.setRb (Reg.spStat p) 3 true else d2
      (match sp with | some s => acc.1 ++ [(s, cl)] | none => acc.1, d3)) ([], d)

/-- The spans of group g that are drawn on line y, in walk order, and the clamps met there (R96, R97): KIND 0 for a group
the envelope does not enable, 2 for steps, 5 for too many spans, 6 for too wide ones. -/
def groupSpans (spans : List (Span × Bool)) (env : Env) (gen : Bool) (g y : Nat) : List Span × List (Nat × Nat) :=
  let s := 10 + g
  if !gen then ([], [])
  else if !envEn env s then ([], [(s, 0)])
  else if !envOnLine env s y then ([], [])
  else
    let mine := spans.filter (fun e => e.1.group = g)
    let kept := mine.take (envSpans env s)
    let wmax := envWmax env s
    (kept.map (fun e => { e.1 with width := min e.1.width wmax }),
     (if kept.any (fun e => e.2) then [(s, 2)] else []) ++ (if envSpans env s < mine.length then [(s, 5)] else []) ++
       (if kept.any (fun e => decide (wmax < e.1.width)) then [(s, 6)] else []))

/-! ### Checks and commits -/

/-- A part's shadow check (Table — SP reason codes): 0x02 then 0x03. -/
def Dev.slCheck (d : Dev) (p b axis : Nat) : Nat :=
  let w := d.reg (Reg.spSlsrc p b)
  let src := if axis = 0 then fld w 1 0 else fld w 17 16
  let idx := if axis = 0 then fld w 8 2 else fld w 24 18
  let np := if axis = 0 then fld w 12 9 else fld w 28 25
  let lim := d.reg (if axis = 0 then Reg.spSlxlim p b else Reg.spSlylim p b)
  if src = 0 then 0
  else if (src = 1 ∧ 8 ≤ idx) ∨ (src = 2 ∧ 16 ≤ idx) ∨ (src = 3 ∧ 128 ≤ idx + np) then 2
  else if signed 16 (fld lim 31 16) < signed 16 (fld lim 15 0) then 3
  else 0

/-- A binding's check: the first condition in table order that either part fails. -/
def Dev.bindCheck (d : Dev) (p b : Nat) : Nat :=
  let x := d.slCheck p b 0
  let y := d.slCheck p b 1
  if x = 0 then y else if y = 0 then x else min x y

/-- The checks of SPp_CTL.EN and SPp_COMMIT over the shadow set (R92, R108): code and failing binding. -/
def Dev.spCheck (d : Dev) (p : Nat) : Nat × Nat :=
  match d.feedTiming p with
  | none => (0x45, 0)
  | some t =>
    if (t.vtot - t.vact) * t.period < 16448 then (1, 0)
    else
      match (List.range 128).find? (fun b => d.bindCheck p b ≠ 0) with
      | some b => (d.bindCheck p b, b)
      | none => (0, 0)

/-- A check's result is reported in a check register whose instance field begins at bit lo (R418). -/
def Dev.report (d : Dev) (chk lo : Nat) (r : Nat × Nat) : Dev :=
  if r.1 = 0 then d.setReg chk 0 else d.refuse chk (chkWord r.1 lo r.2)

/-- SPp_CTL.EN is set (R108). -/
def Dev.spEnable (d : Dev) (p : Nat) : Dev :=
  if d.rb (Reg.spCtl p) 0 then d
  else
    let r := d.spCheck p
    let d1 := d.report (Reg.spChk p) 8 r
    if r.1 ≠ 0 then d1 else (d1.setRb (Reg.spCtl p) 0 true).setPipe p { d1.pipe p with spArm := true }

/-- SPp_CTL.EN is cleared: the block stops at the next latch point and keeps its shadow set (R108, R420). -/
def Dev.spDisable (d : Dev) (p : Nat) : Dev :=
  if !d.rb (Reg.spCtl p) 0 then d
  else (d.setRb (Reg.spCtl p) 0 false).setPipe p { d.pipe p with spArm := false, spGo := false, spOff := (d.pipe p).spOn }

/-- SPp_COMMIT.GO (R107, R421). -/
def Dev.spGo (d : Dev) (p : Nat) : Dev :=
  if d.rb (Reg.spCtl p) 0 then d.setPipe p { d.pipe p with spGo := true } else d

/-- The sprite block's shadowed registers. -/
def spKeys (p : Nat) : List Nat :=
  Reg.spCfg p :: (List.range 128).flatMap (fun b =>
    [Reg.spSlsrc p b, Reg.spSlgain p b, Reg.spSlxoff p b, Reg.spSlyoff p b, Reg.spSlxlim p b, Reg.spSlylim p b])

/-- The SP commit point, line-0 latch point (R107, R108, R420): a pending enable or commit is checked and applied; parts it
enables have not computed yet (R104). -/
def Dev.spCommitAt (d : Dev) (p : Nat) : Dev :=
  let q := d.pipe p
  if !q.spArm && !q.spGo then d
  else
    let r := d.spCheck p
    let d1 := (d.report (Reg.spChk p) 8 r).setPipe p { q with spArm := false, spGo := false }
    if r.1 ≠ 0 then (if q.spArm then d1.setRb (Reg.spCtl p) 0 false else d1)
    else
      let was (b a : Nat) : Bool := q.spOn && decide ((d.slPart p b a).1 ≠ 0)
      let d2 := d1.apply (spKeys p)
      let has := (List.range 256).foldl (fun t i => if was (i / 2) (i % 2) then t else Tab.put (fun _ => false) t i false) q.slHas
      d2.setPipe p { d2.pipe p with spOn := true, slHas := has }

end Sys2Proof.Machine
end

