-- ==== Sys2Proof/Machine/Tile.lean ====
section
/-! DEFINITION. Tile planes (R64 to R85): fetches by the compositor, map cells, pattern pixels and their colours, source
positions, parameter tables, the map-store pairs of the line processors, and the checks of the tile-plane block. -/

namespace Sys2Proof.Machine

/-! ### Fetches -/

/-- The access-table target of a memory that masters reach over the fabric: LPDDR5, map store, frame store (Table —
Protection targets). -/
def memTarget (id : Nat) : Nat := if id = 0 then 0 else if id = 1 then 1 else 2

/-- Master m may make an access of len bytes at off of memory id: it lies in the memory and the target's table grants
it (R11, R272, R410). -/
def Dev.mayTouch (d : Dev) (m id off len : Nat) (wr : Bool) : Bool :=
  decide (off + len ≤ d.memBytes id) && (decide (len = 0) || d.permits m (memTarget id) off len wr)

/-- Byte off of memory id lies in a code word that a write of bytes lo to hi - 1 covers only in part (R277). -/
def partWord (id lo hi off : Nat) : Bool :=
  let w := off / wordBytes id * wordBytes id
  decide (w < lo) || decide (hi < w + wordBytes id)

/-- Master m may write len bytes at off of memory id; where that is a read-modify-write it needs both bits (R410). -/
def Dev.mayWrite (d : Dev) (m id off len : Nat) : Bool :=
  d.mayTouch m id off len true &&
    (decide (len = 0) || ([off, off + len - 1].all (fun a => !partWord id off (off + len) a || d.permits m (memTarget id) a 1 false)))

/-- What a compositor fetch of len bytes gives: 0 where the table blocks it (R70), none where a word is uncorrectable. -/
def Dev.fetchVal (d : Dev) (id off len : Nat) : Option Nat :=
  if !d.mayTouch 8 id off len false then some 0
  else if d.badAt id off len then none
  else some (d.peekN id off len)

/-- A word fetched, known by its memory and its index in it. -/
abbrev FetchWord := Nat × Nat

/-- The word of memory id that holds byte off. -/
def fetchWord (id off : Nat) : FetchWord := (id, off / wordBytes id)

/-- A word fetched by master 8 is noted: a violation where it is blocked, else its correction or report (R276, R279,
R413), with the pipe's status bits for damaged patterns and palettes (R118). -/
def Dev.noteFetch (d : Dev) (p : Nat) (w : FetchWord) : Dev :=
  let id := w.1
  let off := w.2 * wordBytes id
  if (id = 0 ∨ id = 1) ∧ !d.mayTouch 8 id off (wordBytes id) false then d.violate 8 0 (memTarget id) false off
  else
    let d1 := d.noteRead id 8 (memBase id + off)
    if d.badAt id off (wordBytes id) then
      (if id = 0 then d1.setRb (Reg.cmpStat p) 1 true else if id = 1 then d1 else d1.setRb (Reg.cmpStat p) 2 true)
    else d1

/-! ### Colours -/

/-- Entry e of palette n of pipe p, with the word it read; an uncorrectable entry is 0 (R118, R121). -/
def Dev.palette (d : Dev) (p n e : Nat) : Nat × List FetchWord :=
  let off := 1024 * n + 4 * e
  (if d.badAt (4 + p) off 4 then 0 else d.peekN (4 + p) off 4, [fetchWord (4 + p) off])

/-- The alpha of an ARGB8888 colour replaced by 255. -/
def opaqueOf (c : Nat) : Nat := c % 16777216 + 0xFF000000

/-- An RGB565 value as an opaque colour (R71). -/
def rgb565 (v : Nat) : Nat :=
  let r := bitsOf v 15 11
  let g := bitsOf v 10 5
  let b := bitsOf v 4 0
  0xFF000000 + (r * 8 + r / 4) * 65536 + (g * 4 + g / 16) * 256 + (b * 8 + b / 4)

/-- A pattern value as a colour, with the palette words read (R71); `opq` is the cell's O bit or the entry's OPQ. A
transparent pixel is 0 (R116). -/
def Dev.colour (d : Dev) (p fmt sub pal : Nat) (opq : Bool) (v : Nat) : Nat × List FetchWord :=
  if fmt < 2 then
    if v = 0 ∧ !opq then (0, [])
    else
      let c := d.palette p pal (if fmt = 0 then 16 * sub + v else v)
      (if opq ∧ !d.badAt (4 + p) (1024 * pal + 4 * (if fmt = 0 then 16 * sub + v else v)) 4 then opaqueOf c.1 else c.1, c.2)
  else if fmt = 2 then (rgb565 v, [])
  else if opq then (opaqueOf v, [])
  else if v / 16777216 = 0 then (0, [])
  else (v, [])

/-- Pixel i of a row of pixels that starts at byte base: its value as packed (R69), none where damaged, with the word
it lies in. -/
def Dev.packed (d : Dev) (fmt base i : Nat) : Option Nat × FetchWord :=
  if fmt = 0 then
    ((d.fetchVal 0 (base + i / 2) 1).map (fun b => if i % 2 = 0 then b % 16 else b / 16), fetchWord 0 (base + i / 2))
  else
    let n := 2 ^ (fmt - 1)
    (d.fetchVal 0 (base + n * i) n, fetchWord 0 (base + n * i))

/-- One source sample of a layer: its ARGB8888 value, the words read for it, whether it met a tile out of range, and
whether its cell or entry is opaque (O, OPQ) or promoted (PRI). -/
structure Texel where
  argb : Nat
  reads : List FetchWord
  oor  : Bool
  opq  : Bool
  pri  : Bool
  deriving DecidableEq, Repr

/-- A transparent sample. -/
def Texel.clear : Texel := ⟨0, [], false, false, false⟩

/-- A sample from a pattern pixel; of a fetch that missed its line it is 0 and nothing is read (R117). -/
def Dev.texelAt (d : Dev) (p fmt sub pal : Nat) (opq late : Bool) (base i : Nat) : Texel :=
  if late then { Texel.clear with opq := opq }
  else
    let v := d.packed fmt base i
    match v.1 with
    | none => ⟨0, [v.2], false, opq, false⟩
    | some n => let c := d.colour p fmt sub pal opq n; ⟨c.1, v.2 :: c.2, false, opq, false⟩

/-! ### Planes -/

/-- The tile size T in pixels. -/
def Dev.tileSize (d : Dev) (p k : Nat) : Nat := if d.lb (Reg.tpCfg p k) 1 then 16 else 8

/-- Bytes of a tile of size t in a format (Table — Tile bytes). -/
def tileBytes (fmt t : Nat) : Nat := t * t * 2 ^ fmt / 2

/-- The sample of plane k of pipe p at map pixel (px, py) (R65, R67, R68, R70, R73, R84). -/
def Dev.planeTexel (d : Dev) (p k : Nat) (late : Bool) (px py : Nat) : Texel :=
  let cfg := d.inForce (Reg.tpCfg p k)
  let t := d.tileSize p k
  let fmt := fld cfg 3 2
  let mw := 32 * 2 ^ fld cfg 7 5
  let mh := 32 * 2 ^ fld cfg 10 8
  if !bit cfg 4 ∧ (mw * t ≤ px ∨ mh * t ≤ py) then Texel.clear
  else
    let x := px % (mw * t)
    let y := py % (mh * t)
    let off := 4 * (d.lf (Reg.tpMapbase p k) 10 0 * 1024 + y / t * mw + x / t)
    match d.fetchVal 1 off 4 with
    | none => { Texel.clear with reads := [fetchWord 1 off], oor := true }
    | some cell =>
      let pri := bitsOf cell 29 29 == 1
      if d.lf (Reg.tpNtiles p k) 20 0 ≤ bitsOf cell 19 0 then
        { Texel.clear with reads := [fetchWord 1 off], oor := true, pri := pri }
      else
        let tx := if bitsOf cell 26 26 = 1 then t - 1 - x % t else x % t
        let ty := if bitsOf cell 27 27 = 1 then t - 1 - y % t else y % t
        let base := d.lf (Reg.tpPatbase p k) 27 0 * 64 + bitsOf cell 19 0 * tileBytes fmt t
        let s := d.texelAt p fmt (fld cfg 14 11) (bitsOf cell 25 20) (bitsOf cell 28 28 == 1) late base (ty * t + tx)
        { s with reads := fetchWord 1 off :: s.reads, pri := pri }

/-- The values of a plane's timed fields used on a line: XSCROLL, YSCROLL, XSTEP and the window word. -/
abbrev LineVals := List Nat

/-- The register values of plane k (Table — Timed fields). -/
def Dev.planeRegs (d : Dev) (p k : Nat) : LineVals :=
  [d.rf (Reg.tpScroll p k) 23 0, d.rf (Reg.tpScrollv p k) 23 0, (d.reg (Reg.tpScalex p k)).toNat, (d.reg (Reg.tpWin p k)).toNat]

/-- The enables LSX, LSY, LSC, LWIN of a plane, in the order of the values. -/
def Dev.tabOn (d : Dev) (p k i : Nat) : Bool := d.lb (Reg.tpCfg p k) (16 + i)

/-- Some field of plane k comes from its line table (R75). -/
def Dev.lineTable (d : Dev) (p k : Nat) : Bool := (List.range 4).any (d.tabOn p k)

/-- Plane k uses its column table (R76). -/
def Dev.colTable (d : Dev) (p k : Nat) : Bool := d.lb (Reg.tpCfg p k) 20

/-- Plane k composites: the block's set is in force and its EN is 1. -/
def Dev.planeOn (d : Dev) (p k : Nat) : Bool := (d.pipe p).tpOn && d.lb (Reg.tpCfg p k) 0

/-- Words read for a parameter table: each word's value, free where it is uncorrectable (the spec states none, log
entry 11), and the device with the reads noted. -/
def Dev.tableWords (d : Dev) (p off n : Nat) : List Nat × Dev :=
  let d1 := (((List.range n).map (fun i => fetchWord 0 (off + 4 * i))).eraseDups).foldl (fun d w => d.noteFetch p w) d
  (List.range n).foldl (fun (acc : List Nat × Dev) i =>
    match d.fetchVal 0 (off + 4 * i) 4 with
    | some v => (acc.1 ++ [v], acc.2)
    | none => let (v, d2) := acc.2.free; (acc.1 ++ [v.toNat], d2)) ([], d1)

/-- LINE_TABLE_FETCH_DONE (R77): the entry or the column table for the pipe's next line has arrived. -/
def Dev.tableDone (d : Dev) (p k : Nat) (col : Bool) : Dev :=
  let q := d.pipe p
  if !d.planeOn p k || !d.memReady then d
  else if col then
    if !d.colTable p k || q.ctNext.any (fun e => e.1 = k) then d
    else
      let hact := match d.feedTiming p with | some t => t.hact | none => 0
      let (ws, d1) := d.tableWords p (d.lf (Reg.tpCstbase p k) 27 0 * 64) (ceilDiv hact (d.tileSize p k))
      d1.setPipe p { d1.pipe p with ctNext := Tab.put (fun _ => []) q.ctNext k (ws.map (· % 16777216)) }
  else
    if !d.lineTable p k || q.ltNext.any (fun e => e.1 = k) then d
    else
      let (ws, d1) := d.tableWords p (d.lf (Reg.tpPltbase p k) 27 0 * 64 + 16 * q.nextL) 4
      let vals := [ws.getD 0 0 % 16777216, ws.getD 1 0 % 16777216, ws.getD 2 0, ws.getD 3 0]
      d1.setPipe p { d1.pipe p with ltNext := Tab.put (fun _ => []) q.ltNext k vals }

/-- The values plane k uses on a line (R34, R77): the table's where a field is table-sourced, the register's elsewhere.
`fresh` tells a table first enabled for this frame's line 1. The second part tells that the table's values missed the
line. -/
def Dev.lineVals (d : Dev) (p k : Nat) (fresh : Bool) : LineVals × Bool :=
  let q := d.pipe p
  let regs := d.planeRegs p k
  let arrived := Tab.get (fun _ => []) q.ltNext k
  let old := Tab.get (fun _ => regs) q.lt k
  let src := if fresh then regs else if arrived.isEmpty then old else arrived
  ((List.range 4).map (fun i => if d.tabOn p k i then src.getD i 0 else regs.getD i 0),
   d.lineTable p k && !fresh && arrived.isEmpty)

/-- The column offsets plane k uses on a line, and whether they missed it (R76, R77). -/
def Dev.colVals (d : Dev) (p k : Nat) (fresh : Bool) : List Nat × Bool :=
  let q := d.pipe p
  let arrived := Tab.get (fun _ => []) q.ctNext k
  if !d.colTable p k || fresh then ([], false)
  else if arrived.isEmpty then (Tab.get (fun _ => []) q.ct k, true)
  else (arrived, false)

/-- Parameter-table values take effect at the latch point of a line (R34 step 2, R77). -/
def Dev.tablesLatch (d : Dev) (p line : Nat) : Dev :=
  let q := d.pipe p
  let on := (List.range 8).filter (fun k => d.planeOn p k)
  let fresh (i : Nat) : Bool := decide (line = 0) && Tab.get (fun _ => false) q.ltNew i
  let lt := on.foldl (fun t k => Tab.put (fun _ => []) t k (d.lineVals p k (fresh (2 * k))).1) []
  let ct := on.foldl (fun t k => Tab.put (fun _ => []) t k (d.colVals p k (fresh (2 * k + 1))).1) []
  let late := on.any (fun k => (d.lineVals p k (fresh (2 * k))).2 || (d.colVals p k (fresh (2 * k + 1))).2)
  let d1 := d.setPipe p { q with lt := lt, ct := ct, ltNext := [], ctNext := [], ltNew := [] }
  if late then d1.raiseFeed p 13 else d1

/-! ### Checks and commits -/

/-- One plane's checks over the shadow set, in table order (R85). -/
def Dev.planeCheck (d : Dev) (p k : Nat) (t : Timing) : Nat :=
  let cfg := d.reg (Reg.tpCfg p k)
  if !bit cfg 0 then 0
  else
    let ts := if bit cfg 1 then 16 else 8
    let units := 2 ^ fld cfg 7 5 * 2 ^ fld cfg 10 8
    let unit := d.rf (Reg.tpMapbase p k) 10 0
    let pb := d.rf (Reg.tpPatbase p k) 27 0 * 64
    let pn := d.rf (Reg.tpNtiles p k) 20 0 * tileBytes (fld cfg 3 2) ts
    let lb := d.rf (Reg.tpPltbase p k) 27 0 * 64
    let ln := if fld cfg 19 16 = 0 then 0 else 16 * t.vact
    let cb := d.rf (Reg.tpCstbase p k) 27 0 * 64
    let cn := if bit cfg 20 then 4 * ceilDiv t.hact ts else 0
    if 2048 < unit + units then 1
    else if pn ≠ 0 ∧ d.dataCap < pb + pn then 2
    else if (ln ≠ 0 ∧ d.dataCap < lb + ln) ∨ (cn ≠ 0 ∧ d.dataCap < cb + cn) then 3
    else if 1048576 < d.rf (Reg.tpNtiles p k) 20 0 then 0x40
    else if !d.mayTouch 8 1 (unit * 4096) (units * 4096) false || (decide (pn ≠ 0) && !d.mayTouch 8 0 pb pn false) ||
      (decide (ln ≠ 0) && !d.mayTouch 8 0 lb ln false) || (decide (cn ≠ 0) && !d.mayTouch 8 0 cb cn false) then 0x44
    else 0

/-- The checks of TPp_CTL.EN and TPp_COMMIT (R85): code and failing plane. -/
def Dev.tpCheck (d : Dev) (p : Nat) : Nat × Nat :=
  match d.feedTiming p with
  | none => (0x45, 0)
  | some t =>
    match (List.range 8).find? (fun k => d.planeCheck p k t ≠ 0) with
    | some k => (d.planeCheck p k t, k)
    | none => (0, 0)

/-- TPp_CTL.EN is set (R85). -/
def Dev.tpEnable (d : Dev) (p : Nat) : Dev :=
  if d.rb (Reg.tpCtl p) 0 then d
  else
    let r := d.tpCheck p
    let d1 := d.report (Reg.tpChk p) 8 r
    if r.1 ≠ 0 then d1 else (d1.setRb (Reg.tpCtl p) 0 true).setPipe p { d1.pipe p with tpArm := true }

/-- TPp_CTL.EN is cleared: the planes stop at the next latch point (R85). -/
def Dev.tpDisable (d : Dev) (p : Nat) : Dev :=
  if !d.rb (Reg.tpCtl p) 0 then d
  else (d.setRb (Reg.tpCtl p) 0 false).setPipe p { d.pipe p with tpArm := false, tpGo := false, tpOff := (d.pipe p).tpOn }

/-- TPp_COMMIT.GO (R82, R421). -/
def Dev.tpGo (d : Dev) (p : Nat) : Dev :=
  if d.rb (Reg.tpCtl p) 0 then d.setPipe p { d.pipe p with tpGo := true } else d

/-- The tile-plane block's shadowed registers. -/
def tpKeys (p : Nat) : List Nat :=
  (List.range 8).flatMap (fun k =>
    [Reg.tpCfg p k, Reg.tpMapbase p k, Reg.tpPatbase p k, Reg.tpNtiles p k, Reg.tpPltbase p k, Reg.tpCstbase p k])

/-- The TP commit point, the line-0 latch point (R82, R420). Tables it enables are first used on line 1 (R77). -/
def Dev.tpCommitAt (d : Dev) (p : Nat) : Dev :=
  let q := d.pipe p
  if !q.tpArm && !q.tpGo then d
  else
    let r := d.tpCheck p
    let d1 := (d.report (Reg.tpChk p) 8 r).setPipe p { q with tpArm := false, tpGo := false }
    if r.1 ≠ 0 then (if q.tpArm then d1.setRb (Reg.tpCtl p) 0 false else d1)
    else
      let d2 := d1.apply (tpKeys p)
      let new := (List.range 16).foldl (fun t i =>
        let k := i / 2
        let tab (e : Dev) : Bool := if i % 2 = 0 then e.lineTable p k else e.colTable p k
        Tab.put (fun _ => false) t i (tab d2 && !(d.planeOn p k && tab d))) []
      d2.setPipe p { d2.pipe p with tpOn := true, ltNew := new }

/-! ### The map-store pairs of the line processors -/

/-- CELL of pair m advances when INC = 1 (R83). -/
def Dev.mapStep (d : Dev) (m : Nat) : Dev :=
  if d.rb (Reg.tpMapaddr m) 31 then d.setRf (Reg.tpMapaddr m) 20 0 ((d.rf (Reg.tpMapaddr m) 20 0 + 1) % 2097152) else d

/-- A write of TP_MAPDATAm that the TP block accepts (R83). -/
def Dev.mapPairWrite (d : Dev) (m : Nat) (v : Word) : Dev :=
  let off := 4 * d.rf (Reg.tpMapaddr m) 20 0
  (if d.mayWrite (2 + m) 1 off 4 then d.writeBytes 1 (2 + m) off (toBytes 4 v.toNat)
   else d.violate (2 + m) 0 1 true off).mapStep m

/-- A read of TP_MAPDATAm that the TP block accepts: the cell's value, 0 where the map store's table refuses it (R83). -/
def Dev.mapPairRead (d : Dev) (m : Nat) : Word × Dev :=
  let off := 4 * d.rf (Reg.tpMapaddr m) 20 0
  if d.mayTouch (2 + m) 1 off 4 false then
    let (v, d1) := d.readWord 1 (2 + m) off
    (v, d1.mapStep m)
  else (0, (d.violate (2 + m) 0 1 false off).mapStep m)

end Sys2Proof.Machine
end

