-- ==== Sys2Proof/Machine/Ladder.lean ====
section
/-! DEFINITION. The start ladder (R426, R427): which engine starts when, and what a grant does to it. -/

namespace Sys2Proof.Machine

/-- The weight of a start in tenths of an ampere (Table — Ladder weights). -/
def ladderWeight (i : Nat) : Nat := [9, 2, 4, 3, 2, 12, 12, 6, 1, 1, 1, 1, 2, 4, 3, 1].getD i 0

/-- The ladder indices of the engines. -/
def ladMem : Nat := 0
def ladAs : Nat := 1
def ladPort (x : Nat) : Nat := 2 + x
def ladPipe (p : Nat) : Nat := 5 + p
def ladBlit : Nat := 7
def ladLp (n : Nat) : Nat := 8 + n
def ladAudio : Nat := 12
def ladMix : Nat := 13
def ladFlume : Nat := 14
def ladLink : Nat := 15

/-- The ladder granted the engine its start and the engine has not been disabled since. -/
def Dev.laddered (d : Dev) (i : Nat) : Bool := d.ladder.running.contains i

/-- A port's pixel PLL starts at the grant (R129). -/
def Dev.grantPort (d : Dev) (x : Nat) : Dev := d.setPort x { d.port x with locking := true }

/-- A pipe is enabled from its grant: DROP is cleared, and it begins at the next line-0 latch point (R36, R109). A pipe
that a stop of its port left enabled resumes and is not enabled anew (R431). -/
def Dev.grantPipe (d : Dev) (p : Nat) : Dev :=
  let q := d.pipe p
  if q.cmpDim then d
  else
    (if q.live then d else d.setRf (Reg.sysTwqStat p) 23 16 0).setPipe p { q with cmpArm := true, live := true }

/-- An LP whose RUN check passed leaves RESET at LPn_BOOT.ADDR, into HALT when HALT or the debug port holds it (R171,
R172). -/
def Dev.grantLp (d : Dev) (n : Nat) : Dev :=
  let l := d.lp n
  if l.starting then
    let held := d.rb (Reg.lpCtl n) 1 || l.dbgHalt
    let d1 := d.setLp n { l with mode := if held then .halt else .run, starting := false, pc := d.rf (Reg.lpBoot n) 12 0, cyc := 0 }
    if held then d1.setDet 5 else d1
  else d

/-- The Link's start: from off, the election begins (R377). -/
def Dev.grantLink (d : Dev) : Dev := if d.rf Reg.glStat 2 0 = 0 then d.setRf Reg.glStat 2 0 1 else d

/-- The grant of start i: its weight counts in this slot, and the engine starts. -/
def Dev.grant (d : Dev) (i : Nat) : Dev :=
  let l := d.ladder
  let d1 := { d with ladder := { l with used := l.used + ladderWeight i, running := l.running.filter (· ≠ i) ++ [i] } }
  if 2 ≤ i ∧ i < 5 then d1.grantPort (i - 2)
  else if i = 5 ∨ i = 6 then d1.grantPipe (i - 5)
  else if 8 ≤ i ∧ i < 12 then d1.grantLp (i - 8)
  else if i = 15 then d1.grantLink
  else d1

/-- The pending list with start i in its place in rising order. -/
def insertStart (i : Nat) (l : List Nat) : List Nat := l.filter (· < i) ++ [i] ++ l.filter (fun j => decide (i < j))

/-- Start i becomes pending: event 6 and the log once in a slot (R427). -/
def Dev.defer (d : Dev) (i : Nat) : Dev :=
  let l := d.ladder
  let d1 := { d with ladder := { l with pending := insertStart i l.pending, told := true } }
  if l.told then d1
  else
    ((d1.setRf Reg.pwrLadlog 3 0 i).setRf Reg.pwrLadlog 31 16 (satInc (d1.rf Reg.pwrLadlog 31 16) 65535)).raise 6

/-- An enable whose check passed asks for its start: granted in the same cycle, or pending (R426). -/
def Dev.ask (d : Dev) (i : Nat) : Dev :=
  if d.ladder.pending.isEmpty && decide (d.ladder.used + ladderWeight i ≤ 15) then d.grant i else d.defer i

/-- An engine is disabled: it leaves the pending list or stops running (R426). -/
def Dev.unask (d : Dev) (i : Nat) : Dev :=
  { d with ladder := { d.ladder with pending := d.ladder.pending.filter (· ≠ i), running := d.ladder.running.filter (· ≠ i) } }

/-- Pending starts are granted in order while they fit the slot (R426). -/
def grantFitting : List Nat → Dev → Dev
  | [], d => d
  | i :: rest, d =>
    if d.ladder.used + ladderWeight i ≤ 15 then
      grantFitting rest ({ d with ladder := { d.ladder with pending := d.ladder.pending.filter (· ≠ i) } }.grant i)
    else d

/-- A slot of 100 TCLK starts (R426). -/
def Dev.ladderSlot (d : Dev) : Dev :=
  let d1 := { d with ladder := { d.ladder with used := 0, told := false } }
  grantFitting d1.ladder.pending d1

/-- A wake puts engine i on the pending list if it was running (R427). -/
def Dev.restart (d : Dev) (i : Nat) : Dev :=
  if d.laddered i then (d.unask i).defer i else d

end Sys2Proof.Machine
end

