-- ==== Sys2Proof/Machine/Compositor.lean ====
section
/-! DEFINITION. The compositor pipes (R109 to R124): sampling, blending, the passes of a line, late and damaged data,
culling, and the checks and commits of the CMP block. -/

namespace Sys2Proof.Machine

/-! ### Arithmetic -/

/-- The rounded product of two 8-bit fractions (mul8). -/
def mul8 (x y : Nat) : Nat := (x * y + 128 + (x * y + 128) / 256) / 256

/-- One channel of a blend (Table — Blend modes): s over d with effective alpha a. -/
def blendChan (mode s a d : Nat) : Nat :=
  if mode = 0 then
    let t := a * s + (255 - a) * d
    (t + 128 + (t + 128) / 256) / 256
  else if mode = 1 then min 255 (d + mul8 s a)
  else if mode = 2 then d - mul8 s a
  else if mode = 3 then (s + d + 1) / 2
  else mul8 s d

/-- An ARGB sample blended over a 24-bit colour (R119). -/
def blendPix (mode alpha argb under : Nat) : Nat :=
  let a := mul8 (argb / 16777216 % 256) alpha
  let ch (k : Nat) : Nat := blendChan mode (argb / 2 ^ k % 256) a (under / 2 ^ k % 256)
  if a = 0 then under else ch 16 * 65536 + ch 8 * 256 + ch 0

/-- One channel of the bilinear sum of R116. -/
def bilinChan (fx fy s00 s10 s01 s11 : Nat) : Nat :=
  (s00 * (256 - fx) * (256 - fy) + s10 * fx * (256 - fy) + s01 * (256 - fx) * fy + s11 * fx * fy + 32768) / 65536

/-- The bilinear sample of four texels (R116): a sample of weight 0 is not fetched. Its cell is that of S00, and it
counts as opaque for culling only when fx = fy = 0 (R114). -/
def bilinear (fx fy : Nat) (s00 s10 s01 s11 : Texel) : Texel :=
  let ch (k : Nat) : Nat :=
    bilinChan fx fy (s00.argb / 2 ^ k % 256) (s10.argb / 2 ^ k % 256) (s01.argb / 2 ^ k % 256) (s11.argb / 2 ^ k % 256)
  let use : List Texel := s00 :: ((if fx ≠ 0 then [s10] else []) ++ (if fy ≠ 0 then [s01] else []) ++
    (if fx ≠ 0 ∧ fy ≠ 0 then [s11] else []))
  ⟨ch 24 * 16777216 + ch 16 * 65536 + ch 8 * 256 + ch 0, use.flatMap Texel.reads, use.any Texel.oor,
   s00.opq && decide (fx = 0) && decide (fy = 0), s00.pri⟩

/-! ### What each layer draws on a line -/

/-- A layer's drawn dots x0 to x1 − 1 on a line, with its blend and the sample of each dot; the sample's first argument
tells that the dot's fetch missed the line (R117). -/
structure Drawn where
  slot  : Nat
  mode  : Nat
  alpha : Nat
  x0    : Nat
  x1    : Nat
  texel : Bool → Nat → Texel

/-- A horizontal step after R61 KIND 2 and R74: the step, whether KIND 2 clamped it, whether R74 alone did. -/
def heldStepX (dsmax step : Nat) : Nat × Bool × Bool :=
  if 256 * dsmax < step then (256 * dsmax, true, false) else if step < 0x400 then (0x400, false, true) else (step, false, false)

/-- A vertical step after R61 KIND 3 and R74, likewise. -/
def heldStepY (vs : Bool) (step : Nat) : Nat × Bool × Bool :=
  if !vs then (0x10000, decide (step ≠ 0x10000), false)
  else if step < 0x400 then (0x400, false, true)
  else if 0x40000 < step then (0x40000, false, true)
  else (step, false, false)

/-- A plane's or bitmap's registers say it is drawn: slot 0 to 7 a plane, 8 and 9 a bitmap. -/
def Dev.slotOn (d : Dev) (p s : Nat) : Bool := if s < 8 then d.planeOn p s else d.lb (Reg.cmpBmCfg p (s - 8)) 0

/-- A slot's pattern format. -/
def Dev.slotFmt (d : Dev) (p s : Nat) : Nat := if s < 8 then d.lf (Reg.tpCfg p s) 3 2 else d.lf (Reg.cmpBmCfg p (s - 8)) 3 2

/-- A slot's scroll, step and window values used on the line (R75, R115). -/
def Dev.slotVals (d : Dev) (p s : Nat) : LineVals :=
  if s < 8 then Tab.get (fun _ => d.planeRegs p s) (d.pipe p).lt s
  else
    let j := s - 8
    [d.rf (Reg.cmpBmScroll p j) 23 0, d.rf (Reg.cmpBmScrollv p j) 23 0, (d.reg (Reg.cmpBmScalex p j)).toNat,
     (d.reg (Reg.cmpBmWin p j)).toNat]

/-- A slot's vertical step register. -/
def Dev.slotStepY (d : Dev) (p s : Nat) : Nat :=
  (d.reg (if s < 8 then Reg.tpScaley p s else Reg.cmpBmScaley p (s - 8))).toNat

/-- The sample of bitmap j at pixel (px, py) (R115). -/
def Dev.bitmapTexel (d : Dev) (p j : Nat) (late : Bool) (px py : Nat) : Texel :=
  let cfg := d.inForce (Reg.cmpBmCfg p j)
  let w := d.lf (Reg.cmpBmSize p j) 13 0
  let h := d.lf (Reg.cmpBmSize p j) 29 16
  if !bit cfg 4 ∧ (w ≤ px ∨ h ≤ py) then Texel.clear
  else
    d.texelAt p (fld cfg 3 2) 0 (fld cfg 13 8) false late
      (d.lf (Reg.cmpBmBase p j) 27 0 * 64 + py % h * d.lf (Reg.cmpBmPitch p j) 15 0) (px % w)

/-- The sample of a slot at a source pixel. -/
def Dev.slotTexel (d : Dev) (p s : Nat) (late : Bool) (px py : Nat) : Texel :=
  if s < 8 then d.planeTexel p s late px py else d.bitmapTexel p (s - 8) late px py

/-- The sample of slot s at dot x of line y, from its values and steps (R72, R116). -/
def Dev.slotDot (d : Dev) (p s y : Nat) (vs : Bool) (vals : LineVals) (stx sty : Nat) (late : Bool) (x : Nat) : Texel :=
  let lsy := decide (s < 8) && d.tabOn p s 1
  let off := if s < 8 ∧ d.colTable p s then (Tab.get (fun _ => []) (d.pipe p).ct s).getD (x / d.tileSize p s) 0 else 0
  let u := (vals.getD 0 0 * 256 + x * stx) % 2 ^ 32
  let v := (vals.getD 1 0 * 256 + (if lsy then 0 else y * sty) + off * 256) % 2 ^ 32
  let px := u / 65536
  let py := v / 65536
  let fx := u / 256 % 256
  let fy := if vs then v / 256 % 256 else 0
  bilinear fx fy (d.slotTexel p s late px py) (d.slotTexel p s late (px + 1) py) (d.slotTexel p s late px (py + 1))
    (d.slotTexel p s late (px + 1) (py + 1))

/-- What slot s draws on line y (R48, R61, R74, R78): its drawn dots if any, the clamps met as (slot, KIND), and whether
R74 held a step that R61 does not cover. -/
def Dev.slotLine (d : Dev) (p : Nat) (env : Env) (s y hact : Nat) : Option Drawn × List (Nat × Nat) × Bool :=
  if !d.slotOn p s then (none, [], false)
  else if !envEn env s then (none, [(s, 0)], false)
  else if !envOnLine env s y then (none, [], false)
  else if d.slotFmt p s ≠ envFmt env s then (none, [(s, 4)], false)
  else
    let vals := d.slotVals p s
    let x0 := vals.getD 3 0 % 65536
    let x1 := min (vals.getD 3 0 / 65536) hact
    if x1 ≤ x0 then (none, [], false)
    else
      let wide := decide (envW env s < x1 - x0)
      let sx := heldStepX (envDs env s) (vals.getD 2 0)
      let lsy := decide (s < 8) && d.tabOn p s 1
      let sy := if lsy then (0, false, false) else heldStepY (envVs env s) (d.slotStepY p s)
      let lay := d.reg (Reg.cmpLay p s)
      (some { slot := s, mode := fld lay 2 0, alpha := fld lay 15 8, x0 := x0,
              x1 := if wide then x0 + envW env s else x1, texel := d.slotDot p s y (envVs env s) vals sx.1 sy.1 },
       (if wide then [(s, 1)] else []) ++ (if sx.2.1 then [(s, 2)] else []) ++ (if sy.2.1 then [(s, 3)] else []),
       sx.2.2 || sy.2.2)

/-- The sample of a sprite's source pixel at unflipped column c and row r (R93, R99). -/
def Dev.spriteTexel (d : Dev) (p : Nat) (ws : List Nat) (late : Bool) (c r : Nat) : Texel :=
  let sw := entF ws 0 28 20
  let sh := entF ws 1 28 20
  let fmt := entF ws 2 29 28
  let px := if entF ws 4 10 10 = 1 then sw - 1 - c else c
  let py := if entF ws 4 11 11 = 1 then sh - 1 - r else r
  let rb := 8 * ceilDiv (sw * (4 * 2 ^ fmt)) 64
  d.texelAt p fmt (entF ws 4 9 6) (entF ws 4 5 0) (entF ws 4 12 12 == 1) late (entF ws 2 27 0 * 64 + py * rb) px

/-- What a sprite span draws (R93, R116): neighbours stay inside the sprite. -/
def Dev.spriteDrawn (d : Dev) (p : Nat) (sp : Span) : Drawn :=
  let sw := entF sp.words 0 28 20
  let sh := entF sp.words 1 28 20
  let py := sp.v / 65536
  let fy := sp.v / 256 % 256
  { slot := 10 + sp.group, mode := entF sp.words 4 15 13, alpha := entF sp.words 4 23 16, x0 := sp.first,
    x1 := sp.first + sp.width,
    texel := fun late x =>
      let u := ((16 * x : Nat) - sp.xpos).toNat * sp.xstep
      let px := u / 65536
      let t (c r : Nat) : Texel := d.spriteTexel p sp.words late (min c (sw - 1)) (min r (sh - 1))
      bilinear (u / 256 % 256) fy (t px py) (t (px + 1) py) (t px (py + 1)) (t (px + 1) (py + 1)) }

/-! ### Passes -/

/-- A pass's samples: none at a dot that is not sampled. -/
structure Pass where
  mode  : Nat
  alpha : Nat
  dot   : Nat → Option Texel

/-- A line under way: the colour of each dot, the planes whose promoted pixels are held, the device with what the
fetches brought about, the clamps, the fetches that missed, and the omitted span fetches. -/
structure Line where
  pix    : Nat → Nat
  held   : List Pass
  dev    : Dev
  clamps : List (Nat × Nat)
  late   : List LateFetch
  cull   : Nat

/-- The dots that a held promoted pixel covers wholly (R114). -/
def heldOpaque (held : List Pass) (x : Nat) : Bool :=
  held.any (fun h => match h.dot x with
    | some t => t.pri && t.opq && decide (h.mode = 0) && decide (mul8 (t.argb / 16777216) h.alpha = 255)
    | none => false)

/-- A dot of slot s lies in a rectangle declared above it (R49); sprites are composited there as usual. -/
def inRect (env : Env) (s y x : Nat) : Bool :=
  decide (s < 10) && (slotsAbove s).any (fun t => envRectOn env t y && decide ((envRect env t).1 ≤ x) && decide (x ≤ (envRect env t).2))

/-- The dots of drawn span j of a layer. -/
def spanDots (w : Drawn) (j : Nat) : List Nat := (rangeFrom w.x0 (w.x1 - w.x0)).filter (fun x => x / 8 = j)

/-- The 8-dot output spans a layer draws in. -/
def spansOf (w : Drawn) : List Nat := if w.x1 ≤ w.x0 then [] else rangeFrom (w.x0 / 8) ((w.x1 - 1) / 8 + 1 - w.x0 / 8)

/-- The layer's sample at dot x is hidden by promoted pixels held above it (R114): the planes 0 to 5 by those of the
planes before them, where their own pixel is not promoted itself, and groups 0 and 1. -/
def hiddenAt (held : List Pass) (w : Drawn) (x : Nat) : Bool :=
  if w.slot < 6 then heldOpaque held x && !(w.texel false x).pri
  else if w.slot = 10 ∨ w.slot = 11 then heldOpaque held x
  else false

/-- One layer's pass (R110, R112, R114, R117): its samples, and the line with their effects. -/
def runPass (p : Nat) (env : Env) (y : Nat) (lateOf : Nat → Nat → Bool) (l : Line) (w : Drawn) : Pass × Line :=
  let rect (x : Nat) : Bool := inRect env w.slot y x
  let culled := (spansOf w).filter (fun j => (spanDots w j).all (fun x => rect x || hiddenAt l.held w x))
  let live (x : Nat) : Bool := decide (w.x0 ≤ x) && decide (x < w.x1) && !rect x && !culled.contains (x / 8)
  let dots := (rangeFrom w.x0 (w.x1 - w.x0)).filter live
  let missed := ((spansOf w).filter (fun j => lateOf w.slot j && (dots.any (fun x =>
    decide (x / 8 = j) && (w.texel false x).reads.any (fun r => r.1 = 0)))))
  let dot (x : Nat) : Option Texel := if live x then some (w.texel (missed.contains (x / 8)) x) else none
  let ts := dots.filterMap dot
  let d1 := ((ts.flatMap Texel.reads).eraseDups).foldl (fun d r => d.noteFetch p r) l.dev
  let d2 := if decide (w.slot < 8) && ts.any Texel.oor then d1.setRb (Reg.tpStat p) w.slot true else d1
  (⟨w.mode, w.alpha, dot⟩,
   { l with dev := d2, late := l.late ++ missed.map (fun j => ⟨w.slot, j⟩), cull := l.cull + culled.length })

/-- A pass's pixels that `sel` picks are blended into the line. -/
def drawPass (sel : Texel → Bool) (a : Pass) (pix : Nat → Nat) : Nat → Nat := fun x =>
  match a.dot x with
  | some t => if sel t then blendPix a.mode a.alpha t.argb (pix x) else pix x
  | none => pix x

/-- A plane's or bitmap's pass (Table — Layer passes). -/
def slotPass (p : Nat) (env : Env) (y hact : Nat) (lateOf : Nat → Nat → Bool) (l : Line) (s : Nat) : Line :=
  let (dr, cl, st) := l.dev.slotLine p env s y hact
  let stBit (d : Dev) : Dev := if s < 8 then d.setRb (Reg.tpStat p) (8 + s) true else d.setRb (Reg.cmpStat p) 3 true
  let l1 := { l with dev := if st then stBit l.dev else l.dev, clamps := l.clamps ++ cl }
  match dr with
  | none => l1
  | some w =>
    let (a, l2) := runPass p env y lateOf l1 w
    if s < 6 then { l2 with pix := drawPass (fun t => !t.pri) a l2.pix, held := l2.held ++ [a] }
    else { l2 with pix := drawPass (fun _ => true) a l2.pix }

/-- A sprite group's pass: its spans in reverse walk order (R113). -/
def groupPass (p : Nat) (env : Env) (y : Nat) (spans : List (Span × Bool)) (lateOf : Nat → Nat → Bool) (l : Line) (g : Nat) : Line :=
  let (kept, cl) := groupSpans spans env (l.dev.lb (Reg.spCfg p) g) g y
  kept.reverse.foldl (fun (l : Line) sp =>
    let (a, l2) := runPass p env y lateOf l (l.dev.spriteDrawn p sp)
    { l2 with pix := drawPass (fun _ => true) a l2.pix }) { l with clamps := l.clamps ++ cl }

/-- The promoted pixels held are blended, plane 0 first (pass 10). -/
def heldPass (l : Line) : Line := { l with pix := l.held.foldl (fun pix a => drawPass (fun t => t.pri) a pix) l.pix }

/-- Line y of pipe p is composited (R110 to R118): its pixels, and the pipe's state after it. `late` names the fetches
that miss the line; while LPDDR5 is not ready every one does (R273). -/
def Dev.composite (d : Dev) (p y hact : Nat) (late : List LateFetch) : List Nat × Dev :=
  let env := (d.gate p).env
  let lateOf (s j : Nat) : Bool := !d.memReady || late.contains ⟨s, j⟩
  let (spans, d0) := if (d.pipe p).spOn then d.lineTest p env y hact else ([], d)
  let l0 : Line := { pix := fun _ => d.rf (Reg.cmpBgcol p) 23 0, held := [], dev := d0, clamps := [], late := [], cull := 0 }
  let sl (l : Line) (s : Nat) : Line := slotPass p env y hact lateOf l s
  let gp (l : Line) (g : Nat) : Line := if (d.pipe p).spOn then groupPass p env y spans lateOf l g else l
  let l1 := gp ([8, 0, 1, 2, 3].foldl sl l0) 0
  let l2 := heldPass (gp ([4, 5].foldl sl l1) 1)
  let l3 := sl (gp (gp ([6, 7].foldl sl l2) 2) 3) 9
  let d1 := l3.dev
  let d2 := d1.setPipe p { d1.pipe p with cull := (d1.pipe p).cull + l3.cull, lateOut := (d1.pipe p).lateOut ++ l3.late }
  let d3 := if l3.late.isEmpty then d2 else (d2.setRb (Reg.cmpStat p) 0 true).raiseFeed p 13
  ((List.range hact).map l3.pix, d3.clampLine p y l3.clamps)

/-! ### Registers -/

/-- A CMPp_LAYk write, direct or timed: a reserved BLEND drops it (R124). -/
def Dev.layWrite (d : Dev) (p k : Nat) (v : Word) : Dev :=
  if 5 ≤ fld v 2 0 then d.refuse (Reg.cmpChk p) 0x40 else d.setReg (Reg.cmpLay p k) (v &&& 0xFF07)

/-- A read of a step or window register gives the written value held to the envelope in force (R61). Slot s; kind 1
is the window, 2 the horizontal and 3 the vertical step. -/
def Dev.heldRead (d : Dev) (p s kind : Nat) (v : Word) : Word :=
  let env := (d.gate p).env
  if !envEn env s then v
  else if kind = 2 then (if 256 * envDs env s < v.toNat then BitVec.ofNat 32 (256 * envDs env s) else v)
  else if kind = 3 then
    (if envVs env s || (decide (s < 8) && d.tabOn p s 1) then v else 0x10000)
  else
    match d.feedTiming p with
    | some t =>
      let x0 := fld v 15 0
      let x1 := min (fld v 31 16) t.hact
      if x0 < x1 ∧ envW env s < x1 - x0 then BitVec.ofNat 32 (x0 + (x0 + envW env s) * 65536) else v
    | none => v

/-- One bitmap's checks over the shadow set, in table order (R124). -/
def Dev.bitmapCheck (d : Dev) (p j : Nat) : Nat :=
  let cfg := d.reg (Reg.cmpBmCfg p j)
  if !bit cfg 0 then 0
  else
    let w := d.rf (Reg.cmpBmSize p j) 13 0
    let h := d.rf (Reg.cmpBmSize p j) 29 16
    let pitch := d.rf (Reg.cmpBmPitch p j) 15 0
    let base := d.rf (Reg.cmpBmBase p j) 27 0 * 64
    if h * pitch ≠ 0 ∧ d.dataCap < base + h * pitch then 1
    else if pitch % 16 ≠ 0 ∨ pitch < ceilDiv (w * 2 ^ fld cfg 3 2) 2 then 2
    else if fld cfg 3 2 = 0 then 3
    else if w = 0 ∨ 8192 < w ∨ h = 0 ∨ 8192 < h then 0x40
    else if !d.mayTouch 8 0 base (h * pitch) false then 0x44
    else 0

/-- The checks of CMPp_CTL.EN and CMPp_COMMIT (R124): code and failing bitmap. -/
def Dev.cmpCheck (d : Dev) (p : Nat) : Nat × Nat :=
  if !d.hgEn p then (4, 0)
  else if (d.feed p).isNone then (0x45, 0)
  else
    match (List.range 2).find? (fun j => d.bitmapCheck p j ≠ 0) with
    | some j => (d.bitmapCheck p j, j)
    | none => (0, 0)

/-- CMPp_CTL.EN is set (R124): on a pass the pipe asks the ladder for its start. -/
def Dev.cmpEnable (d : Dev) (p : Nat) : Dev :=
  if d.rb (Reg.cmpCtl p) 0 then d
  else
    let r := d.cmpCheck p
    let d1 := d.report (Reg.cmpChk p) 8 r
    if r.1 ≠ 0 then d1 else (d1.setRb (Reg.cmpCtl p) 0 true).ask (ladPipe p)

/-- A pipe stops being enabled: its queue is discarded, its pending commit cancelled (R36, R421). -/
def Dev.cmpStop (d : Dev) (p : Nat) : Dev :=
  let d1 := ((d.setRb (Reg.cmpCtl p) 0 false).unask (ladPipe p)).twqDiscard p false
  d1.setPipe p { d1.pipe p with cmpArm := false, cmpGo := false, cmpDim := false, live := false }

/-- CMPp_CTL.EN is cleared: the pipe composites to its next latch point (R109). -/
def Dev.cmpDisable (d : Dev) (p : Nat) : Dev :=
  if !d.rb (Reg.cmpCtl p) 0 then d
  else
    let d1 := d.cmpStop p
    d1.setPipe p { d1.pipe p with cmpOff := (d1.pipe p).cmpOn }

/-- CMPp_COMMIT.GO (R123, R421). -/
def Dev.cmpGo (d : Dev) (p : Nat) : Dev :=
  if d.rb (Reg.cmpCtl p) 0 then d.setPipe p { d.pipe p with cmpGo := true } else d

/-- The CMP block's shadowed registers. -/
def cmpKeys (p : Nat) : List Nat :=
  (List.range 2).flatMap (fun j => [Reg.cmpBmCfg p j, Reg.cmpBmBase p j, Reg.cmpBmPitch p j, Reg.cmpBmSize p j])

/-- The CMP commit point, the line-0 latch point (R109, R123, R420, R431). -/
def Dev.cmpCommitAt (d : Dev) (p : Nat) : Dev :=
  let q := d.pipe p
  let d1 := if q.cmpDim && d.laddered (ladPipe p) then d.setPipe p { q with cmpDim := false, cmpOn := true } else d
  if !q.cmpArm && !q.cmpGo then d1
  else
    let r := d1.cmpCheck p
    let d2 := (d1.report (Reg.cmpChk p) 8 r).setPipe p { d1.pipe p with cmpArm := false, cmpGo := false }
    if r.1 ≠ 0 then (if q.cmpArm then d2.cmpStop p else d2)
    else
      let d3 := d2.apply (cmpKeys p)
      if q.cmpArm then d3.setPipe p { d3.pipe p with cmpOn := true } else d3

end Sys2Proof.Machine
end

