-- ==== Sys2Proof/Machine/Scanout.lean ====
section
/-! DEFINITION. The frame store, scan-out and the display ports (R125 to R150): regions and pixel formats, row writes, the
checks and commits of a port, scan-out lines with underrun and CRC, link training and the AUX and DDC transactions. -/

namespace Sys2Proof.Machine

/-! ### Regions and pixels -/

/-- Bytes of a pixel of a frame-store format (Table — Frame-store pixel formats). -/
def fsBytes (fmt : Nat) : Nat := if fmt = 0 then 2 else if fmt = 1 then 3 else 4

/-- A 24-bit colour in a frame-store format, little-endian (R126). -/
def fsPack (fmt c : Nat) : List Byte :=
  if fmt = 0 then toBytes 2 (bitsOf c 23 19 * 2048 + bitsOf c 15 10 * 32 + bitsOf c 7 3)
  else toBytes (fsBytes fmt) (c % 16777216)

/-- The 24-bit colour that a packed pixel reads back as (R126). -/
def fsUnpack (fmt v : Nat) : Nat := if fmt = 0 then rgb565 v % 16777216 else v % 16777216

/-- The frame-store byte of row r of the region of a port whose registers `word` gives (R125). -/
def rowBase (word : Nat → Word) (x r : Nat) : Nat :=
  4096 * fld (word (Reg.soFsbase x)) 13 0 + r * fld (word (Reg.soHtim x)) 15 0 * fsBytes (fld (word (Reg.soCfg x)) 3 2)

/-- The row of line l of frame f: an interlaced field takes every second row (R132). -/
def rowOf (t : Timing) (f l : Nat) : Nat := if t.ilace then 2 * l + f % 2 else l

/-- ROW_WRITE (R127): the line buffer is written whole into its row of the region of the port that pipe p feeds, or, where
the frame store's table blocks it, the row is left as it was. -/
def Dev.rowWrite (d : Dev) (p : Nat) : Dev :=
  match (d.pipe p).buf, d.feed p with
  | some b, some x =>
    let y := d.primary x
    let t := timingOf d.inForce y
    let off := rowBase d.inForce y (rowOf t b.frame b.line)
    let bytes := b.px.flatMap (fsPack (d.lf (Reg.soCfg y) 3 2))
    let d1 := d.setPipe p { d.pipe p with buf := none }
    if d.mayWrite 8 6 off bytes.length then
      let d2 := d1.writeBytes 6 8 off bytes
      d2.setPipe p { d2.pipe p with begun := (d2.pipe p).begun.filter (· ≠ (b.frame, b.line)) }
    else d1.violate 8 0 2 true off
  | _, _ => d

/-! ### Checks -/

/-- The words of a port set under judgement: the shadow of the ports that `new` names, the set in force of the others. -/
def Dev.judged (d : Dev) (new : Nat → Bool) (a : Nat) : Word :=
  if new ((a - 0x800000) / 0x1000) then d.reg a else d.inForce a

/-- Lowest and highest pixel clock of a port in kHz (Table — Timing limits). -/
def clockRange (x : Nat) : Nat × Nat := if x = 0 then (25000, 600000) else if x = 1 then (25000, 300000) else (6000, 200000)

/-- The kbit/s of a DisplayPort link (R142). -/
def dpCapacity (w : Word) : Nat := 2 ^ fld w 1 0 * [1620000, 2700000, 5400000, 8100000].getD (fld w 3 2) 0 * 8 / 10

/-- The sample rate in Hz (AU_CLK). -/
def Dev.sampleHz (d : Dev) : Nat := [44100, 48000, 88200, 96000].getD (d.lf Reg.auClk 2 1) 0

/-- The first byte and the length of a port's region (R125, R132). -/
def regionOf (word : Nat → Word) (x : Nat) : Nat × Nat :=
  let t := timingOf word x
  (rowBase word x 0, t.hact * t.vact * (if t.ilace then 2 else 1) * fsBytes (fld (word (Reg.soCfg x)) 3 2))

/-- The fields of a timing that a mirrored pair must share (R139). -/
def mirrorKey (word : Nat → Word) (x : Nat) : List Nat :=
  [(word (Reg.soHtim x)).toNat, (word (Reg.soHsync x)).toNat, (word (Reg.soVtim x)).toNat, (word (Reg.soVsync x)).toNat,
   fld (word (Reg.soDotclk x)) 19 0, fld (word (Reg.soCfg x)) 5 5]

/-- A field of a port is outside its range or a reserved encoding (R126, R128, R149). -/
def portRange (word : Nat → Word) (x : Nat) : Bool :=
  let c := word (Reg.soCfg x)
  let h := word (Reg.soHtim x)
  let v := word (Reg.soVtim x)
  let hs := word (Reg.soHsync x)
  fld c 1 0 = 3 || fld c 3 2 = 3 || fld c 7 6 = 3 || (decide (x < 2) && decide (fld (word (Reg.soDp x)) 1 0 = 3)) ||
    10239 < fld (word (Reg.soFsbase x)) 13 0 || fld h 15 0 < 16 || 8192 < fld h 15 0 || fld h 31 16 < 32 || 16384 < fld h 31 16 ||
    16384 < fld hs 15 0 || 16384 < fld hs 31 16 || fld v 15 0 < 16 || 8192 < fld v 15 0 || fld v 31 16 < 18

/-- The fields of a port disagree (Table — Timing limits). -/
def portDisagree (word : Nat → Word) (x : Nat) : Bool :=
  let h := word (Reg.soHtim x)
  let v := word (Reg.soVtim x)
  let hs := word (Reg.soHsync x)
  let vs := word (Reg.soVsync x)
  fld h 31 16 < fld h 15 0 + 16 || fld hs 15 0 < fld h 15 0 || fld hs 31 16 ≤ fld hs 15 0 || fld h 31 16 < fld hs 31 16 ||
    fld v 31 16 < fld v 15 0 + 2 || fld vs 15 0 < fld v 15 0 || fld vs 31 16 ≤ fld vs 15 0 || fld v 31 16 < fld vs 31 16

/-- Embedded audio does not fit the horizontal blanking (R147). -/
def audioTight (word : Nat → Word) (x hz : Nat) : Bool :=
  let t := timingOf word x
  let q := if 3 ≤ fld (word (Reg.soAud x)) 3 1 + 1 then 1 else 4
  let k := ceilDiv (hz * t.htot) (q * t.khz * 1000) + 1
  bit (word (Reg.soAud x)) 0 && decide (t.htot - t.hact < 64 + 32 * k)

/-- The malformed rectangle of a port, the first that is enabled (R138). -/
def badRect (word : Nat → Word) (x : Nat) : Option Nat :=
  let t := timingOf word x
  (List.range 16).find? (fun r =>
    let cx := word (Reg.soCrcx x r)
    let cy := word (Reg.soCrcy x r)
    bit (word (Reg.soCrcen x)) r && (decide (fld cx 31 16 < fld cx 15 0) || decide (fld cy 31 16 < fld cy 15 0) ||
      decide (t.hact ≤ fld cx 31 16) || decide (t.vact ≤ fld cy 31 16)))

/-- The checks of port x over its shadow set, beside the ports that `new` names, at enable or at a commit, in the order
of Table — SO reason codes with the rectangles last (R418): the code and the rectangle. -/
def Dev.soJudge (d : Dev) (x : Nat) (new : Nat → Bool) (commit : Bool) : Nat × Nat :=
  let word := d.judged (fun y => decide (y = x) || new y)
  let pipe (y : Nat) : Nat := fld (word (Reg.soCfg y)) 1 0
  let p := pipe x
  let on (y : Nat) : Bool := decide (y = x) || d.soEn y
  let mates := (List.range 3).filter (fun y => decide (y ≠ x) && on y && decide (p < 2) && decide (pipe y = p))
  let prim (y : Nat) : Bool := !(decide (pipe y < 2) && (List.range y).any (fun z => on z && decide (pipe z = pipe y)))
  let t := timingOf word x
  let r := regionOf word x
  let hits (y : Nat) : Bool :=
    let s := regionOf word y
    decide (y ≠ x) && on y && prim y && decide (s.1 < r.1 + r.2) && decide (r.1 < s.1 + s.2)
  let old := timingOf d.inForce x
  let moved := commit && ((prim x && (decide (d.rf (Reg.soFsbase x) 13 0 ≠ d.lf (Reg.soFsbase x) 13 0) ||
      decide (d.rf (Reg.soCfg x) 3 2 ≠ d.lf (Reg.soCfg x) 3 2))) || decide (t.hact ≠ old.hact) || decide (t.vact ≠ old.vact))
  if prim x ∧ (frameBytes < r.1 + r.2 ∨ (List.range 3).any hits) then (1, 0)
  else if t.khz < (clockRange x).1 ∨ (clockRange x).2 < t.khz then (2, 0)
  else if x < 2 ∧ !bit (word (Reg.soCfg x)) 4 ∧ fld (word (Reg.soDp x)) 1 0 < 3 ∧ dpCapacity (word (Reg.soDp x)) < t.khz * 24 then (4, 0)
  else if 2 ≤ mates.length ∨ mates.any (fun y => decide (mirrorKey word y ≠ mirrorKey word x)) then (5, 0)
  else if x = 2 ∧ (t.khz < 15 * t.htot ∨ 70 * t.htot < t.khz) then (6, 0)
  else if x < 2 ∧ audioTight word x d.sampleHz then (7, 0)
  else if x < 2 ∧ (t.ilace ∨ fld (word (Reg.soCfg x)) 7 6 ≠ 0) then (8, 0)
  else if p < 2 ∧ prim x ∧ (t.lead = 0 ∨ t.vtot ≤ t.lead) then (9, 0)
  else if moved ∧ d.soPipe x < 2 ∧ old.vtot - old.vact < d.leadOf x then (0x0B, 0)
  else if commit ∧ p < 2 ∧ d.rb (Reg.spCtl p) 0 ∧ (t.vtot - t.vact) * t.period < 16448 then (0x0C, 0)
  else if portRange word x then (0x40, 0)
  else if portDisagree word x then (0x41, 0)
  else if p < 2 ∧ d.hgEn p ∧ d.hgOverBudget p t then (0x42, 0)
  else if prim x ∧ !(d.mayTouch 8 6 r.1 r.2 false && d.mayTouch 8 6 r.1 r.2 true) then (0x44, 0)
  else
    match badRect word x with
    | some k => (0x0A, k)
    | none => (0, 0)

/-! ### Enable, start and stop -/

/-- SO_x_CTL.EN is set (R129): the set applies and the port asks the ladder for its start. -/
def Dev.soEnable (d : Dev) (x : Nat) : Dev :=
  if d.soEn x then d
  else
    let r := d.soJudge x (fun _ => false) false
    let d1 := d.report (Reg.soChk x) 8 r
    if r.1 ≠ 0 then d1
    else
      let d2 := ((d1.setRb (Reg.soCtl x) 0 true).apply (soKeys x)).takeSet x
      (d2.setPort x { d2.port x with commit := false, change := false, black := false }).ask (ladPort x)

/-- Another running port that names port x's pipe (R139). -/
def Dev.mate (d : Dev) (x : Nat) : Option Nat :=
  if d.soPipe x < 2 then (List.range 3).find? (fun y => decide (y ≠ x) && (d.port y).run && decide (d.soPipe y = d.soPipe x)) else none

/-- PIXEL_PLL_LOCK (R23, R129, R139): the timing generator starts at 0:0:0, at the master's next frame number when the
port is the selected master source, or waits for its mate's frame start. -/
def Dev.pllLocked (d : Dev) (x : Nat) : Dev :=
  let q := d.port x
  let d1 := d.setRb Reg.clkStat (3 + x) true
  if !q.locking ∨ d.power ≠ 0 then d
  else if (d.mate x).isSome then d1.setPort x { q with locking := false, waiting := true }
  else if d.lf Reg.sysTbase 2 0 = x then d1.portStart x ((d.time.frame + 1) % 65536)
  else d1.portStart x 0

/-- A port stops: its timing generator halts, its link goes down, and a master timing that followed it becomes the idle
timing (R26, R150). -/
def Dev.portStop (d : Dev) (x : Nat) : Dev :=
  let q := d.port x
  let d1 := (((d.setPort x { PortSt.init with commit := q.commit, aux := q.aux }).setRb (Reg.soStat x) 0 false).setRb
    (Reg.sysGlkStat) x false).setRb Reg.clkStat (3 + x) false
  let d2 := if x < 2 then (d1.setRb (Reg.soLink x) 3 false).setRb (Reg.soLink x) 4 false else d1
  if d2.time.src = some x then d2.idleStart else d2

/-- PIXEL_PLL_LOCK_TIMEOUT (R129): EN returns to 0 with 0x45. -/
def Dev.pllTimeout (d : Dev) (x : Nat) : Dev :=
  if !(d.port x).locking then d
  else (((d.setRb (Reg.soCtl x) 0 false).unask (ladPort x)).portStop x).refuse (Reg.soChk x) 0x45

/-- SO_x_CTL.EN is cleared: refused while the Headgate or the compositor of its pipe is enabled (R150). -/
def Dev.soDisable (d : Dev) (x : Nat) : Dev :=
  let p := d.soPipe x
  if !d.soEn x then d
  else if p < 2 ∧ (d.hgEn p ∨ d.rb (Reg.cmpCtl p) 0) then d.refuse (Reg.soChk x) 0x46
  else
    let d1 := ((d.setRb (Reg.soCtl x) 0 false).unask (ladPort x)).portStop x
    d1.setPort x { d1.port x with commit := false }

/-! ### Commits -/

/-- SO_x_COMMIT.GO (R51, R130, R140, R421): the commit is requested, and the Headgate's evaluation starts. -/
def Dev.soGo (d : Dev) (x : Nat) : Dev :=
  if !d.soEn x then d
  else
    let d1 := d.setPort x { d.port x with commit := true }
    let p := d.soPipe x
    if p < 2 then d1.setGate p { d1.gate p with evald := false } else d1

/-- A write to port x's shadow timing restarts the Headgate's evaluation (R51). -/
def Dev.soTouched (d : Dev) (x : Nat) : Dev :=
  let p := d.soPipe x
  if p < 2 ∧ (d.port x).commit then d.setGate p { d.gate p with evald := false } else d

/-- Port x's shadow set takes force (R50, R51, R130); the timing generator follows at 0:0:0. A pipe that the port newly
feeds begins with line 0 of the next frame, or, at the commit point of a static port, with its first latch point. -/
def Dev.soApply (d : Dev) (x : Nat) : Dev :=
  let was := d.soPipe x
  let d1 := (d.setReg (Reg.soChk x) 0).apply (soKeys x)
  let d2 := d1.setPort x { d1.port x with commit := false, change := true }
  let p := d2.soPipe x
  if p < 2 then
    let d3 := if d2.hgEn p then
        let t := timingOf d2.inForce x
        (d2.hgBudgetSet p t).hgWorstSet p t.hact t.vact
      else d2
    let g := ((d2.port x).frame + 1) % 65536
    if was = p ∨ d3.feed p ≠ some x then d3
    else if was < 2 then d3.setPipe p { d3.pipe p with nextF := g, nextL := 0, buf := none, begun := [] }
    else d3.firstPoint p x g
  else d2

/-- The commits of ports xs, which share a commit point (R130, R139, R140): made together or refused together. While the
Headgate's evaluation is not complete they stay requested (R51). -/
def Dev.soCommitAt (d : Dev) (xs : List Nat) : Dev :=
  let go := xs.filter (fun x => d.soEn x && (d.port x).commit)
  if go.any (fun x => decide (d.soPipe x < 2) && d.hgEn (d.soPipe x) && !(d.gate (d.soPipe x)).evald) then d
  else
    let bad := (go.map (fun x => d.soJudge x (fun y => go.contains y) true)).find? (fun r => r.1 ≠ 0)
    match bad with
    | some r => go.foldl (fun d x => (d.setPort x { d.port x with commit := false }).refuse (Reg.soChk x) (chkWord r.1 8 r.2)) d
    | none => go.foldl (fun d x => d.soApply x) d

/-! ### Scan-out -/

/-- One bit of the reflected CRC-32 of IEEE 802.3. -/
def crcBit (c : Word) : Word := if c.getLsbD 0 then (c >>> 1) ^^^ 0xEDB88320 else c >>> 1

/-- One byte of the CRC-32 (R137). -/
def crcByte (c : Word) (b : Byte) : Word := (List.range 8).foldl (fun c _ => crcBit c) (c ^^^ b.zeroExtend 32)

/-- A pixel's four bytes blue, green, red, 0 enter a CRC (R137). -/
def crcPixel (c : Word) (px : Nat) : Word := (toBytes 4 (px % 16777216)).foldl crcByte c

/-- The pixels of a row as scan-out reads them (R133, R135): black where the table blocks the read, `bg` where a word is
uncorrectable. -/
def Dev.scanRow (d : Dev) (base hact fmt bg : Nat) : List Nat :=
  let n := fsBytes fmt
  (List.range hact).map (fun i =>
    let off := base + i * n
    let ws := wordsOf 6 off n
    if ws.any (fun a => !d.mayTouch 8 6 (a - memBase 6) 8 false) then 0
    else if d.badAt 6 off n then bg
    else fsUnpack fmt (d.peekN 6 off n))

/-- The reads of a row are noted: blocked words are violations, damaged ones are logged, and event 261 is raised at most
once (R135). -/
def Dev.scanNote (d : Dev) (x base len : Nat) : Dev :=
  let ws := wordsOf 6 base len
  let r := ws.foldl (fun (acc : Dev × Bool) a =>
    if !acc.1.mayTouch 8 6 (a - memBase 6) 8 false then (acc.1.violate 8 0 2 false (a - memBase 6), acc.2)
    else
      match acc.1.decodeWord a 8 with
      | .bad => ((if acc.2 then acc.1.logBad 6 8 a else acc.1.reportBad 6 8 a), true)
      | _ => (acc.1.noteRead 6 8 a, acc.2)) (d, false)
  if r.2 then r.1.setRb (Reg.soStat x) 3 true else r.1

/-- The CRCs of a line's pixels enter the port's rectangles (R137). -/
def Dev.crcLine (d : Dev) (x l : Nat) (px : List Nat) : Dev :=
  let init : Word := 0xFFFFFFFF
  let crc := (List.range 16).foldl (fun t r =>
    let y0 := d.sf (Reg.soCrcy x r) 15 0
    let y1 := d.sf (Reg.soCrcy x r) 31 16
    let x0 := d.sf (Reg.soCrcx x r) 15 0
    let x1 := d.sf (Reg.soCrcx x r) 31 16
    if bit (d.scanWord (Reg.soCrcen x)) r && decide (y0 ≤ l) && decide (l ≤ y1) then
      Tab.put (fun _ => init) t r (((px.drop x0).take (x1 + 1 - x0)).foldl crcPixel (Tab.get (fun _ => init) t r))
    else t) (d.port x).crc
  d.setPort x { d.port x with crc := crc }

/-- What a pixel of port C drives its DACs with (R148). -/
def Dev.gammaOf (d : Dev) (c : Nat) : Nat :=
  let g := d.sf (Reg.soCfg 2) 10 10
  let ch (k v : Nat) : Nat := d.rf (Reg.soGamma g k v) 9 0
  ch 0 (c / 65536 % 256) * 1048576 + ch 1 (c / 256 % 256) * 1024 + ch 2 (c % 256)

/-- Video flows on port x: port C and HDMI always, DisplayPort once trained (R143). -/
def Dev.videoFlows (d : Dev) (x : Nat) : Bool := decide (x = 2) || d.sf (Reg.soCfg x) 4 4 == 1 || d.rb (Reg.soLink x) 3

/-- Scan-out of active line l of frame f on port x (R131, R133, R134, R135, R137, R139). -/
def Dev.scanLine (d : Dev) (x f l : Nat) : Dev :=
  let y := d.primary x
  let t := timingOf d.scanWord x
  let p := d.sf (Reg.soCfg x) 1 0
  let fmt := d.sf (Reg.soCfg y) 3 2
  let base := rowBase d.scanWord y (rowOf t f l)
  let under := decide (p < 2) && (d.pipe p).begun.contains (f, l)
  let d1 := if under then
      ((d.setRb (Reg.soStat x) 2 true).setRf (Reg.soStat x) 31 16 l).raise (portEvent x + 11)
    else d
  let bg := if p < 2 then d.rf (Reg.cmpBgcol p) 23 0 else 0
  let px := d.scanRow base t.hact fmt bg
  let d2 := ((d1.scanNote x base (t.hact * fsBytes fmt))).crcLine x l px
  let shown := if (d2.port x).black then px.map (fun _ => 0) else px
  if d2.videoFlows x then d2.send (.portLine x f l (if x = 2 then shown.map d2.gammaOf else shown)) else d2

/-- The end of the active lines of a frame (R136, R138, R142, R144): the CRC results, vertical blanking, frame done. -/
def Dev.frameDone (d : Dev) (x : Nat) : Dev :=
  let en := d.scanWord (Reg.soCrcen x)
  let rs := (List.range 16).filter (fun r => bit en r)
  let val (r : Nat) : Word := Tab.get (fun _ => 0xFFFFFFFF) (d.port x).crc r ^^^ 0xFFFFFFFF
  let bad := rs.filter (fun r => val r ≠ d.scanWord (Reg.soCrcexp x r))
  let d1 := rs.foldl (fun d r => d.setReg (Reg.soCrcval x r) (val r)) d
  let d2 := bad.foldl (fun d r => d.setRb (Reg.soCrcfail x) r true) d1
  let d3 := ((d2.raise (portEvent x)).raiseIf (!bad.isEmpty) (portEvent x + 12)).raise (portEvent x + 10)
  if x < 2 ∧ d3.videoFlows x then
    let hdmi := d3.sf (Reg.soCfg x) 4 4 == 1
    d3.send (.frameInfo x (if hdmi then some (d3.sf (Reg.soInfo x) 7 0) else none) (hdmi && bit (d3.scanWord (Reg.soAud x)) 0))
  else d3

/-- A frame of port x begins (R130, R131, R132, R141): a committed set reaches the timing generator and scan-out, black
follows a change of pixel clock, and a change of MODE takes the link down. -/
def Dev.frameStart (d : Dev) (x : Nat) : Dev :=
  let q := d.port x
  let jam := Tab.get (fun _ => false) d.time.jam x
  let oldClk := d.sf (Reg.soDotclk x) 19 0
  let oldMode := d.sf (Reg.soCfg x) 4 4
  let d1 := if q.change then d.takeSet x else d
  let d2 := d1.setPort x { q with change := false, crc := [], black := jam || decide (d1.sf (Reg.soDotclk x) 19 0 ≠ oldClk) }
  if x < 2 ∧ d2.sf (Reg.soCfg x) 4 4 ≠ oldMode then (d2.setRb (Reg.soLink x) 3 false) else d2

/-- PORT_LINE_START: dot 0 of port x's next line is delivered (R130 to R140). -/
def Dev.portLine (d : Dev) (x : Nat) : Dev :=
  let q := d.port x
  if !q.run then d
  else
    let t := timingOf d.scanWord x
    let (f, l) := if q.fresh then (q.frame, q.line) else if q.line + 1 < t.lines q.frame then (q.frame, q.line + 1) else ((q.frame + 1) % 65536, 0)
    let d1 := d.setPort x { q with frame := f, line := l, dot := 0, fresh := false }
    let d2 := if l = 0 then d1.frameStart x else d1
    let t2 := timingOf d2.scanWord x
    let d3 := d2.setRb (Reg.soStat x) 1 (t2.ilace && decide (f % 2 = 1))
    let d4 := if l < t2.vact then d3.scanLine x f l else if l = t2.vact then d3.frameDone x else d3
    let d5 := if 2 ≤ d4.soPipe x ∧ l + 1 = t2.vtot then d4.soCommitAt [x] else d4
    if l = 0 then
      (List.range 3).foldl (fun d y => if (d.port y).waiting ∧ d.soPipe y = d.soPipe x then d.portStart y f else d) d5
    else d5

/-- HBLANK_START (R136). -/
def Dev.hblank (d : Dev) (x : Nat) : Dev :=
  let q := d.port x
  if !q.run then d
  else (d.setPort x { q with dot := d.sf (Reg.soHtim x) 15 0 }).raise (portEvent x + 1)

/-- LINE_MATCH (R136): the beam stands on the line that SO_x_LMm names and reaches its dot. -/
def Dev.lineMatch (d : Dev) (x m : Nat) : Dev :=
  let q := d.port x
  let w := d.reg (Reg.soLm x m)
  let t := timingOf d.scanWord x
  if q.run ∧ bit w 31 ∧ fld w 15 0 = q.line ∧ q.line < t.lines q.frame ∧ fld w 29 16 < t.htot then
    (d.setPort x { q with dot := fld w 29 16 }).raise (portEvent x + 2 + m)
  else d

/-! ### The links -/

/-- SO_x_CTL.TRAIN (R143): ignored in HDMI mode, on port C, while BUSY, and while the port does not run; with HPD low it
fails at once. -/
def Dev.train (d : Dev) (x : Nat) : Dev :=
  if 2 ≤ x ∨ d.lb (Reg.soCfg x) 4 ∨ d.rb (Reg.soLink x) 4 ∨ !(d.port x).run then d
  else if !d.rb (Reg.soLink x) 0 then d.setRf (Reg.soLink x) 7 5 4
  else (((d.setRb (Reg.soLink x) 4 true).setRb (Reg.soLink x) 3 false).setRf (Reg.soLink x) 7 5 0).send (.train x)

/-- LINK_TRAIN_END (R143): cause 0 is success, 1 to 3 what failed. -/
def Dev.trainEnd (d : Dev) (x cause : Nat) : Dev :=
  if 2 ≤ x ∨ !d.rb (Reg.soLink x) 4 ∨ 4 ≤ cause then d
  else ((d.setRb (Reg.soLink x) 4 false).setRb (Reg.soLink x) 3 (cause = 0 && d.rb (Reg.soLink x) 0)).setRf (Reg.soLink x) 7 5 cause

/-- Byte i of the AUX data registers. -/
def Dev.auxByte (d : Dev) (x i : Nat) : Byte := BitVec.ofNat 8 ((d.reg (Reg.soAuxdata x (i / 4))).toNat / 2 ^ (8 * (i % 4)))

/-- The device with byte i of the AUX data registers set. -/
def Dev.setAuxByte (d : Dev) (x i : Nat) (b : Byte) : Dev := d.setRf (Reg.soAuxdata x (i / 4)) (8 * (i % 4) + 7) (8 * (i % 4)) b.toNat

/-- A write to SO_x_AUXCMD (R145): its fields take their values, and GO with BUSY = 0 runs the transaction; in the wrong
mode, or with TYPE 6 or 7, it completes at once with ERR = 1. -/
def Dev.auxCmd (d : Dev) (x : Nat) (v : Word) : Dev :=
  let d1 := d.setReg (Reg.soAuxcmd x) (v &&& 0x07FFFFFF)
  let ty := fld v 26 24
  let stat := Reg.soAuxstat x
  if !bit v 31 ∨ d.rb stat 0 then d1
  else if 6 ≤ ty ∨ (ty < 4 ∧ d.lb (Reg.soCfg x) 4) ∨ (4 ≤ ty ∧ !d.lb (Reg.soCfg x) 4) then
    ((d1.setRb stat 1 true).setRf stat 3 2 1).setRf stat 8 4 0
  else
    let n := fld v 23 20 + 1
    ((d1.setRb stat 0 true).setPort x { d1.port x with aux := ty }).send
      (.aux x ty (fld v 19 0) (if ty % 2 = 0 then (List.range n).map (d1.auxByte x) else []))

/-- An AUX or DDC transaction ends with a result, the bytes transferred and, of a read, their values (R145). -/
def Dev.auxEnd (d : Dev) (x err cnt : Nat) (bytes : List Byte) : Dev :=
  let stat := Reg.soAuxstat x
  if 2 ≤ x ∨ !d.rb stat 0 ∨ 16 < cnt then d
  else
    let d1 := (((d.setRb stat 0 false).setRb stat 1 true).setRf stat 3 2 err).setRf stat 8 4 cnt
    if (d.port x).aux % 2 = 1 then
      ((bytes.take cnt).zip (List.range 16)).foldl (fun d e => d.setAuxByte x e.2 e.1) d1
    else d1

/-- HPD_CHANGE (R143, R146). -/
def Dev.hpd (d : Dev) (x : Nat) (level : Bool) : Dev :=
  if 2 ≤ x ∨ d.rb (Reg.soLink x) 0 = level then d
  else
    let d1 := (d.setRb (Reg.soLink x) 0 level).setRb (Reg.soLink x) 1 true
    if level then d1 else d1.setRb (Reg.soLink x) 3 false

/-- HPD_IRQ_PULSE (R146), a DisplayPort pulse. -/
def Dev.hpdPulse (d : Dev) (x : Nat) : Dev :=
  if 2 ≤ x ∨ d.lb (Reg.soCfg x) 4 then d else d.setRb (Reg.soLink x) 2 true

end Sys2Proof.Machine
end

