-- ==== Sys2Proof/Machine/Latch.lean ====
section
/-! DEFINITION. The latch points of the pipes (R33, R34, R422): the commits of line 0, timed writes, parameter tables,
Sluice values, the composited line. -/

namespace Sys2Proof.Machine

/-- A timed write takes effect (R34, R80, R106, R122): a map cell, a sprite word or a palette entry of the queue's pipe, or
a timed register. -/
def Dev.applyTimed (d : Dev) (p : Nat) (e : TimedWrite) : Dev :=
  let a := e.addr
  let bs := toBytes 4 e.data.toNat
  let o := a - (0x700000 + 0x80000 * p)
  if 0x1800000 ≤ a then d.writeBytes 1 e.master (a - 0x1800000) bs
  else if 0x680000 ≤ a ∧ a < 0x700000 then d.writeBytes (2 + p) e.master (a - 0x680000) bs
  else if 0x700000 ≤ a ∧ 0x10000 ≤ o then d.writeBytes (4 + p) e.master (o - 0x10000) bs
  else if 0x700000 ≤ a ∧ 0x40 ≤ o ∧ o < 0x68 then d.layWrite p ((o - 0x40) / 4) e.data
  else d.codeWrite a e.data

/-- The queue at the latch point of line l of frame f: entries that a jump of the frame count passed over are LATE (R58),
those tagged for the line take effect in source order (R39). -/
def Dev.timedWrites (d : Dev) (p f l : Nat) : Dev :=
  let es := (d.tq p).entries
  let past := es.filter (fun e => !tagFuture e.frame e.line f l)
  let d1 := past.foldl (fun d e => d.twqLate p e.line e.master 0) d
  let keep := es.filter (fun e => tagFuture e.frame e.line f l && !(decide (e.frame = f) && decide (e.line = l)))
  (twqDue es f l).foldl (fun d e => d.applyTimed p e) (d1.setTq p { d1.tq p with entries := keep })

/-- Blocks whose enable was cleared stop at the pipe's latch point (R85, R108, R109). -/
def Dev.pipeStops (d : Dev) (p : Nat) : Dev :=
  let q := d.pipe p
  let q1 := if q.tpOff then { q with tpOn := false, tpOff := false, lt := [], ct := [] } else q
  let q2 := if q1.spOff then { q1 with spOn := false, spOff := false, walk := [], walkNext := [] } else q1
  let q3 := if q2.cmpOff then { q2 with cmpOn := false, cmpOff := false } else q2
  d.setPipe p q3

/-- The commit points of line 0 after the SO commit (R82, R107, R123, R58), the walk order of the frame (R91), and the
count of culled spans of the frame that ended (R114). -/
def Dev.frameLatch (d : Dev) (p f : Nat) : Dev :=
  let q := d.pipe p
  let d1 := (d.setReg (Reg.cmpCull p) (BitVec.ofNat 32 (min q.cull 16777215))).setPipe p { q with cull := 0, walk := q.walkNext, walkNext := [] }
  (((d1.tpCommitAt p).spCommitAt p).cmpCommitAt p).scenesForce p f

/-- The line is composited into the line buffer; a row not yet written is abandoned (R109, R127). -/
def Dev.lineLatch (d : Dev) (p f l : Nat) (late : List LateFetch) : Dev :=
  match (d.pipe p).cmpOn, d.feedTiming p with
  | true, some t =>
    let (px, d1) := d.composite p l t.hact late
    let q := d1.pipe p
    d1.setPipe p { q with buf := some ⟨f, l, px⟩, begun := q.begun.filter (fun e => e.2 ≠ l) ++ [(f, l)] }
  | _, _ => d.setPipe p { d.pipe p with buf := none }

/-- LATCH_POINT of pipe p (R34, R422). -/
def Dev.latchPoint (d : Dev) (p : Nat) (late : List LateFetch) : Dev :=
  if (d.feed p).isNone then d
  else
    let f := (d.pipe p).nextF
    let l := (d.pipe p).nextL
    let d1 := if l = 0 then d.soCommitAt ((List.range 3).filter (fun x => d.soPipe x = p)) else d
    match d1.feedTiming p with
    | none => d1
    | some t =>
      let d2 := d1.pipeStops p
      let d3 := if l = 0 then d2.frameLatch p f else d2
      let d4 := (d3.timedWrites p f l).tablesLatch p l
      let d5 := if (d4.pipe p).spOn then d4.sluice p l else d4
      let d6 := d5.lineLatch p f l late
      let n := nextLine t.vact f l
      d6.setPipe p { d6.pipe p with nextF := n.1, nextL := n.2 }

/-- FETCH_ARRIVAL (R117): the data of fetch i of those outstanding past their pass arrives and is discarded. -/
def Dev.fetchArrival (d : Dev) (p i : Nat) : Dev :=
  let q := d.pipe p
  d.setPipe p { q with lateOut := q.lateOut.eraseIdx i }

end Sys2Proof.Machine
end

