-- ==== Sys2Proof/Machine/LpUnits.lean ====
section
/-! DEFINITION. The line processors' ports, the faults that an encoding makes, and the results of their units (R156, R157,
R174 to R182, R192). -/

namespace Sys2Proof.Machine

/-! ### Ports -/

/-- The port may be read (Table — Port map). -/
def portSource (p : Nat) : Bool :=
  p ≤ 33 || p = 48 || p = 51 || p = 52 || p = 54 || p = 57 || p = 58 || p = 60 || p = 61 || (63 ≤ p && p ≤ 65) || p = 72 ||
  p = 73 || p = 80 || (87 ≤ p && p ≤ 90) || (96 ≤ p && p ≤ 98) || (100 ≤ p && p ≤ 102) || p = 104 || p = 105 || p = 108 ||
  p = 109 || (112 ≤ p && p ≤ 119)

/-- The port is a trigger (Table — Port map). -/
def portTrigger (p : Nat) : Bool :=
  (34 ≤ p && p ≤ 47) || p = 49 || p = 50 || p = 55 || p = 56 || p = 62 || (66 ≤ p && p ≤ 71) || p = 74 || p = 75 ||
  (82 ≤ p && p ≤ 86) || p = 91 || p = 92 || p = 99 || p = 106 || p = 107

/-- The port may be written (Table — Port map). -/
def portDest (p : Nat) : Bool :=
  portTrigger p || p ≤ 32 || p = 48 || p = 54 || p = 60 || p = 61 || p = 63 || p = 65 || p = 73 || p = 80 || p = 81 ||
  (96 ≤ p && p ≤ 98) || p = 100 || p = 101 || p = 104 || p = 108 || p = 118

/-- The unit of a trigger port: 1 ALU, 2 MUL, 3 DIV, 4 CMP, 5 LD/ST, 6 IO, 7 branch, 8 code read, 9 BEAM, 10 TQ, 11 IRQ
(R157, R183); 0 for a port that is no trigger. -/
def portUnit (p : Nat) : Nat :=
  if !portTrigger p then 0
  else if p ≤ 47 then 1 else if p ≤ 50 then 2 else if p ≤ 56 then 3 else if p = 62 then 4 else if p ≤ 71 then 5
  else if p ≤ 75 then 6 else if p ≤ 85 then 7 else if p = 86 then 8 else if p ≤ 92 then 9 else if p = 99 then 10 else 11

/-- The operand ports of a trigger, for rule 2 of R156. -/
def portOperands (t : Nat) : List Nat :=
  match portUnit t with
  | 1 => [32]
  | 2 => [48]
  | 3 => [54]
  | 4 => [60, 61]
  | 5 => [65]
  | 6 => [73]
  | 7 => if t = 85 then [80] else if t = 82 then [] else [31]
  | 10 => [96, 97, 98, 100, 101]
  | _ => []

/-- The source of a move: an immediate already extended, or a port. -/
inductive MoveSrc where
  | val (v : Word)
  | port (p : Nat)
  deriving DecidableEq, Repr

/-- The guard predicate of a word (0: always) and its moves in slot order (R154). -/
def movesOf : LpWord → Nat × List (Nat × MoveSrc)
  | .long g d (.imm v) => (g.toNat, [(d.toNat, .val (v.signExtend 32))])
  | .long g d (.port s _) => (g.toNat, [(d.toNat, .port s.toNat)])
  | .pair g a b =>
    let mv (m : ShortMove) : Nat × MoveSrc := (m.dst.toNat, if m.imm then .val (m.src.signExtend 32) else .port m.src.toNat)
    (b2n g, [mv a, mv b])

/-- A long register move with nonzero bits [12:0] (R157). -/
def badLow : LpWord → Bool
  | .long _ _ (.port _ low) => low != 0
  | _ => false

/-- The first illegal port of a list of moves, with its slot: slot A first, source before destination (R157). -/
def illegalPort (low : Bool) : Nat → List (Nat × MoveSrc) → Option (Nat × Nat)
  | _, [] => none
  | slot, (d, s) :: rest =>
    match s with
    | .port p => if !portSource p || low then some (p, slot) else if !portDest d then some (d, slot) else illegalPort low (slot + 1) rest
    | .val _ => if !portDest d then some (d, slot) else illegalPort low (slot + 1) rest

/-- The pair fault of two destinations: the port and slot it names (R156). -/
def pairFault (a b : Nat) : Option (Nat × Nat) :=
  if a = b then some (b, 1)
  else if (portOperands a).contains b then some (a, 0)
  else if (portOperands b).contains a then some (b, 1)
  else if portUnit a ≠ 0 ∧ portUnit a = portUnit b then some (b, 1)
  else none

/-- The fault of a word's encoding: cause, port, slot (R156, R157). -/
def wordFault (w : LpWord) : Option (Nat × Nat × Nat) :=
  let ms := (movesOf w).2
  match illegalPort (badLow w) 0 ms with
  | some e => some (2, e)
  | none =>
    match ms with
    | [(a, _), (b, _)] => (pairFault a b).map (fun e => (1, e))
    | _ => none

/-! ### Units -/

/-- The result of an ALU trigger, and whether it sets V (R174 to R176). -/
def aluResult (p : Nat) (o v : Word) : Word × Bool :=
  let s := v.toNat % 256
  let sat (z : Int) : Word × Bool :=
    if 2147483647 < z then (0x7FFFFFFF, true) else if z < -2147483648 then (0x80000000, true) else (BitVec.ofInt 32 z, false)
  match p with
  | 34 => (o + v, false)
  | 35 => (o - v, false)
  | 36 => (o &&& v, false)
  | 37 => (o ||| v, false)
  | 38 => (o ^^^ v, false)
  | 39 => (o <<< s, false)
  | 40 => (o >>> s, false)
  | 41 => (o.sshiftRight s, false)
  | 42 => (o.rotateLeft (s % 32), false)
  | 43 => (0 - v, decide (v = 0x80000000))
  | 44 => (if o.toInt ≤ v.toInt then o else v, false)
  | 45 => (if v.toInt ≤ o.toInt then o else v, false)
  | 46 => sat (o.toInt + v.toInt)
  | _ => sat (o.toInt - v.toInt)

/-- The low and high words of a product (R177). -/
def mulResult (sgn : Bool) (o v : Word) : Word × Word :=
  let p : BitVec 64 := if sgn then BitVec.ofInt 64 (o.toInt * v.toInt) else BitVec.ofNat 64 (o.toNat * v.toNat)
  (p.extractLsb' 0 32, p.extractLsb' 32 32)

/-- Quotient, remainder, whether V is set, whether DZ is set (R178). -/
def divResult (sgn : Bool) (o v : Word) : Word × Word × Bool × Bool :=
  if v = 0 then (if sgn ∧ o.toInt < 0 then 1 else 0xFFFFFFFF, o, false, true)
  else if !sgn then (BitVec.ofNat 32 (o.toNat / v.toNat), BitVec.ofNat 32 (o.toNat % v.toNat), false, false)
  else (BitVec.ofInt 32 (o.toInt.tdiv v.toInt), BitVec.ofInt 32 (o.toInt.tmod v.toInt),
        decide (o = 0x80000000 ∧ v = 0xFFFFFFFF), false)

/-- The condition of CMP.CFG between O and v (R180). -/
def cmpCond (c : Nat) (o v : Word) : Bool :=
  match c with
  | 0 => o == v
  | 1 => o != v
  | 2 => decide (o.toInt < v.toInt)
  | 3 => decide (v.toInt ≤ o.toInt)
  | 4 => decide (o.toNat < v.toNat)
  | 5 => decide (v.toNat ≤ o.toNat)
  | 6 => decide (v.toInt < o.toInt)
  | 7 => decide (o.toInt ≤ v.toInt)
  | 8 => decide (v.toNat < o.toNat)
  | 9 => decide (o.toNat ≤ v.toNat)
  | 10 => (o &&& v) != 0
  | 11 => (o &&& v) == 0
  | 12 => true
  | _ => false

/-- The predicates after a CMP.T trigger: `old` as they stood at the start of the word, `now` with what the word wrote
(R180, R181). -/
def cmpPreds (cfg o v : Word) (old now : BitVec 8) : BitVec 8 :=
  let p := fld cfg 2 0
  let c := cmpCond (fld cfg 6 3) o v
  let was := old.getLsbD p
  let new := match fld cfg 8 7 with | 1 => was && c | 2 => was || c | _ => c
  if p = 0 then now
  else
    let m : BitVec 8 := 1 <<< p
    if new then now ||| m else now &&& ~~~m

/-- The feature registers (R192). -/
def featWord (i : Nat) : Word := [0x0001FFFF, 0x04782020, 0x44213221, 0x000014B0].getD i 0

end Sys2Proof.Machine
end

