-- ==== Sys2Proof/Machine/Lp.lean ====
section
/-! DEFINITION. The line processors (R151 to R192): issuing a word, what a write to each port does, traps, beam waits,
timed writes, interrupt entry and exit, and starting, halting and stepping. Latencies are timing and take no command. -/

namespace Sys2Proof.Machine

/-! ### Ports -/

/-- The stored value of a port of LP n. -/
def LpSt.get (l : LpSt) (p : Nat) : Word := Tab.get (fun _ => 0) l.port p

/-- LP state with a stored port value replaced. -/
def LpSt.put (l : LpSt) (p : Nat) (v : Word) : LpSt := { l with port := Tab.put (fun _ => 0) l.port p v }

/-- The device with a stored port value of LP n replaced. -/
def Dev.setPortOf (d : Dev) (n p : Nat) (v : Word) : Dev := d.setLp n ((d.lp n).put p v)

/-- The memory identifiers of LP n's IMEM and DMEM (Table — Memory codes). -/
def imemOf (n : Nat) : Nat := 7 + n
def dmemOf (n : Nat) : Nat := 11 + n

/-- BEAM.CLINE (Table — Port map, R431). -/
def Dev.cline (d : Dev) (p : Nat) : Word :=
  if (d.feed p).isNone then 0xFFFFFFFF else BitVec.ofNat 32 ((d.pipe p).nextL + (d.pipe p).nextF * 65536)

/-- What a read of a port gives (Table — Port map). -/
def Dev.portVal (d : Dev) (n p : Nat) : Word :=
  let l := d.lp n
  match p with
  | 63 => (l.preds &&& 0xFE).zeroExtend 32
  | 88 => BitVec.ofNat 32 (d.time.line % 65536 * 65536 + d.time.dot % 65536)
  | 90 => d.cline (b2n (bit (l.get 100) 0))
  | 105 => BitVec.ofNat 32 l.cause
  | 109 => BitVec.ofNat 32 l.stack.length
  | 112 => featWord 0
  | 113 => featWord 1
  | 114 => featWord 2
  | 115 => featWord 3
  | 116 => BitVec.ofNat 32 l.cyc
  | 119 => BitVec.ofNat 32 n
  | p => l.get p

/-- What a read of a port brings about: BEAM.POS copies the frame, SYS.CYCLO the high half (R191). -/
def Dev.portRead (d : Dev) (n p : Nat) : Dev :=
  match p with
  | 88 => d.setPortOf n 89 (BitVec.ofNat 32 d.time.frame)
  | 116 => d.setPortOf n 117 (BitVec.ofNat 32 ((d.lp n).cyc / 2 ^ 32))
  | _ => d

/-- Sticky flags of SYS.STAT are set (R176, R179, R187). -/
def Dev.lpFlag (d : Dev) (n : Nat) (m : Word) : Dev := d.setPortOf n 118 ((d.lp n).get 118 ||| m)

/-! ### What a write to a port does -/

/-- What a word asks of the issue beyond its writes: a branch, a repeat count, a return. -/
structure LpReq where
  branch : Option Nat
  rep    : Option Nat
  ret    : Bool
  deriving DecidableEq, Repr

/-- A load (R160, R182): the address modulo 32,768 and aligned to its size, zero-extended; 0 from an uncorrectable word. -/
def Dev.lpLoad (d : Dev) (n size a : Nat) : Dev :=
  let off := a % 32768 / size * size
  (d.noteReads (dmemOf n) (2 + n) off size).setPortOf n 64 (BitVec.ofNat 32 (d.peekN (dmemOf n) off size))

/-- A store of LS.SD (R160, R182). -/
def Dev.lpStore (d : Dev) (n size a : Nat) : Dev :=
  let off := a % 32768 / size * size
  d.writeBytes (dmemOf n) (2 + n) off (toBytes size ((d.lp n).get 65).toNat)

/-- A division (R178, R179). -/
def Dev.lpDivide (d : Dev) (n : Nat) (sgn : Bool) (v : Word) : Dev :=
  let (q, r, ov, dz) := divResult sgn ((d.lp n).get 54) v
  let d1 := (d.setPortOf n 57 q).setPortOf n 58 r
  let d2 := if ov then d1.lpFlag n 1 else d1
  if dz then (d2.lpFlag n 2).raiseIf (d.rb (Reg.lpCfg n) 0) (18 + 4 * n) else d2

/-- The timed write that TQ.DATA := v makes (R164). -/
def Dev.tqEntry (d : Dev) (n : Nat) (v : Word) : TimedWrite :=
  let l := d.lp n
  let p := b2n (bit (l.get 100) 0)
  ⟨if bit (l.get 96) 16 then fld (l.get 97) 15 0 else (d.pipe p).nextF, fld (l.get 96) 15 0, (l.get 98).toNat, v, 2 + n⟩

/-- TQ.DATA := v (R164): the entry enters the queue, TQ.STAT tells the outcome, TQ.ADDR steps. On a full queue the LP
stalls and TQ.STAT follows at its entry (R35). -/
def Dev.lpTimed (d : Dev) (n : Nat) (v : Word) : Dev :=
  let l := d.lp n
  let (d1, r) := d.twqEnter (b2n (bit (l.get 100) 0)) (d.tqEntry n v)
  let d2 := if r < 4 then d1.setPortOf n 102 (BitVec.ofNat 32 r) else d1
  d2.setPortOf n 98 (l.get 98 + l.get 101)

/-- A beam wait begins, or, with a value the master timing never reaches, only sets WAITBAD (R162). -/
def Dev.lpWait (d : Dev) (n : Nat) (line : Bool) (v : Word) : Dev :=
  let total := if line then d.masterLines else d.masterDots
  let bad := match total with | some t => decide (t ≤ v.toNat) | none => false
  if bad then d.setRb (Reg.lpStat n) 23 true
  else d.setLp n { d.lp n with wait := if line then .line v.toNat false else .dot v.toNat false }

/-- An I/O trigger (R163): a read is issued behind every access before it and takes over from an earlier read. -/
def Dev.lpIo (d : Dev) (n : Nat) (rd : Bool) (v : Word) : Dev :=
  let l := d.lp n
  if rd then
    let io := l.io.map (fun o => match o with | .rd a _ => IoOp.rd a false | o => o)
    d.setLp n { l with io := io ++ [.rd (fld v 15 0) true] }
  else d.setLp n { l with io := l.io ++ [.wr (fld v 15 0) (l.get 73)] }

/-- A write of v to a port of LP n, in a word that began with predicates p0 and, if `inRep`, is a repeated word. -/
def Dev.portWrite (n : Nat) (p0 : BitVec 8) (inRep : Bool) (acc : Dev × LpReq) (e : Nat × Word) : Dev × LpReq :=
  let (d, q) := acc
  let (p, v) := e
  let l := d.lp n
  if 34 ≤ p ∧ p ≤ 47 then
    let r := aluResult p (l.get 32) v
    let d1 := d.setPortOf n 33 r.1
    (if r.2 then d1.lpFlag n 1 else d1, q)
  else if p = 49 ∨ p = 50 then
    let r := mulResult (decide (p = 50)) (l.get 48) v
    ((d.setPortOf n 51 r.1).setPortOf n 52 r.2, q)
  else if p = 55 ∨ p = 56 then (d.lpDivide n (decide (p = 56)) v, q)
  else if p = 62 then (d.setLp n { l with preds := cmpPreds (l.get 61) (l.get 60) v p0 l.preds }, q)
  else if p = 63 then (d.setLp n { l with preds := v.truncate 8 &&& 0xFE }, q)
  else if p = 66 then (d.lpLoad n 4 v.toNat, q)
  else if p = 67 then (d.lpLoad n 2 v.toNat, q)
  else if p = 68 then (d.lpLoad n 1 v.toNat, q)
  else if p = 69 then (d.lpStore n 4 v.toNat, q)
  else if p = 70 then (d.lpStore n 2 v.toNat, q)
  else if p = 71 then (d.lpStore n 1 v.toNat, q)
  else if p = 74 then (d.lpIo n true v, q)
  else if p = 75 then (d.lpIo n false v, q)
  else if p = 81 then
    if inRep then
      ((d.lpFlag n 4).setLp n { (d.lpFlag n 4).lp n with hazTold := true } |>.raiseIf (!l.hazTold) (17 + 4 * n), q)
    else (d, { q with rep := some (fld v 15 0) })
  else if p = 82 then (d, { q with branch := some (v.toNat % 8192) })
  else if p = 83 then
    (d.setPortOf n 31 (BitVec.ofNat 32 ((l.pc + 1) % 8192)), { q with branch := some (v.toNat % 8192) })
  else if p = 84 then (d, { q with branch := some ((l.get 31).toNat % 8192) })
  else if p = 85 then
    let c := l.get 80 - 1
    (d.setPortOf n 80 c, if c = 0 then q else { q with branch := some (v.toNat % 8192) })
  else if p = 86 then
    let off := 4 * (v.toNat % 8192)
    ((d.noteReads (imemOf n) (2 + n) off 4).setPortOf n 87 (BitVec.ofNat 32 (d.peekN (imemOf n) off 4)), q)
  else if p = 91 then (d.lpWait n true v, q)
  else if p = 92 then (d.lpWait n false v, q)
  else if p = 99 then (d.lpTimed n v, q)
  else if p = 104 then (d.setPortOf n 104 (v &&& 1), q)
  else if p = 106 then (d, { q with ret := true })
  else if p = 107 then (d.setLp n { l with irqWait := true }, q)
  else if p = 108 then (d.setPortOf n 108 (v &&& 0x7800), q)
  else if p = 118 then (d.setPortOf n 118 (l.get 118 &&& ~~~v), q)
  else (d.setPortOf n p v, q)

/-! ### Interrupts -/

/-- The request that LP n may take over code at a priority: its most urgent one, with IRQ.EN = 1 (R165). -/
def Dev.lpRequest (d : Dev) (n pri : Nat) : Option Nat :=
  if bit ((d.lp n).get 104) 0 then
    match d.next (2 + n) with
    | some e => if d.mayPreempt e pri then some e else none
    | none => none
  else none

/-- LP n takes event e: it is acknowledged, and the handler's address is read from the vector table (R166). -/
def Dev.lpVector (d : Dev) (n e : Nat) : Dev :=
  let off := ((d.lp n).get 108).toNat % 32768 / 2048 * 2048 + 4 * e
  let pc := d.peekN (dmemOf n) off 4 % 8192
  let pri := d.runPri e
  let d1 := (d.take e (2 + n)).noteReads (dmemOf n) (2 + n) off 4
  d1.setLp n { d1.lp n with pc := pc, cause := e, pri := pri, rep := none, wait := .none, irqWait := false, repFresh := false }

/-- The running handler ends (R167): it chains into a request that may pre-empt the context below, or restores it. A
repeat count that the same word wrote applies to the word returned to unless that word is in a repeat. -/
def Dev.lpReturn (d : Dev) (n : Nat) (rep : Option Nat) : Dev :=
  let l := d.lp n
  match l.stack with
  | [] => d
  | c :: rest =>
    match d.lpRequest n c.pri with
    | some e => d.lpVector n e
    | none =>
      let l1 := { l with stack := rest, pc := c.pc, preds := c.preds, rep := if c.rep.isSome then c.rep else rep, hazTold := c.rep.isSome && c.haz, wait := c.wait,
                         irqWait := false, cause := c.cause, pri := c.pri, repFresh := false }
      d.setLp n (l1.put 80 c.loop)

/-! ### Issue -/

/-- LP n may issue a word: it runs with its start granted, in no wait, and no timed write of it stands stalled (R35). -/
def Dev.lpReady (d : Dev) (n : Nat) : Bool :=
  let l := d.lp n
  d.laddered (ladLp n) && decide (l.mode = .run) && decide (l.wait = .none) && !l.irqWait &&
  !([0, 1].any (fun p => (d.tq p).stalled.any (fun e => decide (e.master = 2 + n))))

/-- A step or a trap ends an issue: an LP that was stepping halts again (R172). -/
def Dev.lpSettle (d : Dev) (n : Nat) : Dev :=
  let l := d.lp n
  (if l.stepping then d.setLp n { l with mode := .halt, stepping := false } else d).present

/-- A trap (R158): the LP stops before the faulting word. -/
def Dev.lpTrap (d : Dev) (n cause port slot : Nat) : Dev :=
  let l := d.lp n
  let d1 := (d.setLp n { l with mode := .fault, stepping := false, rep := none, stalled := false, repFresh := false }).setReg (Reg.lpFault n)
    (BitVec.ofNat 32 (cause + l.pc * 16 + port * 131072 + slot * 16777216))
  (if cause = 1 then d1.raise (16 + 4 * n) else if cause = 4 then d1 else d1.raise (19 + 4 * n)).present

/-- Where LP n continues after a word (R184 to R186). -/
def Dev.lpAdvance (d : Dev) (n : Nat) (q : LpReq) (rep0 : Option Nat) : Dev :=
  let l := d.lp n
  let next := q.branch.getD ((l.pc + 1) % 8192)
  let l1 := { l with repFresh := false, stalled := false }
  if q.ret then (d.setLp n { l1 with rep := none }).lpReturn n (match q.rep with | some 0 => none | r => r)
  else
    d.setLp n (match rep0 with
      | some k =>
        if q.branch.isSome then { l1 with pc := next, rep := none }
        else if k ≤ 1 then { l1 with pc := next, rep := none }
        else { l1 with rep := some (k - 1) }
      | none =>
        match q.rep with
        | none => { l1 with pc := next }
        | some 0 => { l1 with pc := (next + 1) % 8192 }
        | some m => { l1 with pc := next, rep := some m, hazTold := false, repFresh := true })

/-- The moves of a word, with their values read, are written: CMP.P and SYS.STAT first, so that a comparison's predicate
and a flag set in the same cycle stand (R181, R190). -/
def orderMoves (ms : List (Nat × Word)) : List (Nat × Word) :=
  ms.filter (fun e => e.1 = 63 ∨ e.1 = 118) ++ ms.filter (fun e => e.1 ≠ 63 ∧ e.1 ≠ 118)

/-- LP n issues a word with these moves, written after all were read (R151, R156). -/
def Dev.lpMoves (d : Dev) (n : Nat) (ms : List (Nat × Word)) : Dev :=
  let l := d.lp n
  let r := (orderMoves ms).foldl (Dev.portWrite n l.preds l.rep.isSome) (d, ⟨none, none, false⟩)
  (r.1.lpAdvance n r.2 l.rep).lpSettle n

/-- The word stalls (R153, R163): it reads IO.RES with a read under way, or posts a fifth write. -/
def LpSt.stalls (l : LpSt) (ms : List (Nat × MoveSrc)) : Bool :=
  (ms.any (fun e => e.2 = .port 72) && l.io.any (fun o => match o with | .rd _ k => k | _ => false)) ||
  (ms.any (fun e => e.1 = 75) && decide (4 ≤ (l.io.filter (fun o => match o with | .wr _ _ => true | _ => false)).length))

/-- Moves whose guard holds: a stall, a return with no saved context, or the issue (R158, R167). -/
def Dev.lpExecute (d : Dev) (n : Nat) (ms : List (Nat × MoveSrc)) : Dev :=
  let l := d.lp n
  if l.stack.isEmpty && ms.any (fun e => e.1 = 106) then
    d.lpTrap n 3 106 (match ms with | (106, _) :: _ => 0 | _ => 1)
  else if l.stalls ms then d.setLp n { l with stalled := true }
  else
    let vs := ms.map (fun e => (e.1, match e.2 with | .val v => v | .port p => d.portVal n p))
    let d1 := ms.foldl (fun d e => match e.2 with | .port p => d.portRead n p | .val _ => d) d
    d1.lpMoves n vs

/-- MOVE (R151 to R158): LP n issues the word at its program address. -/
def Dev.lpIssue (d : Dev) (n : Nat) : Dev :=
  if !d.lpReady n then d
  else
    let l := d.lp n
    let off := 4 * l.pc
    let d1 := d.noteReads (imemOf n) (2 + n) off 4
    if d.badAt (imemOf n) off 4 then d1.lpTrap n 4 0 0
    else
      let w := decodeLp (BitVec.ofNat 32 (d.peekN (imemOf n) off 4))
      match wordFault w with
      | some (c, port, slot) => d1.lpTrap n c port slot
      | none =>
        let (g, ms) := movesOf w
        if g ≠ 0 ∧ !l.preds.getLsbD g then d1.lpMoves n [] else d1.lpExecute n ms

/-- A trigger row: LP n issues a word whose one move writes v to the trigger port. -/
def Dev.lpTrigger (d : Dev) (n p : Nat) (v : Word) : Dev := if d.lpReady n then d.lpExecute n [(p, .val v)] else d

/-- BEAM_WAIT_WAKE (R162): the awaited start was delivered and the wait is over. -/
def Dev.lpWake (d : Dev) (n : Nat) : Dev :=
  let l := d.lp n
  match l.wait with
  | .line _ true => d.setLp n { l with wait := .none }
  | .dot _ true => d.setLp n { l with wait := .none }
  | _ => d

/-- INTERRUPT_ENTRY (R165, R166): the context is saved and the most urgent request taken; with IRQ.EN = 0 a request only
ends IRQ.WAIT. -/
def Dev.lpEntry (d : Dev) (n : Nat) : Dev :=
  let l := d.lp n
  let held := l.stalled || l.repFresh || [0, 1].any (fun p => (d.tq p).stalled.any (fun e => decide (e.master = 2 + n)))
  if !d.laddered (ladLp n) || decide (l.mode ≠ .run) || held then d
  else if !bit (l.get 104) 0 then
    (if l.irqWait && (d.next (2 + n)).isSome then d.setLp n { l with irqWait := false } else d)
  else if 8 ≤ l.stack.length then d
  else
    match d.lpRequest n l.pri with
    | none => d
    | some e =>
      let c : LpCtx := ⟨l.pc, l.preds, l.get 80, l.rep, l.hazTold, l.wait, l.cause, l.pri⟩
      ((d.setLp n { l with stack := c :: l.stack }).lpVector n e).present

/-- TWQ_STALL_RELEASE (R35): the oldest stalled entry enters its queue; TQ.STAT of its LP tells the outcome. -/
def Dev.twqRelease (d : Dev) (p : Nat) : Dev :=
  let q := d.tq p
  match q.stalled with
  | [] => d
  | e :: rest =>
    if 4096 ≤ q.entries.length then d
    else
      let (d1, r) := (d.setTq p { q with stalled := rest }).twqEnter p e
      if 2 ≤ e.master ∧ e.master < 6 ∧ r < 4 then d1.setPortOf (e.master - 2) 102 (BitVec.ofNat 32 r) else d1

/-! ### Starting, halting, stepping -/

/-- The LP is halted, a step under way included (R172). -/
def LpSt.halted (l : LpSt) : Bool := decide (l.mode = .halt) || l.stepping

/-- LPn_STAT.STATE (R169). -/
def LpSt.state (l : LpSt) : Nat :=
  match l.mode with
  | .reset => 0
  | .run => if l.stepping then 3 else if l.wait = .none ∧ !l.irqWait then 1 else 2
  | .halt => 3
  | .fault => 4

/-- LPn_CTL.RUN is set (R171): the checks in table order. -/
def Dev.lpRun (d : Dev) (n : Nat) : Dev :=
  let l := d.lp n
  if l.mode = .fault then d.refuse (Reg.lpChk n) 1
  else if d.rb (Reg.lpCtl n) 0 then d
  else if !d.clocked then d.refuse (Reg.lpChk n) 0x45
  else if l.dbgHalt then d.refuse (Reg.lpChk n) 0x46
  else
    let d1 := ((d.setReg (Reg.lpChk n) 0).setRb (Reg.lpCtl n) 0 true).setLp n { l with starting := true }
    (d1.ask (ladLp n)).present

/-- LPn_CTL.RUN is cleared (R169, R171): the LP returns to RESET; a timed write it stalled on is abandoned with it. -/
def Dev.lpReset (d : Dev) (n : Nat) : Dev :=
  if !d.rb (Reg.lpCtl n) 0 then d
  else
    let l := d.lp n
    let d1 := ((d.setRb (Reg.lpCtl n) 0 false).unask (ladLp n)).setLp n { LpSt.init with dbgHalt := l.dbgHalt }
    let d2 := if l.mode = .fault then d1.setReg (Reg.lpFault n) 0 else d1
    ([0, 1].foldl (fun (d : Dev) p => d.setTq p { d.tq p with stalled := (d.tq p).stalled.filter (fun e => e.master ≠ 2 + n) }) d2).present

/-- A halt takes hold at the word boundary: the LP stops, and SYS_DET_STAT.DEBUG records it (R172). -/
def Dev.lpStop (d : Dev) (n : Nat) : Dev :=
  let l := d.lp n
  if l.mode = .run then ((d.setLp n { l with mode := .halt, stepping := false, stalled := false }).setDet 5).present else d

/-- LPn_CTL.HALT is set (R172). -/
def Dev.lpHalt (d : Dev) (n : Nat) : Dev := (d.setRb (Reg.lpCtl n) 1 true).lpStop n

/-- A halted LP runs on once neither HALT nor the debug port holds it (R172). -/
def Dev.lpGoOn (d : Dev) (n : Nat) : Dev :=
  let l := d.lp n
  if l.halted ∧ !l.dbgHalt ∧ !d.rb (Reg.lpCtl n) 1 then (d.setLp n { l with mode := .run, stepping := false }).present else d

/-- LPn_CTL.HALT is cleared (R172). -/
def Dev.lpResume (d : Dev) (n : Nat) : Dev := (d.setRb (Reg.lpCtl n) 1 false).lpGoOn n

/-- LPn_CTL.STEP (R172). -/
def Dev.lpStep (d : Dev) (n : Nat) : Dev :=
  let l := d.lp n
  if l.mode = .halt then (d.setLp n { l with mode := .run, stepping := true }).present else d

/-- LPn_CTL.FCLR (R173). -/
def Dev.lpClear (d : Dev) (n : Nat) : Dev :=
  let l := d.lp n
  if l.mode = .fault then
    ((((d.setReg (Reg.lpFault n) 0).setRb (Reg.lpCtl n) 1 true).setLp n { l with mode := .halt }).setDet 5).present
  else d

/-- A halt from the debug port (R172). -/
def Dev.lpDebugHalt (d : Dev) (n : Nat) : Dev := (d.setLp n { d.lp n with dbgHalt := true }).lpStop n

/-- The debug port releases its halt (R172). -/
def Dev.lpDebugRelease (d : Dev) (n : Nat) : Dev := (d.setLp n { d.lp n with dbgHalt := false }).lpGoOn n

/-- A write to LPn_PC (R172). -/
def Dev.lpPcWrite (d : Dev) (n : Nat) (v : Word) : Dev :=
  let l := d.lp n
  if l.halted then
    d.setLp n { l with pc := fld v 12 0, rep := none, wait := .none, irqWait := false, repFresh := false }
  else d

/-- A write to LPn_CTL by its bits (R171 to R173). -/
def Dev.lpCtlWrite (d : Dev) (n : Nat) (v : Word) : Dev :=
  let d1 := if bit v 3 then d.lpClear n else d
  let d2 := if bit v 0 then d1.lpRun n else d1.lpReset n
  let d3 := if bit v 1 then d2.lpHalt n else if bit v 3 ∧ (d.lp n).mode = .fault then d2 else d2.lpResume n
  if bit v 2 then d3.lpStep n else d3

/-- A write to IMEM through the LP's window (R170). -/
def Dev.imemWrite (d : Dev) (m n i : Nat) (v : Word) : Dev :=
  let l := d.lp n
  if l.mode = .reset ∨ l.mode = .fault ∨ l.halted then d.writeBytes (imemOf n) m (4 * i) (toBytes 4 v.toNat)
  else d.setRb (Reg.lpStat n) 22 true

end Sys2Proof.Machine
end

