-- ==== Sys2Proof/Machine/Blit.lean ====
section
/-! DEFINITION. The blit engine (R193 to R209): surfaces, the effective rectangle and its segments, the four operations,
faults, ring and register mode, and the checks of the block. -/

namespace Sys2Proof.Machine

/-- The device with the blit engine replaced. -/
def Dev.setBlit (d : Dev) (b : BlitSt) : Dev := { d with blit := b }

/-! ### Surfaces -/

/-- A surface (R193), in force or in the shadow set as `word` says. -/
structure Surface where
  valid : Bool
  fs    : Bool
  fmt   : Nat
  base  : Nat
  pitch : Nat
  w     : Nat
  h     : Nat
  deriving DecidableEq, Repr

/-- Surface k as the registers give it. -/
def surfaceOf (word : Nat → Word) (k : Nat) : Surface :=
  let c := word (Reg.blSurfCfg k)
  { valid := bit c 0, fs := bit c 1, fmt := fld c 4 2, base := (word (Reg.blSurfBase k)).toNat + fld c 9 8 * 2 ^ 32,
    pitch := fld (word (Reg.blSurfPitch k)) 15 0, w := fld (word (Reg.blSurfSize k)) 13 0,
    h := fld (word (Reg.blSurfSize k)) 29 16 }

/-- Bytes of a pixel of a format (Table — Blit formats). -/
def blitBytes (fmt : Nat) : Nat := [1, 2, 3, 4, 4].getD fmt 1

/-- Bytes that W pixels of a row take. -/
def rowBytes (fmt w : Nat) : Nat := if fmt = 5 then ceilDiv w 8 else w * blitBytes fmt

/-- The memory a surface lies in, as Table — Memory codes numbers it. -/
def Surface.mem (s : Surface) : Nat := if s.fs then 6 else 0

/-- The byte at which pixel (x, y) starts (R193). -/
def Surface.at (s : Surface) (x y : Nat) : Nat :=
  s.base + y * s.pitch + (if s.fmt = 5 then x / 8 else x * blitBytes s.fmt)

/-- Two surfaces are the same (R204). -/
def Surface.same (a b : Surface) : Bool := decide (a.fs = b.fs) && decide (a.base = b.base) && decide (a.pitch = b.pitch)

/-- The check of a surface of the shadow set, in table order (R194, R209). -/
def Dev.surfaceCheck (d : Dev) (k : Nat) : Nat :=
  let s := surfaceOf d.reg k
  let align := if s.fmt = 1 then 2 else if 2 ≤ s.fmt ∧ s.fmt ≤ 4 then 4 else 1
  let size := (s.h - 1) * s.pitch + rowBytes s.fmt s.w
  if !s.valid then 0
  else if s.fmt ≤ 5 ∧ (s.pitch < rowBytes s.fmt s.w ∨ s.pitch = 0 ∨ (s.fmt < 5 ∧ s.pitch % 16 ≠ 0)) then 1
  else if s.base % align ≠ 0 then 2
  else if s.fmt ≤ 5 ∧ (if s.fs then frameBytes else d.dataCap) < s.base + size then 3
  else if 6 ≤ s.fmt ∨ s.w = 0 ∨ s.h = 0 ∨ 8192 < s.w ∨ 8192 < s.h then 0x40
  else 0

/-- Clip rectangle k: X0, X1, Y0, Y1 (R195). -/
def clipOf (word : Nat → Word) (k : Nat) : Nat × Nat × Nat × Nat :=
  let x := word (Reg.blClipX k)
  let y := word (Reg.blClipY k)
  (fld x 15 0, fld x 31 16, fld y 15 0, fld y 31 16)

/-- A clip rectangle is malformed. -/
def clipBad (c : Nat × Nat × Nat × Nat) : Bool := decide (c.2.1 < c.1) || decide (c.2.2.2 < c.2.2.1)

/-- The block's check over the shadow set (R209): the mode, the surfaces, the clip rectangles. -/
def Dev.blCheck (d : Dev) : Nat × Nat :=
  if d.rb Reg.blCtl 0 && (d.rb Reg.blCfg 0 != d.lb Reg.blCfg 0) then (0x46, 0)
  else
    match (List.range 16).find? (fun k => d.surfaceCheck k ≠ 0) with
    | some k => (d.surfaceCheck k, k)
    | none =>
      match (List.range 16).find? (fun k => clipBad (clipOf d.reg k)) with
      | some k => (5, k)
      | none => (0, 0)

/-- The block's shadowed registers. -/
def blKeys : List Nat :=
  Reg.blCfg :: (List.range 16).flatMap (fun k =>
    [Reg.blClipX k, Reg.blClipY k, Reg.blSurfCfg k, Reg.blSurfBase k, Reg.blSurfPitch k, Reg.blSurfSize k])

/-- The commit point: the shadow set is checked as it stands and applied (R209, R420). -/
def Dev.blCommitAt (d : Dev) : Dev :=
  let r := d.blCheck
  let d1 := (d.setBlit { d.blit with commit := false }).report Reg.blChk 8 r
  if r.1 ≠ 0 then d1 else d1.apply blKeys

/-! ### A command -/

/-- The fields of a BLIT descriptor (Table — Blit descriptor payload). -/
def blitOf (w : Desc) : BlitCmd :=
  { op := dF w 16 2 0, bgt := dF w 16 3 3 == 1, src := dF w 16 11 8, dst := dF w 16 15 12, clipEn := dF w 16 19 16,
    clipIdx := dN w 20 2, sx := dN w 24 2, sy := dN w 26 2, dx := dN w 28 2, dy := dN w 30 2, w := dN w 32 2,
    h := dN w 34 2, cola := dN w 36 4, colb := dN w 40 4,
    bad := dF w 16 7 4 != 0 || dF w 16 31 20 != 0 || dN w 22 2 != 0 || dN w 44 20 != 0 }

/-- The command that the register set holds (R201). -/
def Dev.blitRegs (d : Dev) : BlitCmd :=
  { op := d.rf Reg.blRop 2 0, bgt := d.rb Reg.blRop 3, src := d.rf Reg.blRop 11 8, dst := d.rf Reg.blRop 15 12, clipEn := 0,
    clipIdx := 0, sx := d.rf Reg.blRsrc 15 0, sy := d.rf Reg.blRsrc 31 16, dx := d.rf Reg.blRdst 15 0,
    dy := d.rf Reg.blRdst 31 16, w := d.rf Reg.blRsize 15 0, h := d.rf Reg.blRsize 31 16,
    cola := (d.reg Reg.blRcola).toNat, colb := (d.reg Reg.blRcolb).toNat, bad := false }

/-- The operation uses its source surface (Table — Blit operations). -/
def BlitCmd.usesSrc (c : BlitCmd) : Bool := decide (c.op ≠ 1)

/-- The clip rectangles a command enables (R197). -/
def Dev.clipsOf (d : Dev) (c : BlitCmd) : List (Nat × Nat × Nat × Nat) :=
  ((List.range 4).filter (fun i => c.clipEn / 2 ^ i % 2 = 1)).map (fun i => clipOf d.inForce (c.clipIdx / 16 ^ i % 16))

/-- The refusal of a command at its start, 0 when it passes (R202). -/
def Dev.blitRefusal (d : Dev) (c : BlitCmd) : Nat :=
  let s := surfaceOf d.inForce c.src
  let t := surfaceOf d.inForce c.dst
  if c.bad || decide (4 ≤ c.op) then 0x40
  else if !t.valid || (c.usesSrc && !s.valid) || (d.clipsOf c).any clipBad then 0x12
  else if ((c.op = 0 || c.op = 2) && decide (s.fmt ≠ t.fmt)) || (c.op = 3 && decide (s.fmt ≠ 5)) || decide (t.fmt = 5) then 0x13
  else 0

/-- The effective rectangle: columns x0 up to x1 and rows y0 up to y1, the upper ends excluded (R197). -/
def Dev.blitRect (d : Dev) (c : BlitCmd) : Nat × Nat × Nat × Nat :=
  let s := surfaceOf d.inForce c.src
  let t := surfaceOf d.inForce c.dst
  let x1 := min (c.dx + c.w) t.w
  let y1 := min (c.dy + c.h) t.h
  (c.dx, if c.usesSrc then min x1 (c.dx + (s.w - c.sx)) else x1, c.dy, if c.usesSrc then min y1 (c.dy + (s.h - c.sy)) else y1)

/-- The command writes nothing, whatever the memories hold (R198). -/
def Dev.blitEmpty (d : Dev) (c : BlitCmd) : Bool :=
  let (x0, x1, y0, y1) := d.blitRect c
  let cs := d.clipsOf c
  decide (x1 ≤ x0) || decide (y1 ≤ y0) ||
  (!cs.isEmpty && cs.all (fun k => decide (k.2.1 < x0) || decide (x1 ≤ k.1) || decide (k.2.2.2 < y0) || decide (y1 ≤ k.2.2.1)))

/-- Rows run downward and columns run downward (Table — Overlap directions). -/
def Dev.blitOrder (d : Dev) (c : BlitCmd) : Bool × Bool :=
  if c.usesSrc && (surfaceOf d.inForce c.src).same (surfaceOf d.inForce c.dst) then
    (decide (c.sy < c.dy), decide (c.sx < c.dx))
  else (false, false)

/-- Segments of a row. -/
def segsPerRow (x0 x1 : Nat) : Nat := ceilDiv (x1 - x0) 64

/-- Segments of a command. -/
def Dev.blitSegs (d : Dev) (c : BlitCmd) : Nat :=
  let (x0, x1, y0, y1) := d.blitRect c
  segsPerRow x0 x1 * (y1 - y0)

/-- Segment i of a command in its order: its row, its first column and its number of pixels (R203, R204). -/
def Dev.blitSeg (d : Dev) (c : BlitCmd) (i : Nat) : Nat × Nat × Nat :=
  let (x0, x1, y0, y1) := d.blitRect c
  let n := segsPerRow x0 x1
  let (rd, cd) := d.blitOrder c
  let y := if rd then y1 - 1 - i / n else y0 + i / n
  let k := i % n
  if cd then
    let e := x1 - 64 * k
    let b := max x0 (e - 64)
    (y, b, e - b)
  else (y, x0 + 64 * k, min 64 (x1 - (x0 + 64 * k)))

/-- The pixel may be written as far as the clip rectangles say (R197). -/
def clipPasses (cs : List (Nat × Nat × Nat × Nat)) (x y : Nat) : Bool :=
  cs.isEmpty || cs.any (fun k => decide (k.1 ≤ x) && decide (x ≤ k.2.1) && decide (k.2.2.1 ≤ y) && decide (y ≤ k.2.2.2))

/-- The value an operation writes over a destination pixel of n bytes given the source pixel, or none (R196). -/
def blitPixel (c : BlitCmd) (fmt s : Nat) : Option Nat :=
  let m := 2 ^ (8 * blitBytes fmt)
  let col (v : Nat) : Nat := if fmt = 3 then v % 16777216 else v % m
  if c.op = 0 then some s
  else if c.op = 1 then some (col c.cola)
  else if c.op = 2 then (if (s % m) &&& (c.colb % m) = (c.cola % m) &&& (c.colb % m) then none else some s)
  else if s = 1 then some (col c.cola)
  else if c.bgt then none
  else some (col c.colb)

/-- The source pixel (x, y): its raw value, or its bit for the 1-bit format. -/
def Dev.sourcePixel (d : Dev) (s : Surface) (x y : Nat) : Nat :=
  if s.fmt = 5 then d.peekN s.mem (s.at x y) 1 / 2 ^ (7 - x % 8) % 2 else d.peekN s.mem (s.at x y) (blitBytes s.fmt)

/-- The source bytes of a segment: the first and how many (R203). -/
def BlitCmd.sourceSpan (c : BlitCmd) (s : Surface) (y x n : Nat) : Nat × Nat :=
  let sx := x - c.dx + c.sx
  let sy := y - c.dy + c.sy
  let a := s.at sx sy
  let e := if s.fmt = 5 then s.at (sx + n - 1) sy + 1 else s.at (sx + n) sy
  (a, e - a)

/-- The first byte of a list that the table or the memory's end keeps master 7 from reading. -/
def Dev.firstUnread (d : Dev) (id : Nat) (offs : List Nat) : Option Nat := offs.find? (fun a => !d.mayTouch 7 id a 1 false)

/-- The first byte of a list that master 7 may not write; in a word that the write (`has`) covers in part it must be read too
(R410). -/
def Dev.firstUnwritten (d : Dev) (id : Nat) (has : Nat → Bool) (offs : List Nat) : Option Nat :=
  let wb := wordBytes id
  offs.find? (fun a => !d.mayTouch 7 id a 1 true ||
    (!((List.range wb).all (fun i => has (a / wb * wb + i))) && !d.mayTouch 7 id a 1 false))

/-- A frame-store byte lies in the region of an enabled port (R205). -/
def Dev.inRegion (d : Dev) (a : Nat) : Bool :=
  (List.range 3).any (fun x => d.soEn x && (let r := regionOf d.inForce x; decide (r.1 ≤ a) && decide (a < r.1 + r.2)))

/-- Bytes at chosen places are written as master m, word by word in rising order; words with none are not touched. -/
def Dev.writeSome (d : Dev) (id m off len : Nat) (new : Nat → Option Byte) : Dev :=
  if len = 0 then d else
  (wordsOf id off len).foldl (fun d a =>
    let f := fun i => new (a + i - memBase id)
    if (List.range (wordBytes id)).any (fun i => (f i).isSome) then d.mergeWord id m a f else d) d

/-! ### Ending a command -/

/-- A command ends (R200, R201, R206): the completion is ready or BL_RSTAT tells the result, and event 96 or 97 follows.
A commit that waits reaches its commit point (R209). -/
def Dev.blitEnd (d : Dev) (from' : Option (Nat × Nat × Desc)) (reason row : Nat) : Dev :=
  let res := b2n (decide (reason ≠ 0))
  let w := BitVec.ofNat 32 (res + reason * 256 + row * 65536)
  let d1 := (d.setBlit { d.blit with run := none }).setRb Reg.blStat 0 false
  let d2 :=
    match from' with
    | some (r, id, ds) => d1.complete r id (compOf ds w 0 0)
    | none => d1.setReg Reg.blRstat (BitVec.ofNat 32 (2 + res * 4 + reason * 256 + row * 65536) ||| (d1.reg Reg.blRstat &&& 8))
  let d3 := if res = 0 then d2 else d2.setRf Reg.blStat 31 16 (satInc (d2.rf Reg.blStat 31 16) 65535)
  let d4 := d3.raise (96 + res)
  if d4.blit.commit then d4.blCommitAt else d4

/-- A fault of R205 to R207 ends the running command; BL_FAULT records it, and BL_FADDR the address there is. -/
def Dev.blitFault (d : Dev) (r : BlitRun) (reason row : Nat) (addr : Option (Bool × Nat)) : Dev :=
  let d1 := d.setReg Reg.blFault (BitVec.ofNat 32 (reason + row * 65536))
  let d2 := match addr with
    | some (fs, a) => (d1.setReg Reg.blFaddrLo (BitVec.ofNat 32 a)).setReg Reg.blFaddrHi
        (BitVec.ofNat 32 (a / 2 ^ 32 % 4 + b2n fs * 256))
    | none => d1
  d2.blitEnd r.from' reason row

/-- One segment: its source is read whole, then its destination bytes are written, or it ends the command (R203, R205,
R206). -/
def Dev.blitRunSeg (d : Dev) (r : BlitRun) : Dev :=
  let c := r.cmd
  let s := surfaceOf d.inForce c.src
  let t := surfaceOf d.inForce c.dst
  let (y, x, n) := d.blitSeg c r.done
  let nb := blitBytes t.fmt
  let (sa, sn) := if c.usesSrc then c.sourceSpan s y x n else (0, 0)
  match d.firstUnread s.mem (rangeFrom sa sn) with
  | some a => (d.violate 7 0 (memTarget s.mem) false a).blitFault r 0x16 y (some (s.fs, a))
  | none =>
    let d1 := d.noteReads s.mem 7 sa sn
    match (rangeFrom sa sn).find? (fun a => d.badAt s.mem a 1) with
    | some a => d1.blitFault r 0x17 y (some (s.fs, a))
    | none =>
      let px (i : Nat) : Option Nat :=
        if clipPasses (d.clipsOf c) (x + i) y then
          blitPixel c t.fmt (if c.usesSrc then d.sourcePixel s (x + i - c.dx + c.sx) (y - c.dy + c.sy) else 0)
        else none
      let da := t.at x y
      let new (a : Nat) : Option Byte :=
        if da ≤ a ∧ a < da + nb * n then (px ((a - da) / nb)).map (fun v => BitVec.ofNat 8 (v / 2 ^ (8 * ((a - da) % nb)))) else none
      let offs := (rangeFrom da (nb * n)).filter (fun a => (new a).isSome)
      match (if t.fs then offs.find? d1.inRegion else none) with
      | some a => d1.blitFault r 0x15 y (some (t.fs, a))
      | none =>
        match d1.firstUnwritten t.mem (fun a => (new a).isSome) offs with
        | some a => (d1.violate 7 0 (memTarget t.mem) true a).blitFault r 0x16 y (some (t.fs, a))
        | none =>
          let d2 := d1.writeSome t.mem 7 da (nb * n) new
          d2.setBlit { d2.blit with run := some { r with done := r.done + 1 } }

/-- The running command waits for LPDDR5 (R273). -/
def Dev.blitWaits (d : Dev) (c : BlitCmd) : Bool :=
  !d.memReady && (!(surfaceOf d.inForce c.dst).fs || (c.usesSrc && !(surfaceOf d.inForce c.src).fs))

/-- Up to k segments of the running command. -/
def Dev.blitRuns : Nat → Dev → Dev
  | 0, d => d
  | k + 1, d =>
    match d.blit.run with
    | some r => if d.blitSegs r.cmd ≤ r.done || d.blitWaits r.cmd then d else Dev.blitRuns k (d.blitRunSeg r)
    | none => d

/-- The engine takes up a command (R198, R202): refused, empty, or running its first segments. -/
def Dev.blitTake (d : Dev) (from' : Option (Nat × Nat × Desc)) (c : BlitCmd) (segs : Nat) : Dev :=
  let ref := d.blitRefusal c
  if ref ≠ 0 then d.blitEnd from' ref 0
  else if d.blitEmpty c then d.blitEnd from' 0 0
  else ((d.setBlit { d.blit with run := some ⟨from', c, 0⟩ }).setRb Reg.blStat 0 true).blitRuns segs

/-- The ring whose command is next in turn (R200). -/
def Dev.blitTurn (d : Dev) : Option Nat :=
  ((List.range 68).map (fun i => (d.blit.last + 1 + i) % 68)).find? (fun r => (d.front r [0x10]).isSome)

/-- The engine may begin a command: enabled, granted its start, and idle (R200, R209, R426). -/
def Dev.blitIdle (d : Dev) : Bool := d.rb Reg.blCtl 0 && d.laddered ladBlit && d.blit.run.isNone

/-- A BLIT row: the command next in turn of ring q, or the register command, if its operation is op or a reserved one,
begins and runs its first segs segments (R199 to R203). -/
def Dev.blitBegin (d : Dev) (op : Nat) (q : Option Nat) (segs : Nat) : Dev :=
  if !d.blitIdle then d
  else
    match q with
    | some r =>
      match d.front r [0x10] with
      | some (id, w) =>
        let c := blitOf w
        if d.blitTurn ≠ some r ∨ (c.op ≠ op ∧ c.op < 4) then d
        else
          let d1 := (d.takePassed r 1).setBlit { d.blit with last := r }
          if d.lb Reg.blCfg 0 then d1.blitEnd (some (r, id, w)) 0x10 0 else d1.blitTake (some (r, id, w)) c segs
      | none => d
    | none =>
      match d.blit.go with
      | some c =>
        if c.op ≠ op ∧ c.op < 4 then d else (d.setBlit { d.blit with go := none }).blitTake none c segs
      | none => d

/-- BLIT_COMPLETE (R200): the running command's remaining segments, and its end. -/
def Dev.blitComplete (d : Dev) : Dev :=
  match d.blit.run with
  | none => d
  | some r =>
    let d1 := Dev.blitRuns (d.blitSegs r.cmd - r.done) d
    match d1.blit.run with
    | some r1 => if d1.blitSegs r1.cmd ≤ r1.done then d1.blitEnd r1.from' 0 0 else d1
    | none => d1

/-- A write of BL_GO.GO = 1 (R199, R201). -/
def Dev.blitGo (d : Dev) : Dev :=
  if !d.lb Reg.blCfg 0 then d.refuse Reg.blChk (chkWord 0x11 8 0)
  else if d.rb Reg.blRstat 0 then d.setRb Reg.blRstat 3 true
  else if !d.rb Reg.blCtl 0 then d
  else (d.setRb Reg.blRstat 0 true).setBlit { d.blit with go := some d.blitRegs }

/-- BL_CTL.EN is set (R209). -/
def Dev.blEnable (d : Dev) : Dev :=
  if d.rb Reg.blCtl 0 then d
  else
    let r := d.blCheck
    let d1 := d.report Reg.blChk 8 r
    if r.1 ≠ 0 then d1
    else (((d1.setRb Reg.blCtl 0 true).setRf Reg.blStat 31 16 0).apply blKeys).ask ladBlit

/-- BL_CTL.EN is cleared (R207, R421): a running command ends after the segment it is in. -/
def Dev.blDisable (d : Dev) : Dev :=
  if !d.rb Reg.blCtl 0 then d
  else
    let d1 := ((d.setRb Reg.blCtl 0 false).unask ladBlit).setBlit { d.blit with commit := false }
    match d1.blit.run with
    | some r => d1.blitFault r 0x19 (d1.blitSeg r.cmd (r.done - 1)).1 none
    | none => d1

/-- BL_COMMIT.GO (R209, R420, R421): at once when the engine is idle, else when the command in progress ends. -/
def Dev.blGo (d : Dev) : Dev :=
  if !d.rb Reg.blCtl 0 then d
  else if d.blit.run.isNone then d.blCommitAt
  else
    let r := d.blCheck
    let d1 := d.report Reg.blChk 8 r
    if r.1 ≠ 0 then d1 else d1.setBlit { d1.blit with commit := true }

/-- A fabric timeout of the running command (R41, R206); the address is the source's, or a fill's destination's. -/
def Dev.blitTimeout (d : Dev) : Dev :=
  match d.blit.run with
  | some r =>
    let s := surfaceOf d.inForce r.cmd.src
    let t := surfaceOf d.inForce r.cmd.dst
    let (y, x, n) := d.blitSeg r.cmd (min r.done (d.blitSegs r.cmd - 1))
    let a := if r.cmd.usesSrc then (s.fs, (r.cmd.sourceSpan s y x n).1) else (t.fs, t.at x y)
    (d.raise 2).blitFault r 0x18 y (some a)
  | none => d

end Sys2Proof.Machine
end

