-- ==== Sys2Proof/Machine/Mix.lean ====
section
/-! DEFINITION. The mix engine (R225 to R235): page images and their checks, microwords, the run of a program for a sample,
delay lines, biquad sections, swaps and crossfades. -/

namespace Sys2Proof.Machine

/-! ### Numbers -/

/-- Clamp to a signed number of that many bits. -/
def satTo (bits : Nat) (z : Int) : Int :=
  if z < -(2 ^ (bits - 1) : Int) then -(2 ^ (bits - 1) : Int) else if 2 ^ (bits - 1) ≤ z then 2 ^ (bits - 1) - 1 else z

/-- sat24 and sat48 (R221, R228). -/
def sat24 (z : Int) : Int := satTo 24 z
def sat48 (z : Int) : Int := satTo 48 z

/-- The arithmetic shift right. -/
def asr (z : Int) (k : Nat) : Int := z / (2 ^ k : Nat)

/-- rnd before its saturation (R228). -/
def rndRaw (z : Int) : Int := asr (z + 4194304) 23

/-- A gain's value at the sample counted last (R222), the old gain before the change's first sample; / truncates toward zero. -/
def Ramp.val (g : Ramp) : Int :=
  if g.k = 0 then g.g0 else if g.r ≤ g.k then g.g1 else g.g0 + Int.tdiv ((g.g1 - g.g0) * g.k) g.r

/-- A gain moves to the next sample. -/
def Ramp.step (g : Ramp) : Ramp := { g with k := min (g.k + 1) (max g.r 1) }

/-- A gain change to g1 over n samples, from the gain in force (R222). -/
def Ramp.change (g : Ramp) (g1 : Int) (n : Nat) : Ramp := ⟨g.val, g1, 0, n⟩

/-- A gain at rest at 0. -/
def Ramp.zero : Ramp := ⟨0, 0, 0, 0⟩

/-! ### The audio block's structures -/

/-- A voice that is not active. -/
def VoiceSt.init : VoiceSt :=
  { on := false, fmt := 0, st := false, loop := false, herm := false, addr := 0, len := 0, loops := 0, loope := 0, pitch := 0,
    pos := 0, gl := Ramp.zero, gr := Ramp.zero, stop := none, outL := 0, outR := 0, prevL := 0, prevR := 0 }

/-- A biquad section after audio enable: b0 is 1.0, all else 0 (R235). -/
def sectionInit : List Int := [1073741824, 0, 0, 0, 0, 0, 0, 0, 0]

/-- The device with the audio block replaced. -/
def Dev.setAu (d : Dev) (a : AudioSt) : Dev := { d with au := a }

/-- Voice v. -/
def Dev.voice (d : Dev) (v : Nat) : VoiceSt := Tab.get (fun _ => VoiceSt.init) d.au.voices v
/-- The device with voice v replaced. -/
def Dev.setVoice (d : Dev) (v : Nat) (q : VoiceSt) : Dev :=
  d.setAu { d.au with voices := Tab.put (fun _ => VoiceSt.init) d.au.voices v q }

/-- A late record (AU_LATE, R224, R232, R214): what was late, the cause, and one more occurrence. -/
def Dev.auLate (d : Dev) (idx cause : Nat) : Dev :=
  d.setReg Reg.auLate (BitVec.ofNat 32 (idx % 256 + cause * 256 + satInc (d.rf Reg.auLate 31 24) 255 * 16777216))

/-- The completion of an audio command (Table — Audio completion fields). -/
def auComp (w : Desc) (reason sample : Nat) : Comp :=
  compOf w (BitVec.ofNat 32 (b2n (decide (reason ≠ 0)) + reason * 256)) (BitVec.ofNat 32 sample) (BitVec.ofNat 32 (sample / 2 ^ 32))

/-- An input sample's slot, 0 where the input carries none (R237). -/
def Dev.inSample (d : Dev) (m slot : Nat) : Int :=
  match (Tab.get (fun _ => []) d.au.now m)[slot]? with | some s => s.toInt | none => 0

/-! ### Pages -/

/-- Word k of the page that the microcode store holds as page i. -/
def Dev.pageWord (d : Dev) (i k : Nat) : Nat := d.peekN (15 + i) (4 * k) 4

/-- A page is valid (MX_STAT.VALID). -/
def Dev.pageValid (d : Dev) (i : Nat) : Bool := d.rb Reg.mxStat (2 + i)

/-- The active page, if any (MX_STAT). -/
def Dev.activePage (d : Dev) : Option Nat := if d.rb Reg.mxStat 1 then some (d.rf Reg.mxStat 0 0) else none

/-- What page i's header gave at its load. -/
def Dev.pageInfo (d : Dev) (i : Nat) : PageInfo := Tab.get (fun _ => ⟨0, 0, 0, 0⟩) d.au.pages i

/-- MX_LIMIT for the rate in force (Table — Per-sample budget). -/
def Dev.mxLimit (d : Dev) : Nat := [5497, 5051, 2748, 2525].getD (d.lf Reg.auClk 2 1) 0

/-- A microword's opcode, and whether it is WAIT TICK (Table — Microwords). -/
def mOp (w : Nat) : Nat := w / 67108864
def mTick (w : Nat) : Bool := decide (mOp w = 1) && decide (bitsOf w 25 24 = 0)

/-- A source number is not reserved (Table — Sources). -/
def srcOk (s : Nat) : Bool := decide (s < 0x390)

/-- A microword of a page of nw words is well formed (Table — Microwords, check 5 of R226). -/
def microOk (nw w : Nat) : Bool :=
  let s := srcOk (bitsOf w 23 14)
  let k := decide (bitsOf w 13 0 < nw)
  match mOp w with
  | 0x0 => bitsOf w 25 0 == 0
  | 0x1 => bitsOf w 23 3 == 0
  | 0x2 => bitsOf w 23 0 == 0
  | 0x3 => s && bitsOf w 13 0 == 0
  | 0x4 => s && bitsOf w 13 0 == 0
  | 0x5 => s && k
  | 0x6 => s && k
  | 0x7 => s && bitsOf w 13 8 == 0
  | 0x8 => s && srcOk (bitsOf w 13 4) && bitsOf w 3 0 == 0
  | 0x9 => bitsOf w 23 8 == 0
  | 0xA => bitsOf w 23 6 == 0 && decide (bitsOf w 5 0 < 48)
  | 0xB => s && bitsOf w 25 24 == 0 && bitsOf w 13 7 == 0
  | 0xC => s && bitsOf w 25 24 == 0 && bitsOf w 13 6 == 0
  | 0xD => bitsOf w 23 20 == 0 && k
  | _ => false

/-- The cycle at which a microword issued at cycle c lets the next one issue, with the cycle of the last BQ (R229). -/
def microEnd (c : Nat) (last : Option Nat) (w : Nat) : Nat :=
  if mOp w ≠ 1 then c + 1
  else
    match bitsOf w 25 24 with
    | 1 => max (c + 1) 8
    | 2 => max (c + 1) (match last with | some t => t + 12 | none => 0)
    | 3 => max (c + 1) (128 * (bitsOf w 2 0 + 1))
    | _ => c

/-- The static count of a program: the cycle at which its WAIT TICK issues (R229). -/
def staticCount (code : List Nat) : Nat :=
  (code.foldl (fun (a : Nat × Option Nat) w => (microEnd a.1 a.2 w, if mOp w = 0xB then some a.1 else a.2)) (0, none)).1

/-- The bits that the microwords of one opcode name in the field hi to lo. -/
def usedMask (code : List Nat) (op hi lo : Nat) : Nat :=
  code.foldl (fun m w => if mOp w = op then m ||| 2 ^ bitsOf w hi lo else m) 0

/-- CRC-64 of ECMA-182, a byte at a time (R225). -/
def crc64Byte (c : BitVec 64) (b : Byte) : BitVec 64 :=
  (List.range 8).foldl (fun c _ => if c.getLsbD 63 then (c <<< 1) ^^^ 0x42F0E1EBA9EA3693#64 else c <<< 1)
    (c ^^^ (b.zeroExtend 64 <<< 56))

/-- The signature that an image of nw words has (R225). -/
def imageSig (img : Nat → Nat) (nw : Nat) : Nat :=
  ((List.range 14 ++ rangeFrom 16 (nw - 16)).foldl (fun c k => (toBytes 4 (img k)).foldl crc64Byte c) (0 : BitVec 64)).toNat

/-- Length of delay line l in words, and its first byte (R232). -/
def Dev.dlyLen (d : Dev) (l : Nat) : Nat := d.rf (Reg.mxDlylen l) 23 0
def Dev.dlyBase (d : Dev) (l : Nat) : Nat := 64 * d.rf (Reg.mxDlybase l) 27 0

/-- Check 6 of R226 over an image: the page word of the first failure. -/
def Dev.tapFailure (d : Dev) (img : Nat → Nat) (ncode dw dr : Nat) : Option Nat :=
  let tapBad (i : Nat) : Bool :=
    let w := img (16 + i)
    let t := img (bitsOf w 13 0) % 16777216
    decide (mOp w = 0xD) && (decide (t < 2) || decide (d.dlyLen (bitsOf w 19 14) < t))
  match (List.range ncode).find? tapBad with
  | some i => some (16 + i)
  | none =>
    match (List.range 64).find? (fun l => decide (dw / 2 ^ l % 2 = 1) && decide (d.dlyLen l = 0)) with
    | some l => some (8 + l / 32)
    | none =>
      match (List.range 64).find? (fun l => decide ((dw ||| dr) / 2 ^ l % 2 = 1) && decide (d.dataCap < d.dlyBase l + 4 * d.dlyLen l)) with
      | some l => some (if dw / 2 ^ l % 2 = 1 then 8 + l / 32 else 10 + l / 32)
      | none => none

/-- Checks 3 to 9 of R226 over an image: the code and the page word. -/
def Dev.imageCheck (d : Dev) (img : Nat → Nat) : Nat × Nat :=
  let nw := bitsOf (img 1) 14 0
  let ncode := bitsOf (img 1) 30 16
  let bq := img 4 + img 5 * 2 ^ 32 + img 6 * 2 ^ 64 + img 7 * 2 ^ 96
  let dw := img 8 + img 9 * 2 ^ 32
  let dr := img 10 + img 11 * 2 ^ 32
  let code := (List.range ncode).map (fun i => img (16 + i))
  if img 0 ≠ 0x14D58 ∨ nw < 17 ∨ 16384 < nw ∨ ncode = 0 ∨ nw < ncode + 16 ∨ bitsOf (img 1) 15 15 ≠ 0 ∨ bitsOf (img 1) 31 31 ≠ 0 ∨
    bitsOf (img 2) 15 14 ≠ 0 ∨ bitsOf (img 2) 31 18 ≠ 0 ∨ img 3 ≠ 0 ∨ img 12 ≠ 0 ∨ img 13 ≠ 0 then (0x40, 0)
  else if img 14 + img 15 * 2 ^ 32 ≠ imageSig img nw then (0x47, 0)
  else
    match (List.range ncode).find? (fun i => !microOk nw (img (16 + i)) || (mTick (img (16 + i)) != decide (i + 1 = ncode))) with
    | some i => (3, 16 + i)
    | none =>
      match d.tapFailure img ncode dw dr with
      | some k => (7, k)
      | none =>
        if bq ≠ usedMask code 0xB 6 0 ∨ dw ≠ usedMask code 0xC 5 0 ∨ dr ≠ usedMask code 0xD 19 14 then (0x41, 0)
        else if bitsOf (img 2) 17 16 ≠ d.lf Reg.auClk 2 1 then (0x0D, 0)
        else if bitsOf (img 2) 13 0 ≠ staticCount code then (0x41, 0)
        else if d.mxLimit < bitsOf (img 2) 13 0 then (0x42, 0)
        else (0, 0)

/-- A page load or swap is refused (R226, R234, R241). -/
def Dev.mixRefuse (d : Dev) (r : Nat × Nat) : Dev := (d.refuse Reg.mxChk (chkWord r.1 8 r.2)).raise 194

/-- The number of the sample in progress: the last tick's. -/
def Dev.sampleNow (d : Dev) : Nat := d.au.cnt - 1

/-- A load of page i is refused: it is completed, and the page is not valid unless it is a page in force (R226, R230). -/
def Dev.loadRefuse (d : Dev) (ring id : Nat) (w : Desc) (i : Nat) (r : Nat × Nat) (keep : Bool) : Dev :=
  ((if keep then d else d.setRb Reg.mxStat (2 + i) false).mixRefuse r).complete ring id (auComp w r.1 d.sampleNow)

/-- PLOAD's page and image address, and its reserved bytes (Table — Audio command payloads). -/
def ploadPage (w : Desc) : Nat := dN w 16 1
def ploadAddr (w : Desc) : Nat := dN w 24 5 % 2 ^ 34
def ploadClean (w : Desc) : Bool :=
  decide (ploadPage w < 2) && dN w 17 7 == 0 && decide (dN w 24 5 < 2 ^ 34) && dN w 29 35 == 0

/-- PLOAD (R226): the load begins, or is refused by the checks that precede the reading of the image. -/
def Dev.pload (d : Dev) (r : Nat) : Dev :=
  match d.front r [0x35], d.au.load with
  | some (id, w), none =>
    if !d.memReady then d
    else
      let d1 := d.takePassed r 1
      let i := ploadPage w
      let a := ploadAddr w
      let n := if a + 8 ≤ d.dataCap then 4 * bitsOf (d.peekN 0 (a + 4) 4) 14 0 else 64
      let used := match d.activePage with | some p => decide (p = i) || d.au.xf.isSome | none => d.au.xf.isSome
      if !ploadClean w then d1.loadRefuse r id w (i % 2) (0x40, 0) (i ≥ 2 || used)
      else if a % 4 ≠ 0 then d1.loadRefuse r id w i (0x0B, 0) used
      else if a < d.dataCap ∧ !d.permits 10 0 a (min (max n 64) (d.dataCap - a)) false then
        (d1.violate 10 0 0 false a).loadRefuse r id w i (0x44, 0) used
      else if d.dataCap < a + max n 64 then d1.loadRefuse r id w i (0x0B, 0) used
      else if used then d1.loadRefuse r id w i (0x46, 0) true
      else (d1.setRb Reg.mxStat (2 + i) false).setAu { d1.au with load := some (r, id, w) }
  | _, _ => d

/-- PAGE_LOAD_COMPLETE (R226): the image read stands in the page, checked, and valid when it passes. -/
def Dev.pageLoaded (d : Dev) : Dev :=
  match d.au.load with
  | none => d
  | some (r, id, w) =>
    let i := ploadPage w
    let a := ploadAddr w
    let img (k : Nat) : Nat := d.peekN 0 (a + 4 * k) 4
    let nw := min (bitsOf (img 1) 14 0) 16384
    let d1 := (d.setAu { d.au with load := none }).noteReads 0 10 a (4 * nw)
    let c := d.imageCheck img
    if c.1 ≠ 0 then d1.loadRefuse r id w i c false
    else
      let d2 := d1.writeBytes (15 + i) 10 0 ((List.range nw).flatMap (fun k => toBytes 4 (img k)))
      let info : PageInfo := ⟨bitsOf (img 1) 30 16, img 4 + img 5 * 2 ^ 32 + img 6 * 2 ^ 64 + img 7 * 2 ^ 96,
        img 8 + img 9 * 2 ^ 32, img 10 + img 11 * 2 ^ 32⟩
      let d3 := d2.setAu { d2.au with pages := Tab.put (fun _ => ⟨0, 0, 0, 0⟩) d2.au.pages i info }
      (((d3.setReg (Reg.mxPage i) (BitVec.ofNat 32 (bitsOf (img 2) 13 0 + nw * 32768 + bitsOf (img 2) 17 16 * 2 ^ 30))).setRb
        Reg.mxStat (2 + i) true)).complete r id (auComp w 0 d.sampleNow)

/-! ### Swaps -/

/-- A crossfade whose last sample has run is over: the old page retires and event 193 is raised (R234). -/
def Dev.xfSettle (d : Dev) : Dev :=
  match d.au.xf with
  | some f =>
    if f.j < f.x then d
    else
      let d1 := (d.setAu { d.au with xf := none }).setRb Reg.mxStat 4 false
      (match f.old with | some p => d1.setRb Reg.mxStat (2 + p) false | none => d1).raise 193
  | none => d

/-- The page that a swap makes the new one: the page that is not active; the lower valid one while none is (R234). -/
def Dev.swapPage (d : Dev) : Nat :=
  match d.activePage with
  | some p => 1 - p
  | none => if d.pageValid 0 then 0 else 1

/-- The checks of a swap (R234). -/
def Dev.swapCheck (d : Dev) (x : Nat) : Nat × Nat :=
  let i := d.swapPage
  let new := d.pageInfo i
  let (oldCount, oldBq, oldDw) := match d.activePage with
    | some p => (d.rf (Reg.mxPage p) 13 0, (d.pageInfo p).bq, (d.pageInfo p).dw)
    | none => (0, 0, 0)
  if !d.pageValid i then (8, 0)
  else if d.au.xf.isSome then (0x46, 0)
  else
    match d.tapFailure (d.pageWord i) new.ncode new.dw new.dr with
    | some k => (7, k)
    | none =>
      if x ≠ 0 ∧ d.mxLimit < oldCount + d.rf (Reg.mxPage i) 13 0 then (0x42, 0)
      else if x ≠ 0 ∧ (oldBq &&& new.bq ≠ 0 ∨ oldDw &&& new.dw ≠ 0) then (0x46, 0)
      else (0, 0)

/-- A page takes force: its accumulators and work registers are 0 (R228). -/
def Dev.pageForce (d : Dev) (i : Nat) : Dev :=
  let d1 := d.setAu { d.au with wreg := d.au.wreg.filter (fun e => e.1 / 512 ≠ i) }
  (d1.setRf Reg.mxStat 0 0 i).setRb Reg.mxStat 1 true

/-- PSWAP at its tick (R234): the new page takes force, with a crossfade when MX_XFADE is not 0, or the reason. -/
def Dev.swap (d : Dev) (w : Desc) : Dev × Nat :=
  let x := min (d.rf Reg.mxXfade 12 0) 4096
  let c := if dN w 16 48 = 0 then d.swapCheck x else (0x40, 0)
  if c.1 ≠ 0 then (d.mixRefuse c, c.1)
  else
    let old := d.activePage
    let d1 := d.pageForce d.swapPage
    if x = 0 then
      ((match old with | some p => d1.setRb Reg.mxStat (2 + p) false | none => d1).raise 193, 0)
    else ((d1.setAu { d1.au with xf := some ⟨x, 0, old⟩ }).setRb Reg.mxStat 4 true, 0)

/-- Both pages retire (R241). -/
def Dev.mixRetire (d : Dev) : Dev := (d.setReg Reg.mxStat 0).setAu { d.au with retire := false, xf := none }

/-! ### A sample of a program -/

/-- A run of programs for one sample: the device, the cycle, the last BQ of the sample, the voice blocks waited for, the
channels written, the section outputs on their way with their cycles, and whether a word was uncorrectable or rnd
saturated. -/
structure MixRun where
  d      : Dev
  cyc    : Nat
  last   : Option Nat
  waited : List Nat
  outs   : Tab Int
  coming : List (Nat × Nat × Int)
  bad    : Bool
  sat    : Bool

/-- Register k of a page: accumulators 0-3, work registers from 4. -/
def MixRun.reg (r : MixRun) (page k : Nat) : Int := Tab.get (fun _ => 0) r.d.au.wreg (512 * page + k)
def MixRun.setReg (r : MixRun) (page k : Nat) (z : Int) : MixRun :=
  { r with d := r.d.setAu { r.d.au with wreg := Tab.put (fun _ => 0) r.d.au.wreg (512 * page + k) z } }

/-- The outputs of section s on their way become its output once 12 cycles have passed (R229). -/
def MixRun.secOut (r : MixRun) (s : Nat) : Int :=
  match (r.coming.filter (fun e => e.1 = s ∧ e.2.1 + 12 ≤ r.cyc)).getLast? with
  | some e => e.2.2
  | none => Tab.get (fun _ => 0) r.d.au.secOut s

/-- The value of a source (Table — Sources, R229). -/
def MixRun.src (r : MixRun) (page s : Nat) : Int :=
  if s < 0x100 then r.reg page (4 + s)
  else if s < 0x300 then
    let v := r.d.voice ((s - 0x100) / 2)
    let now := r.waited.contains ((s - 0x100) / 64)
    if s % 2 = 0 then (if now then v.outL else v.prevL) else (if now then v.outR else v.prevR)
  else if s < 0x310 then r.d.inSample ((s - 0x300) / 8) (s % 8)
  else r.secOut (s - 0x310)

/-- A word of the running page is read as master 10: its value, none where it is uncorrectable (R233, R276). -/
def MixRun.fetch (r : MixRun) (page k : Nat) : Option Nat × MixRun :=
  let id := 15 + page
  let a := memBase id + 4 * k
  match r.d.decodeWord a 4 with
  | .good v => (some v, r)
  | .corrected v b => (some v, { r with d := r.d.countCorrection id 10 a b })
  | .bad => (none, { r with d := r.d.logBad id 10 a, bad := true })

/-- A constant as a signed 2.30 value; 0 where it is uncorrectable. -/
def MixRun.const (r : MixRun) (page k : Nat) : Int × MixRun :=
  let f := r.fetch page k
  (match f.1 with | some v => signed 32 v | none => 0, f.2)

/-- A biquad section runs on x (R235): its output, its new coefficients and state, and whether y saturated. -/
def biquad (c : List Int) (x : Int) : Int × List Int × Bool :=
  let g (i : Nat) : Int := c.getD i 0
  let acc := sat48 (asr (g 0 * x) 7)
  let acc := sat48 (acc + asr (g 1 * g 5) 7)
  let acc := sat48 (acc + asr (g 2 * g 6) 7)
  let acc := sat48 (acc - asr (g 3 * g 7) 7)
  let acc := sat48 (acc - asr (g 4 * g 8) 7)
  let raw := rndRaw acc
  (sat24 raw, [g 0, g 1, g 2, g 3, g 4, x, g 5, sat24 raw, g 7], decide (sat24 raw ≠ raw))

/-- BQ s (R235): its output is on its way for 12 cycles. -/
def MixRun.section (r : MixRun) (page s srcNo : Nat) : MixRun :=
  let (y, c, sat) := biquad (Tab.get (fun _ => sectionInit) r.d.au.secs s) (r.src page srcNo)
  let d1 := r.d.setAu { r.d.au with secs := Tab.put (fun _ => sectionInit) r.d.au.secs s c }
  { r with d := d1.raiseIf sat 197, last := some r.cyc, coming := r.coming ++ [(s, r.cyc, y)] }

/-- A write to LPDDR5 by a block that goes on meanwhile: held while LPDDR5 is not ready (R273), or a violation where the
table or the capacity blocks it (R413). -/
def Dev.post32 (d : Dev) (m off : Nat) (v : Word) : Dev :=
  if !d.mayWrite m 0 off 4 then d.violate m 0 0 true off
  else if !d.memReady then d.hold ⟨m, off, some (v, 15)⟩
  else d.writeBytes 0 m off (toBytes 4 v.toNat)

/-- The action of a microword (Table — Microwords); `taps` gives the delay taps fetched for the sample. -/
def MixRun.act (r : MixRun) (page n i w : Nat) (taps : List ((Nat × Nat) × Int)) : MixRun :=
  let a := bitsOf w 25 24
  let s := r.src page (bitsOf w 23 14)
  let acc := r.reg page a
  match mOp w with
  | 0x1 => if a = 3 then { r with waited := r.waited ++ [bitsOf w 2 0] } else r
  | 0x2 => r.setReg page a 0
  | 0x3 => r.setReg page a (s * 8388608)
  | 0x4 => r.setReg page a (sat48 (acc + s * 8388608))
  | 0x5 => let (c, r1) := r.const page (bitsOf w 13 0); r1.setReg page a (sat48 (acc + asr (c * s) 7))
  | 0x6 => let (c, r1) := r.const page (bitsOf w 13 0); r1.setReg page a (sat48 (acc - asr (c * s) 7))
  | 0x7 =>
    let g := Ramp.val (Tab.get (fun _ => Ramp.zero) r.d.au.gains (bitsOf w 7 0))
    r.setReg page a (sat48 (acc + asr (g * s) 7))
  | 0x8 => r.setReg page a (sat48 (acc + s * r.src page (bitsOf w 13 4)))
  | 0x9 =>
    let z := rndRaw acc
    { r.setReg page (4 + bitsOf w 7 0) (sat24 z) with sat := r.sat || decide (sat24 z ≠ z) }
  | 0xA =>
    let z := rndRaw acc
    { r with outs := Tab.put (fun _ => 0) r.outs (bitsOf w 5 0) (sat24 z), sat := r.sat || decide (sat24 z ≠ z) }
  | 0xB => r.section page (bitsOf w 6 0) (bitsOf w 23 14)
  | 0xC =>
    let l := bitsOf w 5 0
    { r with d := r.d.post32 10 (r.d.dlyBase l + 4 * (n % r.d.dlyLen l)) (BitVec.ofInt 32 s) }
  | 0xD =>
    let v := match taps.find? (fun e => e.1 = (page, i)) with | some e => e.2 | none => 0
    r.setReg page a (v * 8388608)
  | _ => r

/-- Microword i of a page of ncode microwords runs (R229); one that is uncorrectable acts as NOP, the last as WAIT TICK
(R233). -/
def microStep (page n ncode : Nat) (taps : List ((Nat × Nat) × Int)) (r : MixRun) (i : Nat) : MixRun :=
  match r.fetch page (16 + i) with
  | (none, r1) => if i + 1 = ncode then r1 else { r1 with cyc := r1.cyc + 1 }
  | (some w, r1) => { r1.act page n i w taps with cyc := microEnd r.cyc r.last w }

/-- A page's program runs for sample n; a page that is not there is silence (R234). -/
def MixRun.program (r : MixRun) (page : Option Nat) (n : Nat) (taps : List ((Nat × Nat) × Int)) : MixRun :=
  match page with
  | none => { r with outs := [] }
  | some p =>
    let k := (r.d.pageInfo p).ncode
    (List.range k).foldl (microStep p n k taps) { r with outs := [], waited := [] }

/-- One delay tap of sample n is fetched as master 10 (R232): 0 where it is late, uncorrectable or blocked. -/
def Dev.tapFetch (d : Dev) (p n i : Nat) (late : Bool) : Option (((Nat × Nat) × Int)) × Dev :=
  let w := d.pageWord p (16 + i)
  if d.badAt (15 + p) (4 * (16 + i)) 4 ∨ mOp w ≠ 0xD then (none, d)
  else
    let l := bitsOf w 19 14
    let len := d.dlyLen l
    let off := d.dlyBase l + 4 * ((n + len - d.pageWord p (bitsOf w 13 0) % 16777216 % (len + 1)) % len)
    if late || !d.memReady then (some ((p, i), 0), (d.auLate l 2).raise 196)
    else if !d.mayTouch 10 0 off 4 false then (some ((p, i), 0), d.violate 10 0 0 false off)
    else
      let v : Int := if d.badAt 0 off 4 then 0 else signed 24 (d.peekN 0 off 4)
      (some ((p, i), v), d.noteReads 0 10 off 4)

/-- Every tap of sample n of a page. -/
def Dev.tapsOf (d : Dev) (p n : Nat) (late : List (Nat × Nat)) : List ((Nat × Nat) × Int) × Dev :=
  (List.range (d.pageInfo p).ncode).foldl (fun (a : List ((Nat × Nat) × Int) × Dev) i =>
    let t := a.2.tapFetch p n i (late.contains (p, i))
    (match t.1 with | some e => a.1 ++ [e] | none => a.1, t.2)) ([], d)

/-- The 48 channel values that a run's writes give (R228). -/
def channels (t : Tab Int) : List Int := (List.range 48).map (fun c => Tab.get (fun _ => 0) t c)

/-- The mix engine for sample n (R213, R229, R234): the graph's 48 channel values; 0 with no active page. -/
def Dev.mixSample (d : Dev) (n : Nat) (late : List (Nat × Nat)) : List Int × Dev :=
  match d.rb Reg.mxCtl 0 && d.laddered ladMix, d.activePage with
  | true, some p =>
    let old := match d.au.xf with | some f => f.old | none => none
    let (t0, d0) := match old with | some o => d.tapsOf o n late | none => ([], d)
    let (t1, d1) := d0.tapsOf p n late
    let r0 : MixRun := { d := d1, cyc := 0, last := none, waited := [], outs := [], coming := [], bad := false, sat := false }
    let ro := r0.program old n (t0 ++ t1)
    let rn := ro.program (some p) n (t0 ++ t1)
    let done := rn.coming.foldl (fun t e => Tab.put (fun _ => 0) t e.1 e.2.2) rn.d.au.secOut
    let d2 := ((rn.d.setAu { rn.d.au with secOut := done }).raiseIf rn.sat 197).raiseIf rn.bad 264
    match d2.au.xf with
    | none => (channels rn.outs, d2)
    | some f =>
      (((channels ro.outs).zip (channels rn.outs)).map (fun e => e.1 + Int.tdiv ((e.2 - e.1) * (f.j + 1)) f.x),
       d2.setAu { d2.au with xf := some { f with j := f.j + 1 } })
  | _, _ => ([], d)

/-! ### Registers -/

/-- A write to a delay line's base or length (R232): dropped while a valid page names the line. -/
def Dev.dlyWrite (d : Dev) (l : Nat) (len : Bool) (v : Word) : Dev :=
  let named (i : Nat) : Bool := d.pageValid i && decide (((d.pageInfo i).dw ||| (d.pageInfo i).dr) / 2 ^ l % 2 = 1)
  if named 0 || named 1 then d.refuse Reg.mxChk (chkWord 0x46 8 0)
  else d.codeWrite (if len then Reg.mxDlylen l else Reg.mxDlybase l) v

/-- MX_CTL.EN is set (R241). -/
def Dev.mxEnable (d : Dev) : Dev :=
  if d.rb Reg.mxCtl 0 then d
  else if !d.rb Reg.auCtl 0 then d.refuse Reg.mxChk (chkWord 0x45 8 0)
  else ((d.setReg Reg.mxChk 0).setRb Reg.mxCtl 0 true).ask ladMix

/-- MX_CTL.EN is cleared: both pages retire at the next tick (R241). -/
def Dev.mxDisable (d : Dev) : Dev :=
  if !d.rb Reg.mxCtl 0 then d
  else ((d.setRb Reg.mxCtl 0 false).unask ladMix).setAu { d.au with retire := true }

end Sys2Proof.Machine
end

