-- ==== Sys2Proof/Machine/Audio.lean ====
section
/-! DEFINITION. Audio (R210 to R224, R236 to R241): the command queue, the voices, serial inputs and outputs, the Culvert, the
sample tick, and the enables and commits of the block. -/

namespace Sys2Proof.Machine

/-! ### Voices -/

/-- Bytes of a container of a format, and of a frame (R218). -/
def voiceBytes (fmt : Nat) : Nat := 2 ^ fmt
def frameSize (fmt : Nat) (st : Bool) : Nat := voiceBytes fmt * (if st then 2 else 1)

/-- Frame index j of a voice after the loop mapping; none where the value is 0 (R219). -/
def VoiceSt.index (q : VoiceSt) (j : Int) : Option Nat :=
  if j < 0 then none
  else
    let k := j.toNat
    if q.loop && decide (q.loope ≤ k) then some (q.loops + (k - q.loops) % (q.loope - q.loops))
    else if k < q.len then some k
    else none

/-- A container's value as a signed 24-bit number (R218). -/
def pcm (fmt v : Nat) : Int := if fmt = 0 then signed 8 v * 65536 else if fmt = 1 then signed 16 v * 256 else signed 24 v

/-- Channel c of frame k of a voice: 0 where it is late, blocked or uncorrectable (R218, R224). -/
def Dev.frameVal (d : Dev) (q : VoiceSt) (c k : Nat) : Int :=
  let off := q.addr + k * frameSize q.fmt q.st + (if q.st then c * voiceBytes q.fmt else 0)
  let n := voiceBytes q.fmt
  if !d.mayTouch 9 0 off n false || d.badAt 0 off n then 0 else pcm q.fmt (d.peekN 0 off n)

/-- The frames a voice uses for a sample, relative to i: two for linear, four for Hermite (R220). -/
def VoiceSt.taps (q : VoiceSt) : List Nat := if q.herm then [0, 1, 2, 3] else [1, 2]

/-- Interpolation at fraction f between b and c with their neighbours a and d (R220). -/
def interpolate (herm : Bool) (f a b c d : Int) : Int :=
  if herm then
    let h1 := c - a
    let h2 := 2 * a - 5 * b + 4 * c - d
    let h3 := 3 * (b - c) + d - a
    let n := f * (h1 * 2 ^ 32 + f * (h2 * 2 ^ 16 + f * h3))
    sat24 (b + asr (n + 2 ^ 48) 49)
  else sat24 (b + asr ((c - b) * f + 32768) 16)

/-- A voice channel: the value times the gain (R221), and whether it saturated. -/
def voiceOut (y g : Int) : Int × Bool :=
  let z := asr (y * g + 16384) 15
  (sat24 z, decide (sat24 z ≠ z))

/-- The position after a sample (R219). -/
def VoiceSt.nextPos (q : VoiceSt) : Nat :=
  let p := q.pos + q.pitch
  let i := p / 65536
  if q.loop && decide (q.loope ≤ i) then (q.loops + (i - q.loops) % (q.loope - q.loops)) * 65536 + p % 65536 else p

/-- A voice ends: its bit in AU_VENDk, its group's event and event 195 (R223). -/
def Dev.voiceEnd (d : Dev) (v : Nat) : Dev :=
  (((d.setRb (Reg.auVend (v / 32)) (v % 32) true).setVoice v { VoiceSt.init with prevL := (d.voice v).prevL, prevR := (d.voice v).prevR }).raise
    (200 + v / 8)).raise 195

/-- A violation where frame k's data of voice v is blocked, else the counting of its read as master 9 (R218, R276, R413). -/
def Dev.frameNote (d : Dev) (q : VoiceSt) (k : Nat) : Dev :=
  let n := frameSize q.fmt q.st
  let off := q.addr + k * n
  if d.mayTouch 9 0 off n false then d.noteReads 0 9 off n else d.violate 9 0 0 false off

/-- Voice v computes sample n (R219 to R224); `late` lists the frames of it that have not arrived. The second part tells
that a channel saturated, the third that a frame was late. -/
def Dev.voiceSample (d : Dev) (v n : Nat) (late : List Nat) : Dev × Bool × Bool :=
  let q0 := d.voice v
  let q := { q0 with prevL := q0.outL, prevR := q0.outR, outL := 0, outR := 0 }
  let d0 := d.setVoice v q
  if !q.on then (d0, false, false)
  else if q.stop = some n ∨ (!q.loop ∧ q.len ≤ q.pos / 65536) then (d0.voiceEnd v, false, false)
  else
    let i : Int := (q.pos / 65536 : Nat)
    let missing (t : Nat) : Bool := late.contains t || !d.memReady
    let used := q.taps.filterMap (fun t => (q.index (i - 1 + (t : Nat))).map (fun k => (t, k)))
    let val (c t : Nat) : Int :=
      match used.find? (fun e => e.1 = t) with
      | some e => if missing t then 0 else d.frameVal q c e.2
      | none => 0
    let f : Int := (q.pos % 65536 : Nat)
    let y (c : Nat) : Int := interpolate q.herm f (val c 0) (val c 1) (val c 2) (val c 3)
    let gl := q.gl.step
    let gr := q.gr.step
    let (l, sl) := voiceOut (y 0) gl.val
    let (r, sr) := voiceOut (y (if q.st then 1 else 0)) gr.val
    let isLate := used.any (fun e => missing e.1)
    let d1 := (used.filter (fun e => !missing e.1)).foldl (fun d e => d.frameNote q e.2) d0
    let d2 := if isLate then d1.auLate v 0 else d1
    (d2.setVoice v { q with pos := q.nextPos, gl := gl, gr := gr, outL := l, outR := r }, sl || sr, isLate)

/-- Every voice computes sample n: event 197 and event 196 at most once (R221, R224). -/
def Dev.voicesSample (d : Dev) (n : Nat) (late : List LateFrame) : Dev :=
  let r := (d.au.voices.map (fun e => e.1)).foldl (fun (a : Dev × Bool × Bool) v =>
    let s := a.1.voiceSample v n ((late.filter (fun f => f.voice = v)).map (fun f => f.nb))
    (s.1, a.2.1 || s.2.1, a.2.2 || s.2.2)) (d, false, false)
  (r.1.raiseIf r.2.1 197).raiseIf r.2.2 196

/-! ### Commands -/

/-- VSTART's reserved fields are 0 and FMT and PITCH in range (R217). -/
def vstartClean (w : Desc) : Bool :=
  dF w 16 15 13 == 0 && dF w 16 9 8 != 3 && decide (dN w 44 4 ≤ 0x80000) && decide (dN w 24 5 < 2 ^ 34) && dN w 29 3 == 0 &&
    dN w 54 10 == 0

/-- The checks of VSTART, in order (R217). -/
def Dev.vstartCheck (d : Dev) (w : Desc) : Nat :=
  let fmt := dF w 16 9 8
  let st := dF w 16 10 10 == 1
  let loop := dF w 16 11 11 == 1
  let addr := dN w 24 5 % 2 ^ 34
  let len := dN w 32 4
  let size := len * frameSize fmt st
  if !vstartClean w then 0x40
  else if addr % voiceBytes fmt ≠ 0 ∨ d.dataCap < addr + size then 0x0B
  else if len ≤ dN w 48 4 ∨ (loop ∧ (dN w 40 4 ≤ dN w 36 4 ∨ len < dN w 40 4)) then 0x0A
  else if size ≠ 0 ∧ !d.permits 9 0 addr size false then 0x44
  else 0

/-- VSTART takes effect at sample T (R217, R222, R223). -/
def Dev.vstart (d : Dev) (w : Desc) : Dev × Nat :=
  let c := d.vstartCheck w
  if c ≠ 0 then (d, c)
  else
    let v := dN w 16 1
    let ramp := dN w 18 2
    let old := d.voice v
    let d1 := if old.on then d.voiceEnd v else d
    let q : VoiceSt := { VoiceSt.init with
      on := true, fmt := dF w 16 9 8, st := dF w 16 10 10 == 1, loop := dF w 16 11 11 == 1, herm := dF w 16 12 12 == 1,
      addr := dN w 24 5 % 2 ^ 34, len := dN w 32 4, loops := dN w 36 4, loope := dN w 40 4, pitch := dN w 44 4,
      pos := dN w 48 4 * 65536 + dN w 52 2, gl := ⟨0, (dN w 20 2 : Nat), 0, ramp⟩, gr := ⟨0, (dN w 22 2 : Nat), 0, ramp⟩,
      outL := old.outL, outR := old.outR }
    (d1.setVoice v q, 0)

/-- VSET takes effect (R222): the pitch, and the gains with their ramp. -/
def Dev.vset (d : Dev) (w : Desc) : Dev × Nat :=
  let v := dN w 16 1
  let setP := dF w 16 8 8 == 1
  let setG := dF w 16 9 9 == 1
  let ramp := dN w 18 2
  if dF w 16 15 10 ≠ 0 ∨ dN w 28 36 ≠ 0 ∨ (setP ∧ 0x80000 < dN w 24 4) then (d, 0x40)
  else if !(d.voice v).on then (d, 0x0E)
  else
    let q := d.voice v
    let q1 := if setP then { q with pitch := dN w 24 4 } else q
    let q2 := if setG then { q1 with gl := q1.gl.change (dN w 20 2 : Nat) ramp, gr := q1.gr.change (dN w 22 2 : Nat) ramp } else q1
    (d.setVoice v q2, 0)

/-- VSTOP takes effect at sample n (R222): the gains fall to 0, and the voice ends with the ramp. -/
def Dev.vstop (d : Dev) (w : Desc) (n : Nat) : Dev × Nat :=
  let v := dN w 16 1
  let ramp := dN w 18 2
  if dN w 17 1 ≠ 0 ∨ dN w 20 44 ≠ 0 then (d, 0x40)
  else if !(d.voice v).on then (d, 0x0E)
  else
    let q := d.voice v
    (d.setVoice v { q with gl := q.gl.change 0 ramp, gr := q.gr.change 0 ramp, stop := some (n + ramp) }, 0)

/-- GSET takes effect (R222, R231). -/
def Dev.gset (d : Dev) (w : Desc) : Dev × Nat :=
  let g := dN w 16 1
  if dN w 17 1 ≠ 0 ∨ dN w 24 40 ≠ 0 then (d, 0x40)
  else
    let r := Tab.get (fun _ => Ramp.zero) d.au.gains g
    (d.setAu { d.au with gains := Tab.put (fun _ => Ramp.zero) d.au.gains g (r.change (signed 32 (dN w 20 4)) (dN w 18 2)) }, 0)

/-- BQSET takes effect (R235). -/
def Dev.bqset (d : Dev) (w : Desc) : Dev × Nat :=
  let s := dN w 16 1
  if 128 ≤ s ∨ dF w 16 15 9 ≠ 0 ∨ dN w 18 2 ≠ 0 ∨ dN w 40 24 ≠ 0 then (d, 0x40)
  else
    let old := Tab.get (fun _ => sectionInit) d.au.secs s
    let coef := (List.range 5).map (fun i => signed 32 (dN w (20 + 4 * i) 4))
    let st := if dF w 16 8 8 = 1 then [0, 0, 0, 0] else old.drop 5
    (d.setAu { d.au with secs := Tab.put (fun _ => sectionInit) d.au.secs s (coef ++ st) }, 0)

/-- A queued command takes effect at tick n, or is refused there, and is completed (R214, R216). -/
def Dev.auApply (d : Dev) (n : Nat) (c : AuCmd) : Dev :=
  let w := c.desc
  let d0 := d.setAu { d.au with queue := d.au.queue.filter (fun e => !(e.ring = c.ring && e.id = c.id)) }
  let r := match dOp w with
    | 0x30 => d0.vstart w
    | 0x31 => d0.vset w
    | 0x32 => d0.vstop w n
    | 0x33 => d0.gset w
    | 0x34 => d0.bqset w
    | _ => d0.swap w
  r.1.complete c.ring c.id (auComp w r.2 n)

/-- The commands due at tick n in the order in which they take effect (R215). -/
def Dev.auDue (d : Dev) (n : Nat) : List AuCmd :=
  let due := d.au.queue.filter (fun c => c.tag = n)
  allRings.flatMap (fun r => due.filter (fun c => c.ring = r))

/-- Sample ticks run: audio is enabled, its start granted, and AUD_MCLK not lost (R211, R212, R426). -/
def Dev.auRuns (d : Dev) : Bool := d.rb Reg.auCtl 0 && d.laddered ladAudio && !d.au.lost

/-- VSTART to PSWAP as commands of their own: the next due command, if it has this opcode, takes effect at the coming
tick (R214). -/
def Dev.auRow (d : Dev) (op : Nat) : Dev :=
  if !d.auRuns then d
  else
    let d0 := d.xfSettle
    match d0.auDue d0.au.cnt with
    | c :: _ => if dOp c.desc = op then d0.auApply d0.au.cnt c else d
    | [] => d

/-- The command queue has no room (R215). -/
def Dev.auFull (d : Dev) : Bool := decide (1024 ≤ d.au.queue.length)

/-- A tagged command of ring r enters the audio command queue, or is refused as late (R214). -/
def Dev.auEnter (d : Dev) (r : Nat) : Dev :=
  match d.front r [0x30, 0x31, 0x32, 0x33, 0x34, 0x36] with
  | some (id, w) =>
    let d1 := d.takePassed r 1
    if dSample w < d.au.cnt then ((d1.auLate r 1).raise 196).complete r id (auComp w 0x0C d.sampleNow)
    else d1.setAu { d1.au with queue := d1.au.queue ++ [⟨dSample w, r, id, w⟩] }
  | none => d

/-! ### Serial ports and the Culvert -/

/-- Slots of a serial port: two for I2S, 2, 4 or 8 for TDM (R236). -/
def serialSlots (w : Word) : Nat := if bit w 1 then 2 ^ (fld w 3 2 + 1) else 2

/-- A serial input is enabled in the set in force. -/
def Dev.siOn (d : Dev) (m : Nat) : Bool := d.rb Reg.auCtl 0 && d.lb (Reg.auSiCfg m) 0

/-- SERIAL_INPUT_FRAME (R237): input m completes a frame. -/
def Dev.serialIn (d : Dev) (m : Nat) (slots : List (BitVec 24)) : Dev :=
  if !d.siOn m then d
  else
    let fs := Tab.get (fun _ => []) d.au.frames m
    d.setAu { d.au with frames := Tab.put (fun _ => []) d.au.frames m (fs ++ [slots.take (serialSlots (d.inForce (Reg.auSiCfg m)))]) }

/-- Input m takes its sample at a tick (R237): the frame completed last; the second part tells a slip. -/
def Dev.takeInput (d : Dev) (m : Nat) : Dev × Bool :=
  let fs := Tab.get (fun _ => []) d.au.frames m
  if !d.siOn m then (d.setAu { d.au with frames := Tab.put (fun _ => []) d.au.frames m [], now := Tab.put (fun _ => []) d.au.now m [] }, false)
  else
    let new := match fs.getLast? with | some f => f | none => Tab.get (fun _ => []) d.au.now m
    let d1 := d.setAu { d.au with frames := Tab.put (fun _ => []) d.au.frames m [], now := Tab.put (fun _ => []) d.au.now m new }
    if fs.length = 1 then (d1, false) else (d1.setRb Reg.auSistat m true, true)

/-- Both inputs take their samples; a slip raises event 198 once (R237). -/
def Dev.takeInputs (d : Dev) : Dev :=
  let (d1, s0) := d.takeInput 0
  let (d2, s1) := d1.takeInput 1
  d2.raiseIf (s0 || s1) 198

/-- What route k adds to channel ch for the input samples at hand (R239). -/
def Dev.culvert (d : Dev) (ch k : Nat) : Int :=
  let c := d.inForce (Reg.auCulCfg k)
  let named := if ch < 32 then d.lb (Reg.auCulMlo k) ch else d.lb (Reg.auCulMhi k) (ch - 32)
  if bit c 0 && named then asr (d.inSample (fld c 4 1 / 8) (fld c 4 1 % 8) * signed 16 (fld c 31 16) + 16384) 15 else 0

/-- The output stage (R239): the graph's values with the Culvert's terms, and whether one saturated. -/
def Dev.outputStage (d : Dev) (g : List Int) : List Int × Bool :=
  let raw := (List.range 48).map (fun ch => (List.range 8).foldl (fun z k => z + d.culvert ch k) (g.getD ch 0))
  (raw.map sat24, raw.any (fun z => decide (sat24 z ≠ z)))

/-- The output sample leaves on the enabled serial outputs and goes to the ports that embed audio (R236, R238). -/
def Dev.audioOut (d : Dev) (out : List Int) : Dev :=
  let ch (c n : Nat) : List (BitVec 24) := (rangeFrom c n).map (fun i => BitVec.ofInt 24 (out.getD i 0))
  let d1 := (List.range 4).foldl (fun (d : Dev) n =>
    let w := d.inForce (Reg.auSoCfg n)
    if bit w 0 then d.send (.serialAudio n (ch (8 * n) (serialSlots w))) else d) d
  (List.range 2).foldl (fun (d : Dev) x =>
    let w := d.scanWord (Reg.soAud x)
    if (d.port x).run && bit w 0 then d.send (.embedded x (ch (32 + 8 * x) (fld w 3 1 + 1))) else d) d1

/-! ### Checks, commits and the tick -/

/-- AU_CLK differs between the shadow and the set in force (R241). -/
def Dev.auClkMoved (d : Dev) : Bool := d.reg Reg.auClk &&& 7 != d.inForce Reg.auClk &&& 7

/-- A serial port of the shadow set is inconsistent: outputs are indices 0 to 3, inputs 4 and 5. -/
def Dev.auPortBad (d : Dev) (i : Nat) : Bool :=
  let w := if i < 4 then d.reg (Reg.auSoCfg i) else d.reg (Reg.auSiCfg (i - 4))
  bit w 1 && decide (fld w 3 2 = 3)

/-- The AU checks over the shadow set (R241). -/
def Dev.auCheck (d : Dev) (enable : Bool) (mclkHz : Nat) : Nat × Nat :=
  let need := if d.rf Reg.auClk 2 1 % 2 = 1 then 24576000 else 22579200
  let off := if need < mclkHz then mclkHz - need else need - mclkHz
  if enable && d.rb Reg.auClk 0 && decide (need < 100 * off) then (1, 0)
  else if !enable && d.auClkMoved then (0x46, 0)
  else
    match (List.range 6).find? d.auPortBad with
    | some i => (2, i)
    | none => (0, 0)

/-- The block's shadowed registers. -/
def auKeys : List Nat :=
  [Reg.auClk] ++ (List.range 4).map Reg.auSoCfg ++ (List.range 2).map Reg.auSiCfg ++
  (List.range 8).flatMap (fun k => [Reg.auCulCfg k, Reg.auCulMlo k, Reg.auCulMhi k])

/-- The AU commit at a tick (R241, R420). -/
def Dev.auCommitAt (d : Dev) : Dev :=
  if !d.au.commit then d
  else
    let r := d.auCheck false 0
    let d1 := (d.setAu { d.au with commit := false }).report Reg.auChk 8 r
    if r.1 ≠ 0 then d1 else d1.apply auKeys

/-- What a tick does before sample n is computed: the commit, the end of a crossfade or of both pages, and the commands
tagged n (R213, R214, R234, R241). -/
def Dev.tickStart (d : Dev) (n : Nat) : Dev :=
  let d1 := d.auCommitAt.xfSettle
  let d2 := if d1.au.retire then d1.mixRetire else d1
  (d2.auDue n).foldl (fun d c => d.auApply n c) d2

/-- SAMPLE_TICK (R211, R213): tick n. The output sample n - 3 leaves, the output stage forms sample n - 2 with input sample
n - 1, commands tagged n apply, input sample n is taken, and voices and programs compute sample n. -/
def Dev.sampleTick (d : Dev) (late : List LateFrame) (lateTaps : List (Nat × Nat)) : Dev :=
  if !d.auRuns then d
  else
    let n := d.au.cnt
    let d1 := (d.setRb Reg.auStat 0 true).tickStart n
    let d2 := if d1.lb Reg.auClk 0 then d1 else d1.setRb Reg.clkStat 6 true
    let d3 := d2.audioOut d2.au.out
    let (out, sat) := if 2 ≤ n then d3.outputStage d3.au.g2 else ([], false)
    let d4 := (d3.raiseIf sat 199).takeInputs
    let gains := d4.au.gains.map (fun e => (e.1, e.2.step))
    let d5 := (d4.setAu { d4.au with gains := gains }).voicesSample n late
    let (g, d6) := d5.mixSample n lateTaps
    let d7 := d6.setAu { d6.au with out := out, g2 := d6.au.g1, g1 := g, cnt := n + 1 }
    let blk := d7.rf Reg.auBlktick 15 0
    d7.raiseIf (blk ≠ 0 && decide (n % blk = 0)) 192

/-- MCLK_LOST (R212). -/
def Dev.mclkLost (d : Dev) : Dev :=
  if d.rb Reg.auCtl 0 && d.lb Reg.auClk 0 && !d.au.lost then
    (((d.setAu { d.au with lost := true }).setRb Reg.auStat 0 false).setRb Reg.auStat 1 true).raise 198
  else d

/-- MCLK_RESTORED (R212). -/
def Dev.mclkRestored (d : Dev) : Dev :=
  if d.rb Reg.auCtl 0 && d.au.lost then (d.setAu { d.au with lost := false }).setRb Reg.auStat 0 true else d

/-- AU_CTL.EN is set (R211, R231, R235, R241); `mclkHz` is AUD_MCLK as measured against TCLK. -/
def Dev.auEnable (d : Dev) (mclkHz : Nat) : Dev :=
  if d.rb Reg.auCtl 0 then d
  else
    let r := d.auCheck true mclkHz
    let d1 := d.report Reg.auChk 8 r
    if r.1 ≠ 0 then d1
    else
      let a := d1.au
      let d2 := d1.setAu { AudioSt.init with queue := a.queue, pages := a.pages, load := a.load, retire := a.retire, wreg := a.wreg, xf := a.xf }
      ((d2.setRb Reg.auCtl 0 true).apply auKeys).ask ladAudio

/-- AUDIO_PLL_LOCK_TIMEOUT (R241): the internal PLL has not locked; the enable is refused. -/
def Dev.audioPllTimeout (d : Dev) : Dev :=
  if d.rb Reg.auCtl 0 && d.laddered ladAudio && !d.lb Reg.auClk 0 && decide (d.au.cnt = 0) && !d.rb Reg.auStat 0 then
    ((d.setRb Reg.auCtl 0 false).unask ladAudio).refuse Reg.auChk (chkWord 0x45 8 0)
  else d

/-- Commands discarded without a completion leave their ring (R241). -/
def Dev.dropIssued (d : Dev) (r id : Nat) : Dev :=
  let q := d.ring r
  d.setRing r { q with issue := q.issue.filter (fun e => !(e.1 = id && e.2.isNone)) }

/-- AU_CTL.EN is cleared (R241): refused while the mix engine is enabled; otherwise every voice stops and the queue is
emptied. -/
def Dev.auDisable (d : Dev) : Dev :=
  if !d.rb Reg.auCtl 0 then d
  else if d.rb Reg.mxCtl 0 then d.refuse Reg.auChk (chkWord 0x46 8 0)
  else
    let a := d.au
    let d1 := a.queue.foldl (fun d c => d.dropIssued c.ring c.id) d
    let d2 := d1.setAu { AudioSt.init with pages := a.pages, load := a.load, retire := a.retire, wreg := a.wreg, xf := a.xf }
    (((d2.setRb Reg.auCtl 0 false).setRb Reg.auStat 0 false).setRb Reg.clkStat 6 false).unask ladAudio

/-- AU_COMMIT.GO (R241, R421). -/
def Dev.auGo (d : Dev) : Dev := if d.rb Reg.auCtl 0 then d.setAu { d.au with commit := true } else d

end Sys2Proof.Machine
end

