-- ==== Sys2Proof/Machine/MemCtl.lean ====
section
/-! DEFINITION. The LPDDR5 controller (R271 to R273), the leaky buckets (R280), the patrol scrubber (R281 to R283) and the
flip mask (R284). -/

namespace Sys2Proof.Machine

/-- A block that uses LPDDR5 is enabled (R296): AS, BL, AU, MX, FM, or a pipe's TP, SP or CMP. -/
def Dev.memUsed (d : Dev) : Bool :=
  d.rb Reg.asCtl 0 || d.rb Reg.blCtl 0 || d.rb Reg.auCtl 0 || d.rb Reg.mxCtl 0 || d.rb Reg.fmCtl 0 ||
  [0, 1].any (fun p => d.rb (Reg.tpCtl p) 0 || d.rb (Reg.spCtl p) 0 || d.rb (Reg.cmpCtl p) 0)

/-- MEM_CTL.EN is set (R273): initialisation and training start at the ladder grant. -/
def Dev.memEnable (d : Dev) : Dev :=
  if d.rb Reg.memCtl 0 then d else ((d.setReg Reg.memChk 0).setRb Reg.memCtl 0 true).ask ladMem

/-- The enable is refused after training (R273). -/
def Dev.memFail (d : Dev) (code chans : Nat) : Dev :=
  (((d.setRb Reg.memCtl 0 false).unask ladMem).setRf Reg.memStat 4 1 chans).refuse Reg.memChk (chkWord code 8 0)

/-- A read by a host function or the debug port is answered; one of an uncorrectable word aborts for a host (R279), and for the
debug port gives data that is not stated (log entry 3). -/
def Dev.answer (d : Dev) (m : Nat) (bad : Bool) (v : Word) : Dev :=
  if !bad then d.send (.readData m v)
  else if m = 13 then (let (w, d1) := d.free; d1.send (.readData m w))
  else d.send (.abort (b2n (decide (m = 1))))

/-- An access that waited for LPDDR5 is carried out (R273). -/
def Dev.heldAccess (d : Dev) (h : HeldAccess) : Dev :=
  match h.data with
  | some (v, be) => d.writeEn 0 h.master h.addr v be
  | none =>
    let (v, d1) := d.readWord 0 h.master h.addr
    d1.answer h.master (d.badAt 0 h.addr 4) v

/-- FABRIC_STALL_RELEASE (R14): an entry frees, and the master's first stalled access is issued; what LPDDR5 does not serve yet
waits for it. -/
def Dev.fabricRelease (d : Dev) (m : Nat) : Dev :=
  match d.memc.waiting.find? (fun h => h.master = m) with
  | some h =>
    if d.fabricFull then d
    else
      let d1 := { d with memc := { d.memc with waiting := d.memc.waiting.erase h } }
      if d.memReady then d1.heldAccess h else { d1 with memc := { d1.memc with held := d1.memc.held ++ [h] } }
  | none => d

/-- MEM_READY (R273): training and zeroing have ended on every channel, or failed on those that `fail` names; `density` tells
that the mode registers' density disagrees with SIZE. -/
def Dev.memTrained (d : Dev) (fail : Nat) (density : Bool) : Dev :=
  if !d.rb Reg.memCtl 0 || !d.laddered ladMem || d.memReady then d
  else if fail ≠ 0 then d.memFail 1 fail
  else if density then d.memFail 2 0
  else
    let d1 := { d with mem := d.mem.filter (fun e => decide (memBase 1 ≤ e.1)), syn := d.syn.filter (fun e => decide (memBase 1 ≤ e.1)) }
    let d2 := ((d1.setRf Reg.memStat 4 1 0).setRb Reg.memStat 0 true).setRb Reg.clkStat 1 true
    let d3 := { d2 with memc := { d2.memc with held := [] } }
    d2.memc.held.foldl Dev.heldAccess d3

/-- MEM_CTL.EN is cleared (R296). -/
def Dev.memDisable (d : Dev) : Dev :=
  if !d.rb Reg.memCtl 0 then d
  else if d.memUsed then d.refuse Reg.memChk (chkWord 0x46 8 0)
  else (((d.setRb Reg.memCtl 0 false).setRb Reg.memStat 0 false).setRb Reg.clkStat 1 false).unask ladMem

/-- REFRESH (R273): the controller follows MR4, whose highest code MEM_STAT.TEMP shows. -/
def Dev.refresh (d : Dev) (code : Nat) : Dev := if d.memReady then d.setRf Reg.memStat 7 5 code else d

/-- One counter group at a leak (R280). -/
def Dev.leakGroup (d : Dev) (g : Nat) : Dev :=
  let c := d.rf (Reg.edcCnt g) 15 0 - 1
  if d.rf (Reg.edcCnt g) 31 16 < c then (d.setRf (Reg.edcCnt g) 15 0 0).raise (256 + 2 * g) else d.setRf (Reg.edcCnt g) 15 0 c

/-- LEAK_TICK (R280): with MS = 0 there is no leak. -/
def Dev.leakTick (d : Dev) : Dev := if d.rf Reg.edcLeak 15 0 = 0 then d else (List.range 4).foldl Dev.leakGroup d

/-- The scrubber reads one code word as master 15: a corrected one is written back, an uncorrectable one logged (R283). -/
def Dev.scrubWord (d : Dev) (id a : Nat) : Dev :=
  match d.decodeWord a (wordBytes id) with
  | .good _ => d
  | .corrected v b => (d.countCorrection id 15 a b).storeWord id a v false
  | .bad => d.reportBad id 15 a

/-- The scrubbed SRAMs (R281): the map store, the LP memories and the microcode pages. -/
def scrubSet : List Nat := 1 :: rangeFrom 7 10

/-- SCRUB_READ (R281 to R283): the next LPDDR5 block of 64 bytes, or the next word of each SRAM of the set; a smaller SRAM
begins again while the map store's pass lasts. A pace of 0 is off. -/
def Dev.scrub (d : Dev) (sram : Bool) : Dev :=
  if sram then
    if d.rf Reg.edcScrub 31 16 = 0 then d
    else
      let k := d.memc.scrubS
      let d1 := scrubSet.foldl (fun (d : Dev) id =>
        let off := 4 * (k % (d.memBytes id / 4))
        if id = 1 ∧ !d.permits 15 1 off 4 false then d.violate 15 0 1 false off else d.scrubWord id (memBase id + off)) d
      if k + 1 < 2097152 then { d1 with memc := { d1.memc with scrubS := k + 1 } }
      else
        ({ d1 with memc := { d1.memc with scrubS := 0 } }.setRf Reg.edcScrubstat 31 16
          ((d1.rf Reg.edcScrubstat 31 16 + 1) % 65536)).raise 267
  else
    if d.rf Reg.edcScrub 15 0 = 0 ∨ !d.memReady then d
    else
      let off := 64 * d.memc.scrubL
      let d1 := if !d.permits 15 0 off 64 false then d.violate 15 0 0 false off
        else (List.range 8).foldl (fun d i => d.scrubWord 0 (off + 8 * i)) d
      if off + 64 < d.dataCap then { d1 with memc := { d1.memc with scrubL := d.memc.scrubL + 1 } }
      else
        ({ d1 with memc := { d1.memc with scrubL := 0 } }.setRf Reg.edcScrubstat 15 0
          ((d1.rf Reg.edcScrubstat 15 0 + 1) % 65536)).raise 267

/-- A write of EDC_FLIP_SEL (R284): an arm is refused for a reserved memory, and for the ledger SRAM by another master than
the custodian. -/
def Dev.flipWrite (d : Dev) (m : Nat) (v : Word) : Dev :=
  let bad := if !bit v 31 then 0 else if 20 ≤ fld v 4 0 then 0x40 else if fld v 4 0 = 18 ∧ m ≠ 1 then 0x43 else 0
  if bad ≠ 0 then (d.setRf Reg.edcFlipSel 15 8 bad).raise 0
  else (d.setRf Reg.edcFlipSel 4 0 (fld v 4 0)).setRb Reg.edcFlipSel 31 (bit v 31)

/-- A write of a memory configuration register while the controller is enabled is dropped (R296). -/
def Dev.memCfgWrite (d : Dev) (v : Word) : Dev :=
  if d.rb Reg.memCtl 0 then d.refuse Reg.memChk (chkWord 0x46 8 0) else d.codeWrite Reg.memCfg v

end Sys2Proof.Machine
end

