-- ==== Sys2Proof/Machine/Asset.lean ====
section
/-! DEFINITION. The asset store (R285 to R296): the remap table, sectors and their BCH code, AREAD, the read-disturb patrol,
and the register commands that erase and program. -/

namespace Sys2Proof.Machine

/-- The device with the asset store controller replaced. -/
def Dev.setAsset (d : Dev) (a : AssetSt) : Dev := { d with asset := a }

/-! ### The sector code (R288) -/

/-- Multiplication by α in GF(2^14), with α^14 = α^10 + α^6 + α + 1. -/
def gfTimesA (x : Nat) : Nat := if x < 8192 then 2 * x else (2 * x - 16384) ^^^ 0x443

/-- Multiplication in GF(2^14). -/
def gfMul (x y : Nat) : Nat :=
  ((List.range 14).foldl (fun (a : Nat × Nat) i => (if y / 2 ^ i % 2 = 1 then a.1 ^^^ a.2 else a.1, gfTimesA a.2)) (0, x)).1

/-- α^n. -/
def gfExp (n : Nat) : Nat := (List.range (n % 16383)).foldl (fun x _ => gfTimesA x) 1

/-- A polynomial over GF(2^14), lowest degree first, times (x + r). -/
def polyTimes (p : List Nat) (r : Nat) : List Nat :=
  (List.range (p.length + 1)).map (fun i => gfMul (p.getD i 0) r ^^^ (if i = 0 then 0 else p.getD (i - 1) 0))

/-- The exponents of the conjugates of α^i. -/
def conjugates (i : Nat) : List Nat := ((List.range 14).map (fun j => i * 2 ^ j % 16383)).eraseDups

/-- The minimal polynomial of α^i as the number whose bit k is the coefficient of x^k. -/
def minimalPoly (i : Nat) : Nat :=
  ((conjugates i).foldl (fun p e => polyTimes p (gfExp e)) [1]).foldr (fun c n => 2 * n + c) 0

/-- The product of two polynomials over GF(2). -/
def gf2Mul (a b : Nat) : Nat := (List.range (b.log2 + 1)).foldl (fun r i => if b / 2 ^ i % 2 = 1 then r ^^^ (a * 2 ^ i) else r) 0

/-- The generator: the product of the different minimal polynomials of α^1 to α^143. -/
def bchGenerator : Nat :=
  ((rangeFrom 1 143).filter (fun i => (conjugates i).all (fun e => i ≤ e))).foldl (fun g i => gf2Mul g (minimalPoly i)) 1

/-- A coefficient enters the division by the generator, highest degree first. -/
def bchStep (g r b : Nat) : Nat :=
  let t := 2 * r + b
  if t / 2 ^ g.log2 = 1 then t ^^^ g else t

/-- The 126 parity bytes of a sector of data: d(x) · x^1,008 mod g(x) in 1,008 bits (R288, log entry 13). -/
def bchParity (data : List Byte) : List Byte :=
  let g := bchGenerator
  let r := data.foldl (fun r b => (List.range 8).foldl (fun r i => bchStep g r (b.toNat / 2 ^ (7 - i) % 2)) r) 0
  let p := (List.range 1008).foldl (fun r _ => bchStep g r 0) r
  (List.range 126).map (fun i => BitVec.ofNat 8 (p / 2 ^ (8 * (125 - i))))

/-- A page as programmed (R287): the data of its sectors, then a parity record of 128 bytes for each. -/
def pageImage (sectors : Nat) (data : List Byte) : List Byte :=
  data ++ (List.range sectors).flatMap (fun q => bchParity ((data.drop (1024 * q)).take 1024) ++ [0xFF, 0xFF])

/-! ### Geometry and the remap table -/

/-- Sectors of a page, pages of a block, and bytes of a block (AS_GEOM). -/
def Dev.pageSectors (d : Dev) : Nat := 4 * 2 ^ d.rf Reg.asGeom 1 0
def Dev.blockPages (d : Dev) : Nat := 64 * 2 ^ d.rf Reg.asGeom 4 2
def Dev.blockBytes (d : Dev) : Nat := d.pageSectors * 1024 * d.blockPages

/-- Logical blocks of the asset address space of 256 GiB (R286). -/
def Dev.logicalBlocks (d : Dev) : Nat := 2 ^ 38 / d.blockBytes

/-- The LPDDR5 byte of a remap entry. -/
def Dev.remapOff (d : Dev) (l : Nat) : Nat := d.rf Reg.asRemapbase 27 0 * 64 + 4 * l

/-- A remap entry or the ledger partition: channel, chip enable and LUN as one number, and the block (Table — Remap entry). -/
def chipOf (e : Nat) : Nat := bitsOf e 5 0
def physBlock (e : Nat) : Nat := bitsOf e 23 6

/-- The ledger partition is present (R295). -/
def Dev.ledgerPresent (d : Dev) : Bool := d.rb Reg.pwrStrap 3

/-- A remap entry names a block of the ledger partition (R290, R295). -/
def Dev.inPartition (d : Dev) (e : Nat) : Bool :=
  let p := (d.reg Reg.asLgpart).toNat
  d.ledgerPresent && decide (chipOf e = chipOf p) && decide (physBlock p ≤ physBlock e) &&
    decide (physBlock e < physBlock p + bitsOf p 27 24)

/-- A page of a physical block as a flash address. -/
def flashAddr (e page : Nat) : Nat := e % 16777216 * 1024 + page

/-- The channel of a flash address. -/
def flashChannel (a : Nat) : Nat := a / 1024 % 4

/-- Logical block l's remap entry as the controller reads it: the entry or the reason, and the device after the read (R286,
R290). -/
def Dev.remap (d : Dev) (l : Nat) : (Nat × Nat) × Dev :=
  let off := d.remapOff l
  if d.logicalBlocks ≤ l then ((5, 0), d)
  else if !d.mayTouch 11 0 off 4 false then ((0x44, 0), d.violate 11 0 0 false off)
  else
    let d1 := d.noteReads 0 11 off 4
    let e := d.peekN 0 off 4
    if d.badAt 0 off 4 then ((6, 0), d1)
    else if bitsOf e 31 31 = 0 then ((5, 0), d1)
    else if d.inPartition e then ((7, 0), d1)
    else ((0, e), d1)

/-! ### Sectors -/

/-- The controller reads a page into the chip's register, at read-retry steps up to `steps`, and restores step 0 (R290,
R291). -/
def Dev.flashRead (d : Dev) (addr steps : Nat) : Dev :=
  let d1 := (rangeFrom 1 steps).foldl (fun (d : Dev) k => (d.send (.flash 4 k [])).send (.flash 3 addr [])) (d.send (.flash 3 addr []))
  if steps = 0 then d1 else d1.send (.flash 4 0 [])

/-- AS_HCLOG for a sector of logical block l (R292, R293). -/
def Dev.hcLog (d : Dev) (l corr : Nat) (patrol : Bool) : Dev :=
  d.setReg Reg.asHclog (BitVec.ofNat 32 (l + corr * 1048576 + b2n patrol * 2147483648))

/-- A sector that no step can decode (R279, R291): event 266, and EDC_UE names the flash and the logical block. -/
def Dev.sectorLost (d : Dev) (l : Nat) (patrol : Bool) : Dev :=
  (((d.hcLog l 127 patrol).setReg Reg.edcUe (BitVec.ofNat 32 (20 + 11 * 256 + satInc (d.rf Reg.edcUe 31 16) 65535 * 65536))).setReg
    Reg.edcUeAddr (BitVec.ofNat 32 l)).raise 266

/-- What a sector read amounts to under the code and the retry limit (R288, R289, R291): its data, the bits corrected and
the step, or none. -/
def Dev.sectorData (d : Dev) (s : SectorRead) : Option (List Byte × Nat × Nat) :=
  match s with
  | .erased => some (List.replicate 1024 0xFF, 0, 0)
  | .lost => none
  | .decoded bs c k => if c ≤ 72 ∧ k ≤ d.rf Reg.asCfg 19 16 then some ((List.range 1024).map (fun i => bs.getD i 0), c, k) else none

/-- Retry steps taken for a sector read. -/
def Dev.sectorSteps (d : Dev) (s : SectorRead) : Nat :=
  match d.sectorData s with | some r => r.2.2 | none => d.rf Reg.asCfg 19 16

/-- A sector that needed many corrections is logged and event 265 raised (R292). -/
def Dev.highCorr (d : Dev) (l corr : Nat) (patrol : Bool) : Dev :=
  if d.rf Reg.asCfg 14 8 ≤ corr then (d.hcLog l corr patrol).raise 265 else d

/-! ### AREAD -/

/-- The fields of an AREAD (Table — AREAD payload and completion). -/
def arSrc (w : Desc) : Nat := dN w 16 5 % 2 ^ 38
def arDst (w : Desc) : Nat := dN w 24 5 % 2 ^ 34
def arLen (w : Desc) : Nat := dN w 32 4

/-- Its reserved payload bits are 0. -/
def arClean (w : Desc) : Bool :=
  decide (dN w 16 5 < 2 ^ 38) && dN w 21 3 == 0 && decide (dN w 24 5 < 2 ^ 34) && dN w 29 3 == 0 && dN w 36 28 == 0

/-- The completion of an AREAD. -/
def areadComp (r : AreadRun) (reason : Nat) : Comp :=
  compOf r.desc (BitVec.ofNat 32 (b2n (decide (reason ≠ 0)) + reason * 256 + r.corr * 65536 + r.retry * 16777216))
    (BitVec.ofNat 32 r.done) (BitVec.ofNat 32 r.lost)

/-- An AREAD ends (R290). -/
def Dev.areadEnd (d : Dev) (r : AreadRun) (reason : Nat) : Dev :=
  (d.setAsset { d.asset with run := none }).complete r.ring r.id (areadComp r reason)

/-- Words of the asset buffer that a sector stands in while it passes (R291): the bad ones by their place. -/
def Dev.bufferBad (d : Dev) (q off : Nat) : Bool := d.badAt 19 (1024 * q + off / 8 * 8) 8

/-- One sector of the AREAD under way is read, passes through the asset buffer, and its part is written to DST as master
11; the first thing that stops the transfer ends it (R290, R291). Of an asset address that table 3 does not let master 11 read it takes
0 (R409, R413). -/
def Dev.areadSector (d : Dev) (r : AreadRun) (s : SectorRead) : Dev :=
  let a := arSrc r.desc + r.done
  let l := a / d.blockBytes
  let fresh := match r.entry with | some (b, _) => decide (b ≠ l) | none => true
  let (res, d0) := if fresh then d.remap l else ((0, (r.entry.getD (0, 0)).2), d)
  if res.1 ≠ 0 then d0.areadEnd r res.1
  else
    let q := a / 1024 % d.pageSectors
    let page := a / (1024 * d.pageSectors) % d.blockPages
    let n := min (1024 - a % 1024) (arLen r.desc - r.done)
    let dst := arDst r.desc + r.done
    let may := d0.permits 11 3 a n false
    let got := if may then d.sectorData s else some (List.replicate 1024 0, 0, 0)
    let steps := if may then d.sectorSteps s else 0
    let d1 := if may then d0.flashRead (flashAddr res.2 page) steps else d0.violate 11 0 3 false a
    let (dat, d2) := match got with
      | some (bs, c, _) => (bs, (d1.highCorr l c false).writeBytes 19 11 (1024 * q) bs)
      | none => ([], d1.sectorLost l false)
    let d3 := if dat.isEmpty then d2 else d2.noteReads 19 11 (1024 * q) 1024
    let bufBad := !dat.isEmpty && (List.range 128).any (fun i => d2.bufferBad q (8 * i))
    let d4 := if bufBad then d3.hcLog l 127 false else d3
    let ok := ((List.range (n / 4)).takeWhile (fun i => d4.mayTouch 11 0 (dst + 4 * i) 4 true &&
      (!partWord 0 dst (dst + n) (dst + 4 * i) || d4.mayTouch 11 0 (dst + 4 * i) 4 false))).length
    let poisoned (i : Nat) : Bool := dat.isEmpty || d2.bufferBad q (a % 1024 + 4 * i)
    let d5 := d4.writeSome 0 11 dst (4 * ok) (fun b =>
      if dst ≤ b ∧ b < dst + 4 * ok ∧ !poisoned ((b - dst) / 4) then some (d2.peek 19 (1024 * q + a % 1024 + (b - dst))) else none)
    let d6 := ((List.range ok).filter poisoned).foldl (fun (d : Dev) i => d.writePoison 0 (dst + 4 * i) 4) d5
    let lost := dat.isEmpty || bufBad
    let corr := match got with | some e => e.2.1 | none => 0
    let r1 : AreadRun := { r with
      done := r.done + 4 * ok, corr := max r.corr corr, retry := max r.retry steps, lost := r.lost + b2n lost
      bad := r.bad || lost, entry := some (l, res.2) }
    if 4 * ok < n then (d6.violate 11 0 0 true (dst + 4 * ok)).areadEnd r1 0x44
    else d6.setAsset { d6.asset with run := some r1 }

/-- Sectors of the AREAD under way, as many as are given and needed. -/
def Dev.areadRuns : List SectorRead → Dev → Dev
  | [], d => d
  | s :: ss, d =>
    match d.asset.run with
    | some r => if r.done < arLen r.desc ∧ d.memReady then Dev.areadRuns ss (d.areadSector r s) else d
    | none => d

/-- The type-6 ring next in turn that has an AREAD waiting (R290). -/
def Dev.assetTurn (d : Dev) : Option Nat :=
  ((List.range 68).map (fun i => (d.asset.last + 1 + i) % 68)).find? (fun r => (d.front r [0x50]).isSome)

/-- AREAD (R290): ring r's descriptor, when it is next in turn, begins with the sectors given. -/
def Dev.aread (d : Dev) (r : Nat) (ss : List SectorRead) : Dev :=
  if !d.rb Reg.asCtl 0 || !d.laddered ladAs || d.asset.run.isSome || decide (d.assetTurn ≠ some r) then d
  else
    match d.front r [0x50] with
    | none => d
    | some (id, w) =>
      let run : AreadRun := ⟨r, id, w, 0, 0, 0, 0, false, none⟩
      let d1 := (d.takePassed r 1).setAsset { d.asset with last := r }
      if !arClean w then d1.areadEnd run 0x40
      else if arSrc w % 4 ≠ 0 ∨ arDst w % 4 ≠ 0 ∨ arLen w % 4 ≠ 0 then d1.areadEnd run 8
      else if arLen w = 0 then d1.areadEnd run 0
      else Dev.areadRuns ss (d1.setAsset { d1.asset with run := some run })

/-- AREAD_COMPLETE (R290, R291): the sectors that remain, and the completion once all are done. -/
def Dev.areadFinish (d : Dev) (ss : List SectorRead) : Dev :=
  let d1 := Dev.areadRuns ss d
  match d1.asset.run with
  | some r => if r.done < arLen r.desc then d1 else d1.areadEnd r (if r.bad then 6 else 0)
  | none => d1

/-! ### The patrol -/

/-- The first valid logical block at or after l, within n steps and wrapping; its entry. -/
def Dev.nextValid (d : Dev) : Nat → Nat → Option (Nat × Nat)
  | 0, _ => none
  | n + 1, l =>
    let b := l % d.logicalBlocks
    let off := d.remapOff b
    let e := d.peekN 0 off 4
    if !d.badAt 0 off 4 ∧ d.mayTouch 11 0 off 4 false ∧ bitsOf e 31 31 = 1 then some (b, e) else Dev.nextValid d n (b + 1)

/-- One sector of a patrol read: R291 and R292 apply, and nothing is written (R293). -/
def Dev.patrolSector (d : Dev) (l : Nat) (s : SectorRead) : Dev :=
  match d.sectorData s with
  | some (_, c, _) => d.highCorr l c true
  | none => d.sectorLost l true

/-- PATROL_READ (R293): the next page of the valid logical blocks is read and decoded, where table 3 lets master 11 read it (R409); it
yields to a command under way on its channel. -/
def Dev.patrol (d : Dev) (ss : List SectorRead) : Dev :=
  if !d.rb Reg.asCtl 0 || !d.laddered ladAs || d.rf Reg.asPatrol 15 0 == 0 || !d.memReady then d
  else
    let b := d.asset.patrol / d.blockPages
    match d.nextValid d.logicalBlocks b with
    | none => d
    | some (l, e) =>
      let page := if l = b then d.asset.patrol % d.blockPages else 0
      let busy := (match d.asset.pcmd with | some a => flashChannel a == bitsOf e 1 0 | none => false) ||
        (match d.asset.run with | some r => bitsOf (r.entry.getD (0, 0)).2 1 0 == bitsOf e 1 0 | none => false)
      if busy then d
      else
        let bytes := 1024 * d.pageSectors
        let a := l * d.blockBytes + page * bytes
        let used := ss.take d.pageSectors
        let d0 := d.noteReads 0 11 (d.remapOff l) 4
        let d2 :=
          if d.permits 11 3 a bytes false then
            used.foldl (fun d s => d.patrolSector l s)
              (d0.flashRead (flashAddr e page) (used.foldl (fun n s => max n (d.sectorSteps s)) 0))
          else d0.violate 11 0 3 false a
        d2.setAsset { d2.asset with patrol := (l * d.blockPages + page + 1) % (d.logicalBlocks * d.blockPages) }

/-! ### Register commands -/

/-- AS_PSTAT reports a command that ended without running. -/
def Dev.pcmdRefuse (d : Dev) (code : Nat) : Dev := (d.setRf Reg.asPstat 15 8 code).setRb Reg.asPstat 1 true

/-- The bytes of the program buffer; a word that is uncorrectable gives free bytes (the spec states none, log entry 12). -/
def Dev.programData (d : Dev) (off n : Nat) : List Byte × Dev :=
  (List.range (n / 8)).foldl (fun (a : List Byte × Dev) i =>
    if a.2.badAt 0 (off + 8 * i) 8 then
      let (x, d1) := a.2.free
      let (y, d2) := d1.free
      (a.1 ++ toBytes 4 x.toNat ++ toBytes 4 y.toNat, d2)
    else (a.1 ++ toBytes 8 (a.2.peekN 0 (off + 8 * i) 8), a.2)) ([], d.noteReads 0 11 off n)

/-- AS_PCMD is written (R294): erase (1) or program (2) starts, or is refused, with 0x44 where table 3 or the buffer's table
blocks master 11 (R409). -/
def Dev.pcmd (d : Dev) (op page lblock : Nat) : Dev :=
  if d.rb Reg.asPstat 0 then d.setRb Reg.asPstat 3 true
  else if !d.rb Reg.asCtl 0 then d
  else if op = 0 ∨ op = 3 ∨ (op = 2 ∧ d.blockPages ≤ page) then d.pcmdRefuse 0x40
  else
    let (res, d1) := d.remap lblock
    if res.1 ≠ 0 then d1.pcmdRefuse res.1
    else
      let go (e : Dev) (cmd : Nat) (pg : Nat) (bs : List Byte) : Dev :=
        ((e.setRb Reg.asPstat 0 true).setAsset { e.asset with pcmd := some (flashAddr res.2 pg) }).send (.flash cmd (flashAddr res.2 pg) bs)
      let base := lblock * d1.blockBytes + (if op = 1 then 0 else page * 1024 * d1.pageSectors)
      if !d1.permits 11 3 base (if op = 1 then d1.blockBytes else 1024 * d1.pageSectors) true then
        (d1.violate 11 0 3 true base).pcmdRefuse 0x44
      else if op = 1 then go d1 1 0 []
      else
        let off := d1.rf Reg.asPbuf 27 0 * 64
        let n := 1024 * d1.pageSectors
        if !d1.mayTouch 11 0 off n false then (d1.violate 11 0 0 false off).pcmdRefuse 0x44
        else
          let (bs, d2) := d1.programData off n
          go d2 2 page (pageImage d2.pageSectors bs)

/-- PCMD_COMPLETE (R294). -/
def Dev.pcmdEnd (d : Dev) (ok : Bool) : Dev :=
  if d.asset.pcmd.isNone then d
  else
    let d1 := ((d.setRb Reg.asPstat 0 false).setRb Reg.asPstat 1 true).setAsset { d.asset with pcmd := none }
    if ok then d1 else d1.setRb Reg.asPstat 2 true

/-! ### Enable -/

/-- A chip enable, 4 × channel + CE, that AS_CFG enables. -/
def Dev.chipOn (d : Dev) (c : Nat) : Bool := d.rb Reg.asCfg (c / 4) && decide (c % 4 ≤ d.rf Reg.asCfg 5 4)

/-- The checks of AS_CTL.EN (R285, R286, R295, R296): the code and the chip enable. `lunBlocks` and `luns` are what the
parameter pages give, `badChip` a chip enable with no ONFI signature. -/
def Dev.asCheck (d : Dev) (badChip : Option Nat) (lunBlocks luns : Nat) : Nat × Nat :=
  let p := (d.reg Reg.asLgpart).toNat
  let pageOk := decide (d.rf Reg.asGeom 1 0 < 3)
  let ppbOk := decide (d.rf Reg.asGeom 4 2 < 5)
  let hc := d.rf Reg.asCfg 14 8
  if pageOk && decide (d.rf Reg.asGeom 20 8 < 128 * d.pageSectors) then (2, 0)
  else if pageOk && ppbOk && decide (d.dataCap < d.rf Reg.asRemapbase 27 0 * 64 + 4 * d.logicalBlocks) then (3, 0)
  else if d.ledgerPresent && (decide (bitsOf p 27 24 < 2) || !d.chipOn (bitsOf p 1 0 * 4 + bitsOf p 3 2) ||
    decide (luns ≤ bitsOf p 5 4) || decide (lunBlocks < physBlock p + bitsOf p 27 24)) then (4, 0)
  else if !pageOk || !ppbOk || decide (hc = 0) || decide (72 < hc) then (0x40, 0)
  else if !d.memReady then (0x45, 0)
  else
    match badChip with
    | some c => if d.chipOn c then (1, c / 4 + c % 4 * 4) else (0, 0)
    | none => (0, 0)

/-- AS_CTL.EN is set (R285, R296). -/
def Dev.asEnable (d : Dev) (badChip : Option Nat) (lunBlocks luns : Nat) : Dev :=
  if d.rb Reg.asCtl 0 then d
  else
    let r := d.asCheck badChip lunBlocks luns
    let d1 := d.report Reg.asChk 8 r
    if r.1 ≠ 0 then d1 else (d1.setRb Reg.asCtl 0 true).ask ladAs

/-- AS_CTL.EN is cleared: no further command starts. -/
def Dev.asDisable (d : Dev) : Dev := if d.rb Reg.asCtl 0 then (d.setRb Reg.asCtl 0 false).unask ladAs else d

/-- A write of AS_CFG, AS_GEOM, AS_REMAPBASE or AS_LGPART: dropped while AS_CTL.EN = 1 (R296). -/
def Dev.asCfgWrite (d : Dev) (a : Nat) (v : Word) : Dev :=
  if d.rb Reg.asCtl 0 then d.refuse Reg.asChk (chkWord 0x46 8 0) else d.codeWrite a v

end Sys2Proof.Machine
end

