-- ==== Sys2Proof/Machine/Flume.lean ====
section
/-! DEFINITION. The Flume DMA engine (R297 to R311): descriptor checks, the pieces that pass through the staging buffer,
completions, stopping, bus errors and the checks of the block. -/

namespace Sys2Proof.Machine

/-- The descriptor in progress on channel n. -/
def Dev.fm (d : Dev) (n : Nat) : Option FmRun := Tab.get (fun _ => none) d.flume n
/-- The device with channel n's descriptor in progress replaced. -/
def Dev.setFm (d : Dev) (n : Nat) (q : Option FmRun) : Dev := { d with flume := Tab.put (fun _ => none) d.flume n q }

/-- FMn_STAT.STATE: 0 RUN, 1 STOPPED, 2 STOPPED_BY_FAULT. -/
def Dev.fmState (d : Dev) (n : Nat) : Nat := d.rf (Reg.fmnStat n) 2 0

/-- The device with channel n's BUSY and OPCODE shown. -/
def Dev.fmShow (d : Dev) (n : Nat) (busy : Bool) (op : Nat) : Dev := (d.setRb (Reg.fmnStat n) 3 busy).setRf (Reg.fmnStat n) 15 8 op

/-- Chunks of channel n in force (R303). -/
def Dev.fmChunks (d : Dev) (n : Nat) : Nat := d.lf (Reg.fmnCfg n) 4 0

/-- Where channel n's reservation of the buffer begins. -/
def Dev.fmBase (d : Dev) (n : Nat) : Nat := 4096 * (List.range n).foldl (fun s k => s + d.fmChunks k) 0

/-! ### Descriptors -/

/-- Fields of a Flume descriptor (Table — Flume descriptor payload). -/
def fmSspace (w : Desc) : Nat := dF w 16 1 0
def fmDspace (w : Desc) : Nat := dF w 16 3 2
def fmSrc (w : Desc) : Nat := dN w 24 8
def fmDst (w : Desc) : Nat := dN w 32 8
def fmLen (w : Desc) : Nat := dN w 40 4
def fmValue (w : Desc) : Nat := dN w 44 4
/-- The descriptor reads a source: it is no FILL. -/
def fmReads (w : Desc) : Bool := decide (dOp w ≠ 0x21)

/-- The end of a space (R299, R301). -/
def Dev.fmEnd (d : Dev) (space : Nat) : Nat :=
  if space = 0 then 2 ^ 64 else if space = 1 then d.dataCap else if space = 2 then frameBytes else 8388608

/-- The memory of a local space. -/
def fmMem (space : Nat) : Nat := if space = 1 then 0 else if space = 2 then 6 else 1

/-- The checks of a descriptor, in order (R301): the reason, or 0 with LEN = 0 told apart by the caller. -/
def Dev.fmCheck (d : Dev) (n : Nat) (w : Desc) : Nat :=
  let len := fmLen w
  let bad3 (s a : Nat) : Bool := decide (s = 3) && (decide (a % 4 ≠ 0) || decide (len % 4 ≠ 0))
  if dF w 16 7 4 ≠ 0 ∨ dN w 17 7 ≠ 0 ∨ dN w 48 16 ≠ 0 ∨ (fmReads w ∧ fmValue w ≠ 0) ∨
    (!fmReads w ∧ (fmSspace w ≠ 0 ∨ fmSrc w ≠ 0)) then 0x40
  else if len = 0 then 0
  else if d.fmChunks n = 0 then 5
  else if (fmReads w && bad3 (fmSspace w) (fmSrc w)) || bad3 (fmDspace w) (fmDst w) then 1
  else if (fmReads w ∧ d.fmEnd (fmSspace w) < fmSrc w + len) ∨ d.fmEnd (fmDspace w) < fmDst w + len then 2
  else if dOp w = 0x20 ∧ fmSspace w = fmDspace w ∧ fmSrc w < fmDst w + len ∧ fmDst w < fmSrc w + len then 3
  else 0

/-- The completion of a descriptor (Table — Flume completion fields). -/
def fmComp (q : FmRun) (reason : Nat) : Comp :=
  compOf q.desc (BitVec.ofNat 32 (b2n (decide (reason ≠ 0)) + b2n q.mism.isSome * 2 + reason * 256)) (BitVec.ofNat 32 q.done)
    (match q.mism with | some o => BitVec.ofNat 32 o | none => 0xFFFFFFFF)

/-- Channel n enters STOPPED (R306). -/
def Dev.fmStopped (d : Dev) (n : Nat) : Dev := (d.setRf (Reg.fmnStat n) 2 0 1).raise (272 + n)

/-- Channel n's descriptor ends without a bus error (R302, R306). -/
def Dev.fmFinish (d : Dev) (n : Nat) (q : FmRun) (reason : Nat) : Dev :=
  let d1 := ((d.setFm n none).fmShow n false 0).complete q.ring q.id (fmComp q reason)
  let d2 := d1.raiseIf q.mism.isSome 305
  if d2.rb (Reg.fmnCtl n) 0 then d2.fmStopped n
  else d2.raiseIf (d2.ring q.ring).passed.isEmpty (272 + n)

/-! ### Bus errors -/

/-- What a bus error records (FM_FAULT): cause, space, write side, owner, channel (when known) and address. -/
structure FmError where
  cause : Nat
  space : Nat
  write : Bool
  owner : Nat
  chan  : Option Nat
  addr  : Nat
  deriving DecidableEq, Repr

/-- A bus error (R308): every channel stops, descriptors in progress end with 0x04, and the first fault is recorded. -/
def Dev.fmError (d : Dev) (e : FmError) : Dev :=
  if d.rb Reg.fmStat 0 then d.setRb Reg.fmFault 13 true
  else
    let chan := match e.chan with | some c => if e.write then 128 + c * 256 else 0 | none => 0
    let d1 := (((d.setReg Reg.fmFault (BitVec.ofNat 32 (e.cause + e.space * 8 + b2n e.write * 32 + e.owner * 64 + chan))).setReg
      Reg.fmFaddrLo (BitVec.ofNat 32 e.addr)).setReg Reg.fmFaddrHi (BitVec.ofNat 32 (e.addr / 2 ^ 32))).setRb Reg.fmStat 0 true
    ((List.range 32).foldl (fun (d : Dev) n =>
      let d2 := match d.fm n with
        | some q => ((d.setFm n none).fmShow n false 0).complete q.ring q.id (fmComp { q with mism := none } 4)
        | none => d
      d2.setRf (Reg.fmnStat n) 2 0 2) d1).raise 304

/-! ### Moving data -/

/-- A local access of a channel is granted: the bytes exist and the owner's rights cover them (R21, R297). -/
def Dev.fmMay (d : Dev) (own id off len : Nat) (wr : Bool) : Bool :=
  decide (off + len ≤ d.memBytes id) && d.permits own (memTarget id) off len wr

/-- Host requests split where a 4 KiB boundary of the host address falls (R304). -/
def hostSplit (addr len : Nat) : List (Nat × Nat) :=
  let h := min len (4096 - addr % 4096)
  if h < len then [(addr, h), (addr + h, len - h)] else [(addr, len)]

/-- Why a host access of a function fails: Bus Master Enable 0, or the link down (R307). -/
def Dev.fmHostFault (d : Dev) (own : Nat) : Option Nat :=
  if !(d.fn own).bme then some 3 else if !d.link then some 4 else none

/-- What a piece's read gives: its bytes, a wait for data or for LPDDR5, or a fault with its cause and address. -/
inductive FmRead where
  | data (bs : List Byte) (rest : List Byte)
  | waits
  | fault (cause addr : Nat)
  deriving DecidableEq, Repr

/-- A piece of one region is read (R304, R307); `host` holds the bytes that host reads return. -/
def Dev.fmRead (d : Dev) (own space addr len : Nat) (host : List Byte) : FmRead × Dev :=
  if space = 0 then
    match d.fmHostFault own with
    | some c => (.fault c addr, d)
    | none =>
      if host.length < len then (.waits, d)
      else (.data (host.take len) (host.drop len), (hostSplit addr len).foldl (fun d e => d.send (.hostRead own e.1 e.2)) d)
  else
    let id := fmMem space
    match (rangeFrom addr len).find? (fun a => !d.fmMay own id a 1 false) with
    | some a => (.fault 1 a, d.violate 6 own (memTarget id) false a)
    | none =>
      if id = 0 ∧ !d.memReady then (.waits, d)
      else
        let d1 := d.noteReads id 6 addr len
        match (rangeFrom addr len).find? (fun a => d.badAt id a 1) with
        | some a => (.fault 5 a, d1)
        | none => (.data ((List.range len).map (fun i => d.peek id (addr + i))) host, d1)

/-- Bytes stand in the buffer from byte off, and are read back: the second part names an uncorrectable word (R307). -/
def Dev.fmBuffer (d : Dev) (off : Nat) (bs : List Byte) : (List Byte × Option Nat) × Dev :=
  let d1 := d.writeBytes 17 6 off bs
  let d2 := (wordsOf 17 off bs.length).foldl (fun (d : Dev) a =>
    match d.decodeWord a 8 with
    | .good _ => d
    | .corrected _ b => d.countCorrection 17 6 a b
    | .bad => d.logBad 17 6 a) d1
  (((List.range bs.length).map (fun i => d1.peek 17 (off + i)), (rangeFrom off bs.length).find? (fun o => d1.badAt 17 o 1)), d2)

/-- A piece is written (R304, R307): how many of its bytes were, with the cause of a fault, or none while it waits. -/
def Dev.fmWrite (d : Dev) (own space addr : Nat) (bs : List Byte) : Option (Nat × Nat) × Dev :=
  if space = 0 then
    match d.fmHostFault own with
    | some c => (some (0, c), d)
    | none =>
      (some (bs.length, 0), (hostSplit addr bs.length).foldl (fun d e => d.hostWrite own e.1 ((bs.drop (e.1 - addr)).take e.2)) d)
  else
    let id := fmMem space
    let stops (i : Nat) : Bool := !d.fmMay own id (addr + i) 1 true ||
      (partWord id addr (addr + bs.length) (addr + i) && !d.fmMay own id (addr + i) 1 false)
    let ok := match (List.range bs.length).find? stops with | some i => i | none => bs.length
    if id = 0 ∧ !d.memReady then (none, d)
    else
      let d1 := d.writeBytes id 6 addr (bs.take ok)
      if ok < bs.length then (some (ok, 1), d1.violate 6 own (memTarget id) true (addr + ok)) else (some (ok, 0), d1)

/-- The first place where two byte lists differ. -/
def firstDiff (a b : List Byte) : Option Nat := (List.range (min a.length b.length)).find? (fun i => a[i]? ≠ b[i]?)

/-- Bytes of the piece that begins at byte k of the descriptor, of at most m (R303). -/
def Dev.fmPiece (d : Dev) (n : Nat) (q : FmRun) (m : Nat) : Nat :=
  let a := (if fmReads q.desc then fmSrc q.desc else fmDst q.desc) + q.done
  let size := if dOp q.desc = 0x22 ∧ d.fmChunks n = 1 then 2048 else 4096
  min (min (size - a % size) (fmLen q.desc - q.done)) m

/-- One piece of channel n's descriptor, of at most m bytes (R300, R303 to R305, R307); none when it cannot go on now. -/
def Dev.fmStep (d : Dev) (n : Nat) (q : FmRun) (m : Nat) (host : List Byte) : Option (List Byte) × Dev :=
  let w := q.desc
  let own := ringFn q.ring
  let k := d.fmPiece n q m
  let sa := fmSrc w + q.done
  let da := fmDst w + q.done
  let err (e : Dev) (cause space addr : Nat) (wr : Bool) : Option (List Byte) × Dev :=
    (none, e.fmError ⟨cause, space, wr, own, some n, addr⟩)
  if dOp w = 0x21 then
    let bs := (List.range k).map (fun i => BitVec.ofNat 8 (fmValue w / 2 ^ (8 * ((da + i) % 4))))
    match d.fmWrite own (fmDspace w) da bs with
    | (none, d1) => (none, d1)
    | (some (c, f), d1) =>
      let d2 := d1.setFm n (some { q with done := q.done + c })
      if f = 0 then (some host, d2) else err d2 f (fmDspace w) (da + c) true
  else
    match d.fmRead own (fmSspace w) sa k host with
    | (.waits, d1) => (none, d1)
    | (.fault c a, d1) => err d1 c (fmSspace w) a false
    | (.data bs rest, d1) =>
      match d1.fmBuffer (d.fmBase n) bs with
      | ((_, some o), d2) => err d2 6 (fmSspace w) (sa + (o - d.fmBase n)) false
      | ((bs1, none), d2) =>
        if dOp w = 0x20 then
          match d2.fmWrite own (fmDspace w) da bs1 with
          | (none, _) => (none, d)
          | (some (c, f), d3) =>
            let d4 := d3.setFm n (some { q with done := q.done + c })
            if f = 0 then (some rest, d4) else err d4 f (fmDspace w) (da + c) true
        else
          match d2.fmRead own (fmDspace w) da k rest with
          | (.waits, _) => (none, d)
          | (.fault c a, d3) => err d3 c (fmDspace w) a false
          | (.data cs rest1, d3) =>
            let second := d.fmBase n + (if d.fmChunks n = 1 then 2048 else 4096)
            match d3.fmBuffer second cs with
            | ((_, some o), d4) => err d4 6 (fmDspace w) (da + (o - second)) false
            | ((cs1, none), d4) =>
              match firstDiff bs1 cs1 with
              | some i => (some rest1, d4.setFm n (some { q with done := q.done + i, mism := some (q.done + i) }))
              | none => (some rest1, d4.setFm n (some { q with done := q.done + k }))

/-- Nothing of a descriptor remains to be moved. -/
def FmRun.over (q : FmRun) : Bool := q.mism.isSome || decide (fmLen q.desc ≤ q.done)

/-- Pieces of channel n's descriptor until it stands at byte `upTo`, is over, or cannot go on. -/
def Dev.fmRuns (n upTo : Nat) : Nat → List Byte → Dev → Dev
  | 0, _, d => d
  | f + 1, host, d =>
    match d.fm n with
    | none => d
    | some q =>
      if q.over || decide (upTo ≤ q.done) then d
      else
        match d.fmStep n q (upTo - q.done) host with
        | (some rest, d1) => Dev.fmRuns n upTo f rest d1
        | (none, d1) => d1

/-- COPY, FILL or COMPARE of ring r (R297 to R301): the channel takes the descriptor and moves its first bytes. -/
def Dev.fmTake (d : Dev) (r op upTo : Nat) (host : List Byte) : Dev :=
  let n := d.ringUnit r
  if !d.rb Reg.fmCtl 0 || !d.laddered ladFlume || (d.fm n).isSome || decide (d.fmState n ≠ 0) || decide (d.ringType r ≠ 3) then d
  else
    match d.front r [op] with
    | none => d
    | some (id, w) =>
      let q : FmRun := ⟨r, id, w, 0, none⟩
      let d1 := d.takePassed r 1
      let c := d.fmCheck n w
      if c ≠ 0 ∨ fmLen w = 0 then d1.fmFinish n q c
      else Dev.fmRuns n (min upTo (fmLen w)) (upTo + 1) host ((d1.setFm n (some q)).fmShow n true op)

/-- FLUME_DESCRIPTOR_COMPLETE (R302): what remains is moved, and the descriptor completes. -/
def Dev.fmComplete (d : Dev) (n : Nat) (host : List Byte) : Dev :=
  match d.fm n with
  | none => d
  | some q =>
    let d1 := Dev.fmRuns n (fmLen q.desc) (fmLen q.desc / 2048 + 3) host d
    match d1.fm n with
    | some q1 => if q1.over then d1.fmFinish n q1 0 else d1
    | none => d1

/-- BUS_ERROR (R307): an error that the outside brings about, with the event that goes with its cause. -/
def Dev.fmOutside (d : Dev) (e : FmError) : Dev :=
  if e.cause = 0 || (!d.rb Reg.fmStat 0 && (List.range 32).all (fun n => (d.fm n).isNone)) then d
  else
    let id := fmMem e.space
    let d1 := match e.cause with
      | 1 => d.violate 6 e.owner (memTarget id) e.write e.addr
      | 2 => (d.setRb (Reg.hiStat e.owner) 0 true).raise 504
      | 5 => d.reportBad id 6 (wordAt id e.addr)
      | 7 => d.raise 2
      | _ => d
    d1.fmError e

/-- Channel n has host-space work in progress (R307). -/
def Dev.fmHostWork (d : Dev) (n : Nat) : Bool :=
  match d.fm n with
  | some q => decide (fmDspace q.desc = 0) || (fmReads q.desc && decide (fmSspace q.desc = 0))
  | none => false

/-- The PCIe link goes down: a bus error while a channel has host-space work (R267, R307). -/
def Dev.fmLinkDown (d : Dev) : Dev :=
  match (List.range 32).find? d.fmHostWork with
  | some n =>
    match d.fm n with
    | some q =>
      let rd := fmReads q.desc && decide (fmSspace q.desc = 0)
      d.fmError ⟨4, 0, !rd, ringFn q.ring, some n, (if rd then fmSrc q.desc else fmDst q.desc) + q.done⟩
    | none => d
  | none => d

/-! ### Stopping and resuming -/

/-- A write of FMn_CTL (R306). -/
def Dev.fmCtlWrite (d : Dev) (n : Nat) (stop : Bool) : Dev :=
  let d1 := d.setRb (Reg.fmnCtl n) 0 stop
  if stop then (if d1.fmState n = 0 ∧ (d1.fm n).isNone then d1.fmStopped n else d1)
  else if d1.fmState n = 1 then d1.setRf (Reg.fmnStat n) 2 0 0
  else d1

/-- RESUME (R309). -/
def Dev.fmResume (d : Dev) : Dev :=
  if !d.rb Reg.fmStat 0 then d
  else
    (List.range 32).foldl (fun (d : Dev) n =>
      if d.fmState n ≠ 2 then d
      else if d.rb (Reg.fmnCtl n) 0 then d.fmStopped n
      else d.setRf (Reg.fmnStat n) 2 0 0) ((d.setReg Reg.fmFault 0).setRb Reg.fmStat 0 false)

/-! ### Checks -/

/-- The checks over the shadow set (R303, R311). -/
def Dev.fmSetCheck (d : Dev) (commit : Bool) : Nat × Nat :=
  let chunks (n : Nat) : Nat := d.rf (Reg.fmnCfg n) 4 0
  let bad (n : Nat) : Nat :=
    if 16 < chunks n then 0x40
    else if commit && (d.fm n).isSome && decide (chunks n ≠ d.fmChunks n) then 0x46
    else 0
  if 64 < (List.range 32).foldl (fun s n => s + chunks n) 0 then (0x42, 0)
  else
    match (List.range 32).find? (fun n => bad n ≠ 0) with
    | some n => (bad n, n)
    | none => (0, 0)

/-- The block's shadowed registers. -/
def fmKeys : List Nat := (List.range 32).map Reg.fmnCfg

/-- FM_CTL.EN is set (R311). -/
def Dev.fmEnable (d : Dev) : Dev :=
  if d.rb Reg.fmCtl 0 then d
  else
    let r := d.fmSetCheck false
    let d1 := d.report Reg.fmChk 8 r
    if r.1 ≠ 0 then d1 else ((d1.setRb Reg.fmCtl 0 true).apply fmKeys).ask ladFlume

/-- FM_CTL.EN is cleared (R311). -/
def Dev.fmDisable (d : Dev) : Dev :=
  if !d.rb Reg.fmCtl 0 then d
  else
    match (List.range 32).find? (fun n => (d.fm n).isSome) with
    | some n => d.refuse Reg.fmChk (chkWord 0x46 8 n)
    | none => (d.setRb Reg.fmCtl 0 false).unask ladFlume

/-- FM_COMMIT.GO (R311, R421). -/
def Dev.fmGo (d : Dev) : Dev :=
  if !d.rb Reg.fmCtl 0 then d
  else
    let r := d.fmSetCheck true
    let d1 := d.report Reg.fmChk 8 r
    if r.1 ≠ 0 then d1 else d1.apply fmKeys

end Sys2Proof.Machine
end

