-- ==== Sys2Proof/Machine/Ledger.lean ====
section
/-! DEFINITION. The ledger store (R350 to R362): the SRAM and its access pairs, the write queue, the slots in flash, the
hold-up check, commits, power failure and restore. -/

namespace Sys2Proof.Machine

/-- The device with the ledger's state replaced. -/
def Dev.setLg (d : Dev) (q : LedgerSt) : Dev := { d with lg := q }

/-! ### The SRAM -/

/-- The memory number of the ledger SRAM and its words (R350). -/
def lgMem : Nat := 18
def lgWords : Nat := 32768

/-- A master may reach a word of the SRAM: masters 1 to 5 and 14, as table 4 grants (R350, R411). -/
def Dev.lgMay (d : Dev) (m w : Nat) (wr : Bool) : Bool :=
  ((1 ≤ m && m ≤ 5) || m == 14) && d.permits m 4 (4 * w) 4 wr

/-- What OP makes of the word's value (R351). -/
def lgResult (op old v : Nat) : Nat :=
  if op = 0 then v else if op = 1 then (old + v) % 2 ^ 32 else min (old + v) (2 ^ 32 - 1)

/-- A write or add changes the SRAM; DIRTY is set when the word changes (R360). -/
def Dev.lgStore (d : Dev) (e : LgWrite) : Dev :=
  let off := 4 * e.word
  let old := d.peekN lgMem off 4
  let v := lgResult e.op old e.data.toNat
  let d1 := if e.op = 0 then d else d.noteReads lgMem e.master off 4
  let d2 := d1.writeBytes lgMem e.master off (toBytes 4 v)
  if v ≠ old ∨ d.badAt lgMem off 4 then d2.setRb Reg.lgStat 1 true else d2

/-- A write reaches the SRAM: dropped while sealed, queued while a commit runs, and stalled when the queue is full or an
earlier write of the same master stands stalled (R352, R360). -/
def Dev.lgWrite (d : Dev) (e : LgWrite) : Dev :=
  let q := d.lg
  if q.stalled.any (fun x => x.master = e.master) then d.setLg { q with stalled := q.stalled ++ [e] }
  else if d.rb Reg.lgStat 2 then d.setRf Reg.lgStat 31 16 (satInc (d.rf Reg.lgStat 31 16) 65535)
  else if q.run.isNone then d.lgStore e
  else if q.queue.length < 256 then d.setLg { q with queue := q.queue ++ [e] }
  else d.setLg { q with stalled := q.stalled ++ [e] }

/-- The value a master's read of a word returns: the result of every earlier write, applied or queued (R352). -/
def Dev.lgValue (d : Dev) (m w : Nat) : Word :=
  let earlier := (d.lg.queue ++ d.lg.stalled.filter (fun e => e.master = m)).filter (fun e => e.word = w)
  BitVec.ofNat 32 (earlier.foldl (fun v e => lgResult e.op v e.data.toNat) (d.peekN lgMem (4 * w) 4))

/-- A read of a word by a master, checked by table 4 (R350). -/
def Dev.lgRead (d : Dev) (m w : Nat) : Word × Dev :=
  if d.lgMay m w false then (d.lgValue m w, d.noteReads lgMem m (4 * w) 4) else (0, d.violate m 0 4 false (4 * w))

/-- A write of a word by a master, checked by table 4 (R350). -/
def Dev.lgWriteAs (d : Dev) (e : LgWrite) : Dev :=
  if d.lgMay e.master e.word true then d.lgWrite e else d.violate e.master 0 4 true (4 * e.word)

/-- The word that byte b of the custodian's window names (R351). -/
def Dev.lgWinWord (d : Dev) (b : Nat) : Nat := d.rf Reg.lgWin 3 0 * 2048 + b / 4

/-- LG_LPADDRm advances after an access that the LG target accepted (R351). -/
def Dev.lgAdvance (d : Dev) (m : Nat) : Dev :=
  if d.rb (Reg.lgLpaddr m) 31 then d.setRf (Reg.lgLpaddr m) 14 0 ((d.rf (Reg.lgLpaddr m) 14 0 + 1) % lgWords) else d

/-- A write of LG_LPDATAm by its LP (R351). -/
def Dev.lgPairWrite (d : Dev) (m : Nat) (v : Word) : Dev :=
  (d.lgWriteAs ⟨2 + m, d.rf (Reg.lgLpaddr m) 14 0, d.rf (Reg.lgLpaddr m) 17 16, v⟩).lgAdvance m

/-- A read of LG_LPDATAm by its LP (R351). -/
def Dev.lgPairRead (d : Dev) (m : Nat) : Word × Dev :=
  let (v, d1) := d.lgRead (2 + m) (d.rf (Reg.lgLpaddr m) 14 0)
  (v, d1.lgAdvance m)

/-- A write of LG_LPADDRm: the reserved OP is refused with 0x40. -/
def Dev.lgAddrWrite (d : Dev) (m : Nat) (v : Word) : Dev :=
  if fld v 17 16 = 3 then d.refuse Reg.lgChk 0x40 else d.codeWrite (Reg.lgLpaddr m) v

/-- LEDGER_QUEUE_STALL_RELEASE (R352): the oldest stalled write proceeds once there is room. -/
def Dev.lgRelease (d : Dev) : Dev :=
  match d.lg.stalled with
  | [] => d
  | e :: rest =>
    if d.lg.run.isSome && decide (256 ≤ d.lg.queue.length) && !d.rb Reg.lgStat 2 then d
    else
      let d0 := d.setLg { d.lg with stalled := [] }
      let d1 := d0.lgWrite e
      d1.setLg { d1.lg with stalled := d1.lg.stalled ++ rest }

/-! ### Slots -/

/-- One bit of a reflected CRC-32C (R354). -/
def crc32cBit (c : Nat) : Nat := if c % 2 = 1 then (c / 2) ^^^ 0x82F63B78 else c / 2

/-- A byte enters a reflected CRC-32C. -/
def crc32cByte (c : Nat) (b : Byte) : Nat := (List.range 8).foldl (fun c _ => crc32cBit c) (c ^^^ b.toNat)

/-- CRC-32C with initial value and final XOR 0xFFFF_FFFF (R354). -/
def crc32c (bs : List Byte) : Nat := bs.foldl crc32cByte 0xFFFFFFFF ^^^ 0xFFFFFFFF

/-- Blocks of the partition, in partition order (R354, R295). -/
def Dev.lgBlocks (d : Dev) : List Nat :=
  let p := (d.reg Reg.asLgpart).toNat
  rangeFrom (physBlock p) (bitsOf p 27 24)

/-- The partition is present (step 1). -/
def Dev.lgPresent (d : Dev) : Bool := d.ledgerPresent && decide (2 ≤ d.lgBlocks.length)

/-- The partition lies where restore looks (R354). -/
def Dev.lgPlaced (d : Dev) : Bool :=
  let p := (d.reg Reg.asLgpart).toNat
  decide (chipOf p = 0) && decide (physBlock p + bitsOf p 27 24 ≤ 16)

/-- The target block of the next commit (R356): the blocks after the newest valid slot's in turn, and never that block;
all of the partition from its first when no slot is valid or its block lies outside. -/
def Dev.lgTarget (d : Dev) : Nat :=
  let bs := d.lgBlocks
  let newest := d.rf Reg.lgSlot 3 0
  let order := match bs.findIdx? (· == newest) with
    | some i => if d.rf Reg.lgSeq 31 0 = 0 then bs else bs.drop (i + 1) ++ bs.take i
    | none => bs
  order.getD (d.lg.skip % order.length) 0

/-- The SEQ of the next slot (R356). -/
def Dev.lgNextSeq (d : Dev) : Nat :=
  let s := d.rf Reg.lgSeq 31 0
  if s + 1 = 2 ^ 32 then 1 else s + 1

/-- Pages of data in a slot (R354). -/
def Dev.lgPages (d : Dev) : Nat := 131072 / (1024 * d.pageSectors)

/-- The header bytes 0 to 27 (Table — Slot header). -/
def Dev.lgHeader (d : Dev) (r : LgRun) : List Byte :=
  toBytes 4 0x4C475231 ++ toBytes 2 1 ++ toBytes 2 (d.rf Reg.asGeom 1 0) ++ toBytes 4 r.seq ++ toBytes 4 r.block ++
  toBytes 2 r.snap.dot ++ toBytes 2 r.snap.line ++ toBytes 2 r.snap.frame ++ toBytes 2 0 ++
  toBytes 4 (if r.from'.isNone then 1 else 0)

/-- A page is programmed, after the prefix when AS_LGPFX is not 0 (R295, R354). -/
def Dev.lgProgram (d : Dev) (block page : Nat) (bs : List Byte) : Dev :=
  let pfx := d.rf Reg.asLgpfx 7 0
  let d1 := if pfx = 0 then d else d.send (.flash 5 pfx [])
  d1.send (.flash 2 (flashAddr (block * 64) page) (pageImage d.pageSectors bs))

/-! ### The hold-up check -/

/-- V of R359 in mV, from the conversion and the divider's ratio. -/
def holdupVolt (code ratio : Nat) : Nat := code * 1800 * ratio / 1048576

/-- The check of R359. -/
def holdupOk (volt c vmin p : Nat) : Bool :=
  decide (vmin < volt) && decide (15000000 * p ≤ c * (volt * volt - vmin * vmin))

/-- Step 2: the conversion is evaluated and LG_HLAST written. A voltage beyond 16 bits has no stated VMV: its low half is
free. The answer is whether it passed, VMV, and the device. -/
def Dev.lgHoldup (d : Dev) (code : Nat) : Bool × Nat × Dev :=
  let v := holdupVolt code (d.lf Reg.lgHdiv 15 0)
  let ok := holdupOk v (d.lf Reg.lgHcap 19 0) (d.lf Reg.lgHvmin 15 0) (d.lf Reg.lgHpwr 19 0)
  let (mv, d1) := if v < 65536 then (v, d) else let (x, e) := d.free; (x.toNat % 65536, e)
  (ok, mv, d1.setReg Reg.lgHlast (BitVec.ofNat 32 (code + b2n ok * 4096 + mv * 65536)))

/-! ### Commits -/

/-- A completion of the ledger (Table — Ledger completion fields). -/
def lgComp (w : Desc) (reason code block seq mv : Nat) : Comp :=
  compOf w (BitVec.ofNat 32 (b2n (decide (reason ≠ 0)) + reason * 256 + code * 65536 + block * 268435456)) (BitVec.ofNat 32 seq)
    (BitVec.ofNat 32 mv)

/-- The completion of a commit's descriptor, if it has one. -/
def Dev.lgAnswer (d : Dev) (from' : Option (Nat × Nat × Desc)) (reason code block seq mv : Nat) : Dev :=
  match from' with
  | some (r, id, w) => d.complete r id (lgComp w reason code block seq mv)
  | none => d

/-- A commit fails: LG_LAST, the completion and event 503 (R355). -/
def Dev.lgFailed (d : Dev) (from' : Option (Nat × Nat × Desc)) (reason code block mv : Nat) : Dev :=
  ((d.setReg Reg.lgLast (BitVec.ofNat 32 (reason + b2n from'.isNone * 256))).lgAnswer from' reason code block 0 mv).raise 503

/-- The checks of step 1 (Table — Commit steps). -/
def Dev.lgStep1 (d : Dev) : Nat :=
  if !d.rb Reg.lgCtl 0 then 0x45 else if !d.lgPresent then 1 else if !d.lgPlaced then 2 else if !d.rb Reg.asCtl 0 then 3 else 0

/-- A commit begins (steps 1 to 4): its checks, the hold-up check on the conversion given, the snapshot edge, and the
erase of the target block. -/
def Dev.lgBegin (d : Dev) (from' : Option (Nat × Nat × Desc)) (code : Nat) : Dev :=
  let block := if d.lgPresent then d.lgTarget else 0
  let c := d.lgStep1
  if c ≠ 0 then d.lgFailed from' c 0 block 0
  else
    let (ok, mv, d1) := d.lgHoldup code
    if !ok then d1.lgFailed from' 0x48 code block mv
    else
      let run : LgRun := ⟨from', block, d.lgNextSeq, d.beam, code, mv⟩
      (d1.setLg { d1.lg with run := some run }).send (.flash 1 (flashAddr (block * 64) 0) [])

/-- The check of the LG set (Table — LG reason codes). -/
def Dev.lgCheck (d : Dev) : Nat :=
  if !d.lgPlaced then 2
  else if d.rf Reg.lgHcap 19 0 = 0 ∨ d.rf Reg.lgHdiv 15 0 = 0 ∨ d.rf Reg.lgHpwr 19 0 = 0 then 0x40
  else 0

/-- The shadowed registers of the LG block. -/
def lgKeys : List Nat := [Reg.lgCfg, Reg.lgHcap, Reg.lgHdiv, Reg.lgHvmin, Reg.lgHpwr]

/-- The LG set is checked, and applied now or at the end of the commit running (R362). -/
def Dev.lgTake (d : Dev) : Nat × Dev :=
  let c := d.lgCheck
  if c ≠ 0 then (c, d.refuse Reg.lgChk (BitVec.ofNat 32 c))
  else
    let d1 := d.setReg Reg.lgChk 0
    (0, if d.lg.run.isSome then d1.setLg { d1.lg with apply := true } else d1.apply lgKeys)

/-- A commit ends: the write queue is applied in order, a waiting LG set takes effect, and a waiting emergency commit starts
when the SRAM is still dirty (R352, R360, R362). -/
def Dev.lgEnd (d : Dev) (code : Nat) : Dev :=
  let q := d.lg
  let d1 := q.queue.foldl Dev.lgStore (d.setLg { q with queue := [], run := none, emerg := false, apply := false })
  let d2 := if q.apply then (d1.lgTake).2 else d1
  if q.emerg && d2.rb Reg.lgStat 1 then d2.lgBegin none code else d2

/-- The commit running fails at step 4, 5 or 6 (R355, R356). -/
def Dev.lgAbort (d : Dev) (reason code : Nat) : Dev :=
  match d.lg.run with
  | none => d
  | some r =>
    let d1 := d.lgFailed r.from' reason r.code r.block r.volt
    (d1.setLg { d1.lg with skip := d1.lg.skip + 1 }).lgEnd code

/-- One page of the SRAM as master 14 reads it (step 5); a word that table 4 does not let it read gives 0. -/
def Dev.lgPage (d : Dev) (i : Nat) : List Byte × Dev :=
  let n := 256 * d.pageSectors
  let ws := rangeFrom (n * i) n
  (ws.flatMap (fun w => if d.lgMay 14 w false then toBytes 4 (d.peekN lgMem (4 * w) 4) else toBytes 4 0),
   ws.foldl (fun (d : Dev) w => if d.lgMay 14 w false then d.noteReads lgMem 14 (4 * w) 4 else d.violate 14 0 4 false (4 * w)) d)

/-- A page holds an uncorrectable word that master 14 reads. -/
def Dev.lgPageBad (d : Dev) (i : Nat) : Bool :=
  let n := 256 * d.pageSectors
  (rangeFrom (n * i) n).any (fun w => d.lgMay 14 w false && d.badAt lgMem (4 * w) 4)

/-- Step 5: the data pages in order; the answer is the data programmed, or none at an uncorrectable word. -/
def Dev.lgPagesOut (block : Nat) : List Nat → List Byte → Dev → Option (List Byte) × Dev
  | [], bs, d => (some bs, d)
  | i :: rest, bs, d =>
    let (pg, d1) := d.lgPage i
    if d.lgPageBad i then (none, d1) else Dev.lgPagesOut block rest (bs ++ pg) (d1.lgProgram block i pg)

/-- LEDGER_COMMIT_COMPLETE (R355): the pages, the header page, then step 7. -/
def Dev.lgFinish (d : Dev) (code : Nat) : Dev :=
  match d.lg.run with
  | none => d
  | some r =>
    match Dev.lgPagesOut r.block (List.range d.lgPages) [] d with
    | (none, d1) => d1.lgAbort 6 code
    | (some bs, d1) =>
      let head := d.lgHeader r
      let page := head ++ toBytes 4 (crc32c (head ++ bs))
      let d2 := d1.lgProgram r.block d.lgPages (page ++ List.replicate (1024 * d.pageSectors - 32) 0xFF)
      let d3 := ((d2.setReg Reg.lgSeq (BitVec.ofNat 32 r.seq)).setReg Reg.lgSlot (BitVec.ofNat 32 (r.block % 16))).setRb Reg.lgStat 1 false
      let d4 := (d3.setLg { d3.lg with skip := 0 }).setRb Reg.lgLast 8 r.from'.isNone
      ((d4.lgAnswer r.from' 0 r.code (r.block % 16) r.seq r.volt).raise 502).lgEnd code

/-- The descriptor's payload is reserved (R358). -/
def lgClean (w : Desc) : Bool := dN w 16 48 == 0

/-- COMMIT (R355, R358): the next descriptor of ring r, when no commit is running. -/
def Dev.lgCommit (d : Dev) (r code : Nat) : Dev :=
  match d.lg.run, d.front r [0x60] with
  | none, some (id, w) =>
    let d1 := d.takePassed r 1
    if lgClean w then d1.lgBegin (some (r, id, w)) code else d1.lgFailed (some (r, id, w)) 0x40 0 0 0
  | _, _ => d

/-- HCHECK (R358): step 2 alone. -/
def Dev.lgHcheck (d : Dev) (r code : Nat) : Dev :=
  match d.front r [0x61] with
  | some (id, w) =>
    let d1 := d.takePassed r 1
    if !lgClean w then d1.complete r id (lgComp w 0x40 0 0 0 0)
    else
      let (ok, mv, d2) := d1.lgHoldup code
      d2.complete r id (lgComp w (if ok then 0 else 0x48) code 0 0 mv)
  | none => d

/-! ### Power failure -/

/-- PFAIL_N's filter output falls (R360): event 5, the seal, and an emergency commit of a dirty SRAM. In HOLD event 5
waits for the wake and no commit is needed. -/
def Dev.pfailFall (d : Dev) (code : Nat) : Dev :=
  if !d.rb Reg.lgStat 3 || decide (d.power = 3) then d
  else
    let d1 := (d.setRb Reg.lgStat 3 false).setRb Reg.lgStat 2 true
    if d.power = 2 then d1.setLg { d1.lg with told := true }
    else
      let d2 := d1.raise 5
      if d2.rb Reg.lgCtl 0 && d2.rb Reg.lgStat 1 then
        if d2.lg.run.isSome then d2.setLg { d2.lg with emerg := true } else d2.lgBegin none code
      else d2

/-- PFAIL_N_RISE (R360). -/
def Dev.pfailRise (d : Dev) : Dev := if d.power = 3 then d else d.setRb Reg.lgStat 3 true

/-- LG_CTL.UNSEAL (R360). -/
def Dev.lgUnseal (d : Dev) : Dev := if d.rb Reg.lgStat 3 then d.setRb Reg.lgStat 2 false else d

/-! ### Restore and registers -/

/-- Sequence a is newer than b (R354). -/
def seqNewer (a b : Nat) : Bool := decide (1 ≤ (a + 2 ^ 32 - b) % 2 ^ 32) && decide ((a + 2 ^ 32 - b) % 2 ^ 32 < 2 ^ 31)

/-- The newest valid slot (R361). -/
def newestSlot (ss : List SlotImage) : Option SlotImage :=
  (ss.filter (fun s => s.valid)).foldl (fun best s =>
    match best with
    | none => some s
    | some b => if seqNewer s.seq.toNat b.seq.toNat then some s else some b) none

/-- Restore (R361): with the LEDGER strap set the newest valid slot fills the SRAM. -/
def Dev.lgRestore (d : Dev) (ss : List SlotImage) : Dev :=
  if !d.ledgerPresent then d.setRf Reg.lgStat 5 4 2
  else
    match newestSlot ss with
    | none => d
    | some s =>
      ((((d.writeBytes lgMem 14 0 ((List.range 131072).map (fun i => s.data.getD i 0))).setReg Reg.lgSeq s.seq).setReg Reg.lgSlot
        (s.block.setWidth 32)).setRf Reg.lgStat 5 4 1)

/-- LG_CTL.EN is set (R362). -/
def Dev.lgEnable (d : Dev) : Dev :=
  if d.rb Reg.lgCtl 0 then d
  else
    let (c, d1) := d.lgTake
    if c ≠ 0 then d1 else d1.setRb Reg.lgCtl 0 true

/-- A write of LG_CTL: the enable, then UNSEAL. -/
def Dev.lgCtlWrite (d : Dev) (v : Word) : Dev :=
  let d1 := if bit v 0 then d.lgEnable else d.setRb Reg.lgCtl 0 false
  if bit v 1 then d1.lgUnseal else d1

/-- LG_COMMIT.GO (R362, R421). -/
def Dev.lgGo (d : Dev) : Dev := if d.rb Reg.lgCtl 0 then (d.lgTake).2 else d

/-- LG_STAT as it reads: BUSY and QLEVEL beside the bits the register holds. -/
def Dev.lgStatRead (d : Dev) : Word := setFld (setBit (d.reg Reg.lgStat) 0 d.lg.run.isSome) 15 7 d.lg.queue.length

end Sys2Proof.Machine
end

