-- ==== Sys2Proof/Machine/Link.lean ====
section
/-! DEFINITION. The Gwyn Link (R363 to R377): election, training, the schedule, line packets, slots and their delivery,
messages, and loss of sync. -/

namespace Sys2Proof.Machine

/-- The device with the Link node replaced. -/
def Dev.setGl (d : Dev) (q : LinkSt) : Dev := { d with gl := q }

/-! ### Coding -/

/-- One bit of the CRC-16 of ITU-T V.41 (R367). -/
def crc16Bit (c : Nat) : Nat := if 32768 ≤ c then (2 * c - 65536) ^^^ 0x1021 else 2 * c

/-- A byte enters the CRC-16. -/
def crc16Byte (c : Nat) (b : Byte) : Nat := (List.range 8).foldl (fun c _ => crc16Bit c) (c ^^^ (b.toNat * 256))

/-- CRC-16 with initial value 0xFFFF, not reflected (R367). -/
def crc16 (bs : List Byte) : Nat := bs.foldl crc16Byte 0xFFFF

end Sys2Proof.Machine

namespace Sys2Proof

open Machine

/-- The header bytes FRAME to MID of a packet (Table — Line packet). -/
def Packet.head (p : Packet) : List Byte := toBytes 2 p.frame.toNat ++ toBytes 2 p.line.toNat ++ [p.cfg, p.mid]

/-- The header's HCRC is good. -/
def Packet.good (p : Packet) : Bool := decide (crc16 p.head = p.hcrc.toNat)

/-- A slot that its node wrote and that came with a good CRC (R371). -/
def LinkSlot.good (s : LinkSlot) : Bool := s.wrote && decide (crc16 s.bytes = s.crc.toNat)

/-- A slot that is absent. -/
def LinkSlot.none : LinkSlot := ⟨false, [], 0⟩

/-- The fields of a slot (Table — Slot). -/
def LinkSlot.state (s : LinkSlot) : Nat := ofBytes (s.bytes.take 4)
def LinkSlot.mlen (s : LinkSlot) : Nat := (s.bytes.getD 4 0).toNat
def LinkSlot.first (s : LinkSlot) : Bool := (s.bytes.getD 5 0).getLsbD 0
def LinkSlot.last (s : LinkSlot) : Bool := (s.bytes.getD 5 0).getLsbD 1
def LinkSlot.data (s : LinkSlot) : List Byte := (s.bytes.drop 6).take s.mlen

/-- The packet as characters: the header, HCRC, then each slot with its CRC (Table — Line packet, without the commas). -/
def Packet.chars (p : Packet) : List Nat :=
  ((p.head ++ toBytes 2 p.hcrc.toNat) ++ p.slots.flatMap (fun s => s.bytes ++ toBytes 2 s.crc.toNat)).map (·.toNat)

end Sys2Proof

namespace Sys2Proof.Machine

/-! ### Status -/

/-- GL_STAT's fields. -/
def Dev.glState (d : Dev) : Nat := d.rf Reg.glStat 2 0
def Dev.glMaster (d : Dev) : Bool := d.rb Reg.glStat 3
def Dev.glNode (d : Dev) : Nat := d.rf Reg.glStat 7 4
def Dev.glNodes (d : Dev) : Nat := d.rf Reg.glStat 11 8 + 1
def Dev.glSlotBytes (d : Dev) : Nat := 8 * (d.rf Reg.glStat 13 12 + 1)
def Dev.inSched (d : Dev) : Bool := d.rb Reg.glStat 14

/-- The node's master timing is taken from the Link (R24, R373). -/
def Dev.glTimed (d : Dev) : Bool := decide (d.lf Reg.sysTbase 2 0 = 4)

/-- A cause of event 500 occurs: it is recorded, and the event raised once in a line (R376). -/
def Dev.glEvent (d : Dev) (cause : Nat) : Dev :=
  let d1 := d.setRb Reg.glStat (16 + cause) true
  if d1.gl.told then d1 else (d1.setGl { d1.gl with told := true }).raise 500

/-- The node leaves the schedule (R373, R376). -/
def Dev.glLeave (d : Dev) : Dev :=
  let d1 := d.setGl { d.gl with left := true }
  if d.inSched then (d1.setRb Reg.glStat 14 false).glEvent 0 else d1

/-- The node writes its own slot as a packet passes: it is in the schedule, or it takes its timing elsewhere (R368, R373). -/
def Dev.glWrites (d : Dev) : Bool := d.inSched || !d.glTimed

/-! ### Election (R365) -/

/-- CLAIM_SEND (R365). -/
def Dev.claimSend (d : Dev) : Dev :=
  if d.glState = 1 ∧ d.lb Reg.glCfg 0 ∧ !d.gl.silent then d.send (.link 0 [d.lf Reg.glCfg 15 8]) else d

/-- The master measures the ring: training starts with hop count 0, and every node leaves the schedule (R366). -/
def Dev.glTrain (d : Dev) : Dev :=
  let d1 := (if d.inSched then d.glLeave else d).setRf Reg.glStat 2 0 2
  (d1.setGl { d1.gl with ready := false, broken := false, good := 0, miss := 0, due := false }).send (.link 1 [0])

/-- CLAIM (R365): a claim with an ID arrives. -/
def Dev.claim (d : Dev) (id : Nat) : Dev :=
  let own := d.lf Reg.glCfg 15 8
  if d.glState = 0 then d
  else if !d.lb Reg.glCfg 0 then d.send (.link 0 [id])
  else if id < own then (d.setGl { d.gl with silent := true }).send (.link 0 [id])
  else if id = own ∧ d.glState = 1 then ((d.setRb Reg.glStat 3 true).setRf Reg.glStat 7 4 0).glTrain
  else d

/-! ### Training and the schedule (R366, R369) -/

/-- The output whose timing the master sends, while it runs (R368, R376). -/
def Dev.glPort (d : Dev) : Option Nat :=
  let x := d.lf Reg.glCfg 17 16
  if x < 3 ∧ (d.port x).run then some x else none

/-- The nominal line period in CCLK of the timing the master sends (R369, R376): of the output that MSRC names, else of its own
master timing. A genlock reference has none that the spec gives. -/
def Dev.glPeriod (d : Dev) : Option Nat :=
  match d.glPort with
  | some x => some (timingOf d.scanWord x).period
  | none =>
    match d.time.src with
    | some 3 => none
    | some x => if x < 3 then some (timingOf d.scanWord x).period else some 10000
    | none => some 10000

/-- The time a packet of n slots of s bytes takes in the schedule (R369). -/
def ringTime (rtt n s : Nat) : Nat := 1000 + rtt + 8 * (11 + n * (s + 2))

/-- The S code that the schedule rule chooses, if one fits (R369). -/
def chooseS (rtt n p : Nat) : Option Nat := [3, 2, 1, 0].find? (fun c => decide (ringTime rtt n (8 * (c + 1)) ≤ p))

/-- Training fails (R366). -/
def Dev.glFail (d : Dev) (code : Nat) : Dev :=
  (d.setRf Reg.glStat 2 0 4).refuse Reg.glChk (BitVec.ofNat 32 code)

/-- A slave's node number, N, S code and RTT; the node waits for line packets. -/
def Dev.glSetRing (d : Dev) (nm1 rtt scode : Nat) : Dev :=
  ((d.setRf Reg.glStat 11 8 nm1).setRf Reg.glStat 13 12 scode).setReg Reg.glRing
    (BitVec.ofNat 32 (rtt % 65536 + ringTime rtt (nm1 + 1) 8 % 65536 * 65536))

/-- TRAINING_SET (R366): a slave numbers itself and forwards the set; at the master the ring is measured. -/
def Dev.trainingSet (d : Dev) (count rtt : Nat) : Dev :=
  if d.glState = 0 then d
  else if d.glMaster then
    if d.glState ≠ 2 ∨ d.gl.ready then d
    else if 16 < count + 1 then d.glFail 2
    else
      let (p, d1) := match d.glPeriod with | some p => (p, d) | none => let (x, e) := d.free; (x.toNat, e)
      let d2 := d1.glSetRing count rtt 0
      match chooseS rtt (count + 1) p with
      | none => d2.glFail 1
      | some c =>
        let d3 := d2.glSetRing count rtt c
        (d3.setGl { d3.gl with ready := true, period := d.glPeriod }).send (.link 2 [count, rtt, c])
  else
    let d1 := ((if d.inSched then d.glLeave else d).setRf Reg.glStat 7 4 ((count + 1) % 16)).setRf Reg.glStat 2 0 2
    d1.send (.link 1 [count + 1])

/-- CONFIGURATION_SET (R366). -/
def Dev.configSet (d : Dev) (nm1 rtt scode : Nat) : Dev :=
  if d.glState ≠ 2 ∨ d.glMaster then d
  else
    let d1 := (d.glSetRing nm1 rtt scode).setRf Reg.glStat 2 0 3
    (d1.setGl { d1.gl with good := 0, miss := 0, got := false, left := false, frameX := false, part := [], full := [] }).send
      (.link 2 [nm1, rtt, scode])

/-- TRAINING_TIMEOUT (R366). -/
def Dev.trainTimeout (d : Dev) : Dev := if d.glState = 2 ∧ d.glMaster ∧ !d.gl.ready then d.glFail 2 else d

/-! ### Slots and messages (R370 to R372) -/

/-- STATE of the own slot at a line tick (R370). -/
def Dev.glOwnState (d : Dev) : Nat :=
  if d.lb Reg.glCfg 18 then
    (List.range 32).foldl (fun s i => s + (if d.level (d.lf Reg.glCfg 30 24 + i) then 2 ^ i else 0)) 0
  else (d.reg Reg.glState).toNat

/-- The own slot takes its values at a line tick: STATE, and the next fragment of the message being sent when the node
writes its slots (R370, R372). -/
def Dev.glForm (d : Dev) : Dev :=
  let s := d.glSlotBytes
  let q := d.gl
  let tx := match q.tx with | some ([], true) => none | t => t
  let (frag, first, last, tx1) := match tx with
    | some (bs, begun) =>
      if d.glWrites then (bs.take (s - 6), !begun, decide (bs.length ≤ s - 6), some (bs.drop (s - 6), true)) else ([], false, false, tx)
    | none => ([], false, false, none)
  let bytes := toBytes 4 d.glOwnState ++ [BitVec.ofNat 8 frag.length, BitVec.ofNat 8 (b2n first + 2 * b2n last)] ++ frag ++
    List.replicate (s - 6 - frag.length) 0
  d.setGl { q with tx := tx1, own := ⟨true, bytes, BitVec.ofNat 16 (crc16 bytes)⟩ }

/-- One node's slot of the delivered set: STATE, PEER, and the loss of a peer (R371, R376). -/
def Dev.glDeliverSlot (set : List LinkSlot) (d : Dev) (n : Nat) : Dev :=
  let s := set.getD n LinkSlot.none
  let ok := decide (n < d.glNodes) && s.good
  let was := d.rb Reg.glPeer n
  let d1 := (d.setReg (Reg.glSlot n) (BitVec.ofNat 32 (if ok then s.state else 0))).setRb Reg.glPeer n ok
  if was && !ok then d1.glEvent 1 else d1

/-- One node's fragment is processed; the answer is whether a message entered the queue (R372). -/
def Dev.glFragment (set : List LinkSlot) (a : Bool × Dev) (n : Nat) : Bool × Dev :=
  let d := a.2
  let s := set.getD n LinkSlot.none
  let q := d.gl
  let putAsm (m : Option (List Byte)) : Tab (Option (List Byte)) := Tab.put (fun _ => none) q.asm n m
  if !(decide (n < d.glNodes) && s.good) then (a.1, d.setGl { q with asm := putAsm none })
  else if s.mlen = 0 then a
  else
    let sofar := if s.first then some [] else Tab.get (fun _ => none) q.asm n
    match sofar with
    | none => a
    | some bs =>
      let msg := bs ++ s.data
      if !s.last then (a.1, d.setGl { q with asm := putAsm (some msg) })
      else if q.rx.length < 16 then (true, d.setGl { q with asm := putAsm none, rx := q.rx ++ [(n, msg)] })
      else
        (a.1, (d.setGl { q with asm := putAsm none }).setRf Reg.glStat 31 24 (satInc (d.rf Reg.glStat 31 24) 255))

/-- The set of the line two before is delivered (R371, R372). -/
def Dev.glDeliver (d : Dev) : Dev :=
  let set := d.gl.full
  let d1 := (List.range 16).foldl (Dev.glDeliverSlot set) d
  let (entered, d2) := (List.range 16).foldl (Dev.glFragment set) (false, d1)
  d2.raiseIf entered 501

/-- The Link's part of a line tick (R370, R371): a node in the schedule delivers, and every node forms its slot. -/
def Dev.glTick (d : Dev) : Dev :=
  if d.glState ≠ 3 then d else (if d.inSched then d.glDeliver else d).glForm

/-- The set of a new line takes its place, the one before it becoming complete with `done` (R371). -/
def Dev.glShift (d : Dev) (done part : List LinkSlot) : Dev := d.setGl { d.gl with full := done, part := part }

/-! ### Line packets (R367, R368, R373 to R375) -/

/-- LINE_PACKET_SEND (R367): the master starts its line's packet, slot 0 its own, the others as they last returned. -/
def Dev.packetSend (d : Dev) : Dev :=
  if d.glState ≠ 3 ∨ !d.glMaster ∨ !d.gl.due then d
  else
    let q := d.gl
    let n := d.glNodes
    let blank : LinkSlot := ⟨false, List.replicate d.glSlotBytes 0, 0⟩
    let p0 : Packet :=
      { frame := BitVec.ofNat 16 d.time.frame, line := BitVec.ofNat 16 d.time.line,
        cfg := BitVec.ofNat 8 (n - 1 + d.rf Reg.glStat 13 12 * 16), mid := BitVec.ofNat 8 (d.lf Reg.glCfg 15 8), hcrc := 0,
        slots := q.own :: (rangeFrom 1 (n - 1)).map (fun i => q.lap.getD i blank) }
    let p := { p0 with hcrc := BitVec.ofNat 16 (crc16 p0.head) }
    let tx := match q.tx with | some ([], true) => none | t => t
    (d.setGl { q with due := false, tx := tx }).send (.link 3 p.chars)

/-- A packet comes back to the master, or one of another master reaches it (R367, R374, R375). -/
def Dev.packetMaster (d : Dev) (p : Packet) : Dev :=
  let q := d.gl
  let mine := p.mid.toNat = d.lf Reg.glCfg 15 8 ∧ p.frame.toNat = d.time.frame ∧ p.line.toNat = d.time.line ∧ !q.due
  if !p.good then d
  else if !decide mine then
    let d1 := d.setGl { q with conflict := true, ready := false }
    ((((if d.inSched then d1.glLeave else d1).setRf Reg.glStat 2 0 4).glEvent 3).send (.link 3 p.chars))
  else if q.got then d
  else
    let set := q.own :: p.slots.drop 1
    let d1 := (d.glShift q.part set).setGl { (d.glShift q.part set).gl with got := true, good := q.good + 1, miss := 0, lap := p.slots }
    if q.broken ∧ 3 ≤ q.good + 1 then d1.glTrain else d1

/-- A slave's place in the schedule on a good header (R373): it joins at line 0 when its frame count agrees, and leaves when
the counts differ. -/
def Dev.glJudge (d : Dev) (p : Packet) : Dev :=
  let q := d.gl
  let agree := decide (p.frame.toNat = d.time.frame)
  let zero := decide (p.line = 0)
  if !d.glTimed then d.glLeave
  else if q.adopt ∧ zero then
    let d1 := { d with time := { d.time with frame := p.frame.toNat } }
    (d1.setGl { q with adopt := false, frameX := false, part := [], full := [] }).setRb Reg.glStat 14 true
  else if d.inSched then
    if agree then d else let d1 := d.glLeave; (d1.setGl { d1.gl with frameX := true }).glEvent 4
  else if q.frameX ∨ !zero ∨ (q.left ∧ q.good < 4) then d
  else if agree then (d.setGl { q with part := [], full := [] }).setRb Reg.glStat 14 true
  else (d.setGl { q with frameX := true }).glEvent 4

/-- A packet passes a slave (R364, R368, R370, R371, R373): it joins or leaves the schedule, collects the slots, and the
packet goes on with its own slot overwritten. -/
def Dev.packetSlave (d : Dev) (p : Packet) : Dev :=
  if d.glState ≠ 3 then d.send (.link 3 p.chars)
  else if !p.good then d.send (.link 3 p.chars)
  else
    let d1 := (d.setGl { d.gl with got := true, good := d.gl.good + 1, miss := 0 }).glJudge p
    let i := d1.glNode
    let q := d1.gl
    let writes := d1.glWrites
    let out := if writes then p.slots.set i q.own else p.slots
    let own := if writes then q.own else LinkSlot.none
    let done := q.part.take (i + 1) ++ p.slots.drop (i + 1)
    let d2 := d1.glShift (if q.part.isEmpty then [] else done) (p.slots.take i ++ [own])
    let tx := match q.tx with | some ([], true) => if writes then none else q.tx | t => t
    (d2.setGl { d2.gl with tx := tx }).send (.link 3 { p with slots := out }.chars)

/-- LINE_PACKET (R368). -/
def Dev.linePacket (d : Dev) (p : Packet) : Dev :=
  if d.glState = 0 then d
  else if d.glMaster ∧ d.glState = 3 then d.packetMaster p
  else d.packetSlave p

/-- A line of the master timing begins: what the line before failed to bring (R373, R374, R376), and the master's next packet. -/
def Dev.glLine (d : Dev) : Dev :=
  let q := d.gl
  if d.glState ≠ 3 then d.setGl { q with told := false, got := false }
  else
    let d0 := d.setGl { q with told := false, got := false, due := d.glMaster, miss := if q.got then 0 else q.miss + 1,
                               good := if q.got then q.good else 0 }
    if q.got then d0
    else if d.glMaster then
      let d1 := if q.lap.isEmpty && q.part.isEmpty then d0 else d0.glShift q.part [q.own]
      if 3 ≤ q.miss + 1 ∧ !q.broken then (d1.setGl { d1.gl with broken := true }).glEvent 2 else d1
    else
      let d1 := d0.glShift q.part []
      let d2 := if d.inSched then d1.glEvent 0 else d1
      if 3 ≤ q.miss + 1 ∧ d.inSched then
        let d3 := d2.glLeave
        { d3 with time := { d3.time with fly := d3.time.fly || decide (d3.time.src = some 4) } }
      else d2

/-! ### Registers and commits (R377) -/

/-- The check of the GL set; `now` is the set in force while the Link is enabled (R377). -/
def Dev.glCheck (d : Dev) (enabled : Bool) : Nat :=
  let w := d.reg Reg.glCfg
  let f := d.inForce Reg.glCfg
  if fld w 17 16 = 3 ∨ 96 < fld w 30 24 then 0x40
  else if !d.rb Reg.clkStat 7 then 0x45
  else if enabled ∧ (bit w 0 ≠ bit f 0 ∨ fld w 15 8 ≠ fld f 15 8 ∨ fld w 17 16 ≠ fld f 17 16) then 0x46
  else 0

/-- GL_CTL.EN is set (R377): the check, and the election from the ladder's grant. -/
def Dev.glEnable (d : Dev) : Dev :=
  if d.rb Reg.glCtl 0 then d
  else
    let c := d.glCheck false
    if c ≠ 0 then d.refuse Reg.glChk (BitVec.ofNat 32 c)
    else
      let d1 := (((d.setReg Reg.glChk 0).setRb Reg.glCtl 0 true).apply [Reg.glCfg])
      (d1.setGl { LinkSt.init with rx := d1.gl.rx, tx := d1.gl.tx }).ask ladLink

/-- GL_CTL.EN is cleared: GL_TX stops at once (R377). -/
def Dev.glDisable (d : Dev) : Dev :=
  if !d.rb Reg.glCtl 0 then d
  else
    let d1 := (d.glLeave.setRb Reg.glCtl 0 false).unask ladLink
    let d2 := d1.setRf Reg.glStat 14 0 0
    (d2.setGl { LinkSt.init with rx := d2.gl.rx, told := d2.gl.told }).send (.link 4 [])

/-- GL_COMMIT.GO (R377, R421). -/
def Dev.glGo (d : Dev) : Dev := if d.rb Reg.glCtl 0 then d.setGl { d.gl with commit := true } else d

/-- RESYNC (R366, R373, R375): the master retrains, a slave adopts the header's frame, and after a conflict election restarts. -/
def Dev.glResync (d : Dev) : Dev :=
  if !d.rb Reg.glCtl 0 ∨ d.glState = 0 then d
  else if d.gl.conflict then
    let d1 := ((d.setRb Reg.glStat 3 false).setRb Reg.glStat 14 false).setRf Reg.glStat 2 0 1
    d1.setGl { d1.gl with conflict := false, silent := false, ready := false }
  else if d.glMaster then d.glTrain
  else if d.glState = 3 then d.setGl { d.gl with adopt := true }
  else d

/-- A write of GL_CTL. -/
def Dev.glCtlWrite (d : Dev) (v : Word) : Dev :=
  let d1 := if bit v 0 then d.glEnable else d.glDisable
  if bit v 1 then d1.glResync else d1

/-- GL_TXCTL is written: LEN, and GO sends a message (R372). -/
def Dev.glSend (d : Dev) (len : Nat) : Dev :=
  if d.gl.tx.isSome then d.setRb Reg.glStat 15 true
  else if len = 0 ∨ 64 < len then d.refuse Reg.glChk 0x40
  else
    let bs := (List.range len).map (fun i => BitVec.ofNat 8 ((d.reg (Reg.glTxdata (i / 4))).toNat / 2 ^ (8 * (i % 4))))
    d.setGl { d.gl with tx := some (bs, false) }

/-- A write of GL_TXCTL. -/
def Dev.glTxWrite (d : Dev) (v : Word) : Dev :=
  let d1 := d.codeWrite Reg.glTxctl v
  if bit v 31 then d1.glSend (fld v 6 0) else d1

/-- GL_RXCTL.POP (R372). -/
def Dev.glPop (d : Dev) : Dev := d.setGl { d.gl with rx := d.gl.rx.drop 1 }

/-- GL_TXCTL, GL_RXCTL and GL_RXDATAi as they read. -/
def Dev.glTxRead (d : Dev) : Word := setBit (d.reg Reg.glTxctl) 7 d.gl.tx.isSome
def Dev.glRxRead (d : Dev) : Word :=
  match d.gl.rx with
  | [] => 0
  | (n, bs) :: _ => BitVec.ofNat 32 (d.gl.rx.length + n * 256 + bs.length * 4096)
def Dev.glDataRead (d : Dev) (i : Nat) : Word :=
  match d.gl.rx with
  | [] => 0
  | (_, bs) :: _ => BitVec.ofNat 32 (ofBytes ((bs.drop (4 * i)).take 4))

/-- The Link at a master frame start (R366, R376, R377): the commit, the first packets after training, and the retraining
that a change of line period brings. -/
def Dev.glFrame (d : Dev) : Dev :=
  let d1 :=
    if d.gl.commit then
      let e := d.setGl { d.gl with commit := false }
      let c := e.glCheck true
      if c ≠ 0 then e.refuse Reg.glChk (BitVec.ofNat 32 c) else (e.setReg Reg.glChk 0).apply [Reg.glCfg]
    else d
  if d1.glMaster ∧ d1.glState = 2 ∧ d1.gl.ready then
    let d2 := (d1.setRf Reg.glStat 2 0 3).setGl { d1.gl with ready := false, good := 0, miss := 0, got := true, lap := [], part := [], full := [] }
    d2.setRb Reg.glStat 14 d2.glTimed
  else if d1.glMaster ∧ d1.glState = 3 ∧ d1.glPeriod ≠ d1.gl.period then d1.glTrain
  else d1

/-- In HOLD both ports are idle and the node leaves the schedule (R376). -/
def Dev.glHold (d : Dev) : Dev := if d.glState = 3 then d.glLeave else d

/-- At thaw the ring, which saw a break, is trained again (Table — Freeze). -/
def Dev.glThaw (d : Dev) : Dev := if d.glMaster ∧ d.glState = 3 then d.glTrain else d

end Sys2Proof.Machine
end

