-- ==== Sys2Proof/Machine/Irq.lean ====
section
/-! DEFINITION. The interrupt controller's commands (R395 to R408): source writes, commits, Weir releases, the event queue
of a host function, and what its registers read. Raising and presentation stand in Flags. -/

namespace Sys2Proof.Machine

/-- The bits of IC_SRCn that are reserved. -/
def srcReserved : Word := 0xC0E00080

/-- Source e is locked (R407). -/
def Dev.srcLocked (d : Dev) (e : Nat) : Bool := d.rb (Reg.icSrclock (e / 32)) (e % 32)

/-- The reason a source write is refused, in table order; 0 for none (R407, R408). -/
def Dev.srcCheck (d : Dev) (m e : Nat) (v : Word) : Nat :=
  if bit v 0 && decide (fld v 6 1 = 0) then 1
  else if m ≠ 1 ∧ bit v 2 ≠ bit (d.reg (Reg.icSrc e)) 2 then 3
  else if v &&& srcReserved ≠ 0 then 0x40
  else 0

/-- IC_SRCn is written by master m (R395, R397, R407, R408). -/
def Dev.srcWrite (d : Dev) (m e : Nat) (v : Word) : Dev :=
  if eventReserved e then d
  else if d.srcLocked e ∧ m ≠ 1 then d.violate m 0 8 true (0x1000 + 4 * e)
  else
    let c := d.srcCheck m e v
    if c ≠ 0 then d.refuse Reg.icChk (chkWord c 8 e)
    else
      let d1 := (d.setReg (Reg.icSrc e) v).setRf Reg.icChk 7 0 0
      (if bit v 0 then d1 else d1.setPend e PendSt.init).present

/-- The used boundaries come first and rise strictly (R401). -/
def tiersOk : List Nat → Bool
  | [] => true
  | [_] => true
  | a :: b :: rest => (if a = 0 then decide (b = 0) else decide (b = 0) || decide (a < b)) && tiersOk (b :: rest)

/-- The seven boundaries of the shadow set. -/
def Dev.shadowTiers (d : Dev) : List Nat :=
  [d.rf Reg.icTier0 7 0, d.rf Reg.icTier0 15 8, d.rf Reg.icTier0 23 16, d.rf Reg.icTier0 31 24, d.rf Reg.icTier1 7 0,
   d.rf Reg.icTier1 15 8, d.rf Reg.icTier1 23 16]

/-- An LP has a running handler or a saved context (R402). -/
def Dev.lpHolds (d : Dev) : Bool := (List.range 4).any (fun n => decide ((d.lp n).cause ≠ 0xFFFF) || !(d.lp n).stack.isEmpty)

/-- IC_COMMIT.GO (R401, R402). -/
def Dev.icCommitGo (d : Dev) : Dev :=
  let c := if !tiersOk d.shadowTiers then 0x41 else if d.lpHolds then 0x46 else 0
  if c ≠ 0 then d.refuse Reg.icChk (chkWord c 8 0)
  else ((d.setRf Reg.icChk 7 0 0).apply [Reg.icCfg, Reg.icTier0, Reg.icTier1]).present

/-- IC_CTL and IC_THRm take effect on presentation. -/
def Dev.icPlainWrite (d : Dev) (a : Nat) (v : Word) : Dev := (d.codeWrite a v).present

/-- IC_WEIRw: a group that is set to hold nothing holds none of its sources (R403). -/
def Dev.weirWrite (d : Dev) (w : Nat) (v : Word) : Dev :=
  let d1 := d.codeWrite (Reg.icWeir w) v
  if d1.weirOff w then (d1.release w).present else d1

/-- WEIR_TIMEOUT (R403): the time threshold of a group that holds sources is reached. -/
def Dev.weirTimeout (d : Dev) (w : Nat) : Dev :=
  if (d.weir w).hc = 0 ∨ d.rf (Reg.icWeir w) 31 16 = 0 then d else (d.release w).present

/-- A source is held by its Weir group. -/
def heldPend (q : PendSt) : Bool := decide (q.count ≠ 0) && !q.elig

/-- WEIR_BYPASS (R404): a target that is idle releases every group that holds a source aimed at it. -/
def Dev.weirBypass (d : Dev) (t : Nat) : Dev :=
  if !d.idle t then d
  else
    let held := d.ic.pend.filter (fun e => heldPend e.2 && srcTgt (d.reg (Reg.icSrc e.1)) t)
    let groups := (held.map (fun e => srcGroup (d.reg (Reg.icSrc e.1)))).eraseDups
    (groups.foldl (fun d g => d.release g) d).present

/-! ### The event queue (R264, R406) -/

/-- SIZE of function f's event queue. -/
def Dev.eqSize (d : Dev) (f : Nat) : Nat := 2 ^ d.rf (Reg.hiEqcfg f) 4 0

/-- The event queue is full (R264). -/
def Dev.eqFull (d : Dev) (f : Nat) : Bool := decide (d.eqHeld f = d.eqSize f)

/-- The bytes of an event entry (Table — Event entry). -/
def eventBytes (phase : Bool) (n : Nat) (b : Beam) (count : Nat) : List Byte :=
  toBytes 4 (b2n phase + n * 256) ++ toBytes 2 b.dot ++ toBytes 2 b.line ++ toBytes 2 b.frame ++ toBytes 2 count ++ toBytes 4 0

/-- The vectors of the burst being issued to function f. -/
def Dev.burstOf (d : Dev) (f : Nat) : List Nat := Tab.get (fun _ => []) d.ic.burst f
/-- The device with those vectors replaced. -/
def Dev.setBurst (d : Dev) (f : Nat) (vs : List Nat) : Dev :=
  { d with ic := { d.ic with burst := Tab.put (fun _ => []) d.ic.burst f vs } }

/-- Whether an entry can be issued to function f now, and for which source. -/
def Dev.eventNext (d : Dev) (f : Nat) : Option Nat :=
  if d.rb Reg.icCtl 0 && d.ready f && d.mayIssue f && !d.eqFull f then d.next f else none

/-- A burst ends: one message for each vector of it (R406). -/
def Dev.endBurst (d : Dev) (f : Nat) : Dev := (d.burstOf f).foldl (fun d v => d.msix f v) (d.setBurst f [])

/-- EVENT_ENTRY_WRITE (R406): the entry of the most urgent source presented to function f; a burst ends with the last. -/
def Dev.eventEntry (d : Dev) (f : Nat) : Dev :=
  match d.eventNext f with
  | none => d.endBurst f
  | some n =>
    let q := d.fn f
    let p := d.pend n
    let phase := q.eqCount / d.eqSize f % 2 = 0
    let addr := d.addr64 (Reg.hiEqbaseLo f) (Reg.hiEqbaseHi f) + 16 * (q.eqCount % d.eqSize f)
    let d1 := d.hostWrite f addr (eventBytes phase n p.beam p.count)
    let d2 := (d1.setFn f { q with eqCount := (q.eqCount + 1) % 2 ^ 32, eqStall := false }).take n f
    let v := srcVec (d2.reg (Reg.icSrc n))
    let d3 := d2.setBurst f (if (d2.burstOf f).contains v then d2.burstOf f else d2.burstOf f ++ [v])
    if (d3.eventNext f).isSome then d3 else d3.endBurst f

/-! ### Reads -/

/-- IC_PENDi as it reads. -/
def Dev.icPendRead (d : Dev) (i : Nat) : Word :=
  BitVec.ofNat 32 ((List.range 32).foldl (fun s j => s + (if (d.pend (32 * i + j)).count = 0 then 0 else 2 ^ j)) 0)

/-- IC_LPn_STAT as it reads. -/
def Dev.icLpRead (d : Dev) (n : Nat) : Word :=
  match d.next (2 + n) with
  | some e => BitVec.ofNat 32 (e + 512 + (d.lp n).pri * 65536)
  | none => BitVec.ofNat 32 ((d.lp n).pri * 65536)

/-- IC_WEIRw_STAT as it reads. -/
def Dev.icWeirRead (d : Dev) (w : Nat) : Word :=
  BitVec.ofNat 32 ((d.weir w).hc +
    256 * b2n (d.ic.pend.any (fun e => heldPend e.2 && decide (srcGroup (d.reg (Reg.icSrc e.1)) = w))))

/-- IC_SRCn as it reads: a reserved number's register reads 0 (R395). -/
def Dev.icSrcRead (d : Dev) (e : Nat) : Word := if eventReserved e then 0 else d.reg (Reg.icSrc e)

end Sys2Proof.Machine
end

