-- ==== Sys2Proof/Machine/HostIf.lean ====
section
/-! DEFINITION. The host interface (R242 to R270): the doorbell page, fetching and passing descriptors, refusals of its own,
the LP mailbox, timeouts and stalls, link loss, and the enables of the interface and of its rings. -/

namespace Sys2Proof.Machine

/-! ### Fetching (R258) -/

/-- A scene group that the descriptors stand in is still missing members (R46). -/
def groupOpen : Nat → List Desc → Bool
  | 0, _ => false
  | _, [] => false
  | n + 1, w :: rest =>
    if dOp w = 1 then (if groupLen w ≤ rest.length + 1 then groupOpen n (rest.drop (groupLen w - 1)) else true) else groupOpen n rest

/-- Ring r serves a pipe and the descriptors passed last are an unfinished group. -/
def Dev.inGroup (d : Dev) (r : Nat) : Bool :=
  decide (d.ringType r < 2) && groupOpen ((d.ring r).passed.length + 1) ((d.ring r).passed.map (·.2))

/-- The Headgate fetches nothing from its frame ring: four scenes wait, or the fed port is stopped with its EN at 1 (R58,
R431). -/
def Dev.frameBlocked (d : Dev) (p : Nat) : Bool :=
  decide (4 ≤ (d.gate p).pend.length) || ((d.pipePort p).isSome && (d.feed p).isNone)

/-- Ring r fetches (R243, R258, R263, R267). -/
def Dev.ringFetches (d : Dev) (r : Nat) : Bool :=
  let q := d.ring r
  d.ringEn r && !q.err && !q.stopped && d.mayIssue (ringFn r) && !(decide (d.ringType r < 2) && d.frameBlocked (d.ringType r))

/-- The next descriptors of ring r are asked of host memory, at most n (R249, R258). -/
def Dev.fetchMore (r : Nat) : Nat → Dev → Dev
  | 0, d => d
  | n + 1, d =>
    let q := d.ring r
    let ahead := (q.asked + 2 ^ 32 - q.head) % 2 ^ 32
    if d.ringFetches r && decide (q.asked ≠ q.tail) && decide (ahead < 8) then
      let addr := d.addr64 (Reg.hiRingBaseLo r) (Reg.hiRingBaseHi r) + 64 * (q.asked % d.ringSize r)
      Dev.fetchMore r n ((d.setRing r { q with asked := (q.asked + 1) % 2 ^ 32 }).send (.hostRead (ringFn r) addr 64))
    else d

/-! ### Passing (R251, R253, R260, R263) -/

/-- The opcodes a ring type accepts (Table — Opcodes). -/
def typeOps : Nat → List Nat
  | 0 => [0, 1, 2, 3] | 1 => [0, 1, 2, 3] | 2 => [0, 0x10] | 3 => [0, 0x20, 0x21, 0x22]
  | 4 => [0, 0x30, 0x31, 0x32, 0x33, 0x34, 0x35, 0x36] | 5 => [0, 0x40] | 6 => [0, 0x50] | _ => [0, 0x60, 0x61]

/-- MBOX's fields (R262). -/
def mbLp (w : Desc) : Nat := dN w 16 1
def mbLen (w : Desc) : Nat := dN w 17 1
def mbOff (w : Desc) : Nat := dN w 18 2

/-- MBOX's fields hold (R262). -/
def mboxOk (w : Desc) : Bool :=
  decide (mbLp w < 4) && mbLen w % 4 == 0 && decide (4 ≤ mbLen w) && decide (mbLen w ≤ 40) && mbOff w % 4 == 0 &&
  decide (mbOff w + mbLen w ≤ 32768)

/-- The deadline of the header applies on rings of this type (R253). -/
def deadlineRing (t : Nat) : Bool := decide (2 ≤ t) && decide (t ≠ 4)

/-- The reason for which the host interface refuses a descriptor itself, 0 for none (R263). -/
def Dev.hiRefusal (d : Dev) (r : Nat) (w : Desc) : Nat :=
  let t := d.ringType r
  if !(typeOps t).contains (dOp w) then 0x20
  else if dOp w = 1 then 0
  else if !dClean w || (if dOp w = 3 then decide (dArg w = 0) || decide (4 < dArg w) else decide (dArg w ≠ 0)) ||
    (deadlineRing t && dDl w && d.deadlineBad w) || (decide (dOp w = 0x40) && !mboxOk w) then 0x23
  else 0

/-- The front descriptor of ring r is held by its deadline (R253). -/
def Dev.heldByDeadline (d : Dev) (r : Nat) (w : Desc) : Bool := deadlineRing (d.ringType r) && dDl w && !d.deadlineDue w

/-- The engine of ring r takes a further descriptor now: the one passed before has been taken up, and the engine's own
conditions hold (R58, R215, R306, R431). -/
def Dev.engineTakes (d : Dev) (r : Nat) : Bool :=
  let t := d.ringType r
  let n := d.ringUnit r
  (d.ring r).passed.isEmpty &&
  (if t < 2 then !d.frameBlocked t
   else if t = 3 then d.rb Reg.fmCtl 0 && decide (d.fmState n = 0) && !d.rb (Reg.fmnCtl n) 0
   else if t = 4 then !d.auFull && !(match d.au.load with | some (q, _, _) => decide (q = r) | none => false)
   else true)

/-- The front descriptor leaves the fetched ones, HEAD counting it (R258). -/
def RingSt.shift (q : RingSt) : RingSt := { q with fetched := q.fetched.drop 1, head := (q.head + 1) % 2 ^ 32 }

/-- One descriptor of ring r is passed to its engine or refused, if one can be; none when nothing happens. -/
def Dev.passOne (d : Dev) (r : Nat) : Option Dev :=
  let q := d.ring r
  let id := q.head
  if !d.ringEn r || q.stopped || d.cqFull r then none
  else
    match q.fetched with
    | [] =>
      if !q.unread then none
      else
        let d1 := d.setRing r { q with unread := false, head := (q.head + 1) % 2 ^ 32, asked := (q.head + 1) % 2 ^ 32 }
        if d.inGroup r then some (d1.sceneUnread r)
        else some (d1.setRing r { d1.ring r with issue := q.issue ++ [(id, some ⟨0, 0, refuseWord 0x24, 0, 0, false⟩)] })
    | w :: _ =>
      if d.inGroup r then some (d.setRing r { q.shift with passed := q.passed ++ [(id, w)] })
      else if dFence w && !q.issue.isEmpty then none
      else if d.hiRefusal r w ≠ 0 then
        some (d.setRing r { q.shift with issue := q.issue ++ [(id, some (compOf w (refuseWord (d.hiRefusal r w)) 0 0))] })
      else if d.heldByDeadline r w || !d.engineTakes r then none
      else
        let d1 := d.setRing r { q.shift with passed := [(id, w)], issue := q.issue ++ [(id, none)] }
        some (if d.ringType r = 4 then d1.auEnter r else d1)

/-- Ring r passes what it can, at most n descriptors. -/
def Dev.passes (r : Nat) : Nat → Dev → Dev
  | 0, d => d
  | n + 1, d => match d.passOne r with | some d1 => Dev.passes r n d1 | none => d

/-- Ring r passes what it can and fetches what follows (R258). -/
def Dev.pump (d : Dev) (r : Nat) : Dev := Dev.fetchMore r 8 (Dev.passes r 10 d)

/-- Every enabled ring, in ring order. -/
def Dev.pumpAll (d : Dev) : Dev := (allRings.filter d.ringEn).foldl (fun d r => d.pump r) d

/-! ### Polls and arrivals -/

/-- A poll of function f's page (R243, R255). -/
def Dev.pollOne (d : Dev) (f : Nat) : Dev :=
  let q := d.fn f
  let skip := d.setRf (Reg.hiStat f) 31 16 (satInc (d.rf (Reg.hiStat f) 31 16) 65535)
  if !d.rb (Reg.hiCtl f) 0 then d
  else if !q.bme || q.dbOut then skip
  else if !d.link then d
  else (d.setFn f { q with dbOut := true }).send (.hostRead f (d.addr64 (Reg.hiDbbaseLo f) (Reg.hiDbbaseHi f)) 0x204)

/-- DOORBELL_POLL (R255): the poll that the last poll line set. -/
def Dev.doorbellPoll (d : Dev) : Dev :=
  if !d.time.pollDue then d
  else ({ d with time := { d.time with pollDue := false } }.pollOne 0).pollOne 1

/-- The rings of function f. -/
def fnRings (f : Nat) : List Nat := if f = 0 then List.range 64 else rangeFrom 64 4

/-- Ring r takes its sample: TAIL and the completion queue's head (R249, R255, R263). -/
def Dev.sampleRing (d : Dev) (ws : List Word) (r : Nat) : Dev :=
  let q := d.ring r
  if !d.ringEn r || q.err then d.setRing r { q with cqHead := (ws.getD (64 + ringNo r) 0).toNat }
  else
    let tail := (ws.getD (ringNo r) 0).toNat
    let q1 := { q with tail := tail, cqHead := (ws.getD (64 + ringNo r) 0).toNat }
    if d.ringSize r < (tail + 2 ^ 32 - q.head) % 2 ^ 32 then
      d.setRing r { q1 with err := true, tail := q.tail, issue := q.issue ++ [(q.head, some ⟨0, 0, refuseWord 0x21, 0, 0, false⟩)] }
    else d.setRing r q1

/-- DOORBELL_READ_COMPLETE (R255, R258): the 129 words of function f's page are its sample. -/
def Dev.doorbellRead (d : Dev) (f : Nat) (ws : List Word) : Dev :=
  let q := d.fn f
  if !q.dbOut then d
  else
    let d1 := d.setFn f { q with dbOut := false, eqHead := (ws.getD 128 0).toNat }
    ((fnRings f).foldl (fun (d : Dev) r => d.sampleRing ws r) d1).pumpAll

/-- DESCRIPTOR_ARRIVAL (R258). -/
def Dev.descriptorArrival (d : Dev) (r : Nat) (w : Desc) : Dev :=
  let q := d.ring r
  if !d.ringEn r || q.stopped || q.unread || decide (q.outstanding = 0) || decide (8 ≤ q.fetched.length) then d
  else (d.setRing r { q with fetched := q.fetched ++ [w] }).pump r

/-- COMPLETION_WRITE (R251). -/
def Dev.completionWrite (d : Dev) (r : Nat) : Dev := (d.writeCompletion r).pump r

/-- NOP (R260). -/
def Dev.nop (d : Dev) (r : Nat) : Dev :=
  match d.front r [0] with
  | some (id, w) => ((d.takePassed r 1).complete r id (compOf w 0 0 0)).pump r
  | none => d

/-- MBOX (R262): the bytes go into the DMEM of the LP named, as master 0. -/
def Dev.mbox (d : Dev) (r : Nat) : Dev :=
  match d.front r [0x40] with
  | some (id, w) =>
    let n := mbLp w
    let pl := placeFn0 (0x900000 + 0x40000 * n + 0x20000 + mbOff w)
    let d1 := d.takePassed r 1
    if d.permits 0 pl.target pl.off (mbLen w) true then
      (d1.writeBytes (11 + n) 0 (mbOff w) (toBytes (mbLen w) (dN w 24 (mbLen w)))).complete r id (compOf w 0 0 0)
    else (d1.violate 0 0 pl.target true pl.off).complete r id (compOf w (refuseWord 0x44) 0 0)
  | none => d

/-! ### Failures (R265 to R267) -/

/-- HOST_READ_TIMEOUT (R265). -/
def Dev.doorbellTimeout (d : Dev) (f : Nat) : Dev :=
  if !(d.fn f).dbOut then d
  else ((d.setFn f { d.fn f with dbOut := false }).setRb (Reg.hiStat f) 0 true).raise 504

/-- The oldest descriptor read of ring r fails: the ring stops, and the descriptor is refused with 0x24 (R265). -/
def Dev.descriptorTimeout (d : Dev) (r : Nat) : Dev :=
  let q := d.ring r
  if !d.ringEn r || q.stopped || q.unread || decide (q.outstanding = 0) then d
  else
    let d1 := d.setRing r { q with err := true, unread := true, asked := (q.head + q.fetched.length + 1) % 2 ^ 32 }
    ((d1.setRb (Reg.hiStat (ringFn r)) 0 true).raise 504).pump r

/-- A completion of ring r waits for room (R251). -/
def Dev.cqWaits (d : Dev) (r : Nat) : Bool :=
  d.cqFull r && (match (d.ring r).issue with | (_, some _) :: _ => true | _ => false)

/-- STALL_TIMEOUT of a ring (R266). -/
def Dev.ringStall (d : Dev) (r : Nat) : Dev :=
  let f := ringFn r
  if !d.cqWaits r || (d.ring r).stalled || decide (d.rf (Reg.hiStallto f) 7 0 = 0) then d
  else ((d.setRing r { d.ring r with stalled := true }).setRf (Reg.hiStat f) 7 1 (ringNo r)).raise 504

/-- STALL_TIMEOUT of an event queue (R266). -/
def Dev.queueStall (d : Dev) (f : Nat) : Dev :=
  if !d.eqFull f || (d.fn f).eqStall || decide (d.rf (Reg.hiStallto f) 7 0 = 0) then d
  else ((d.setFn f { d.fn f with eqStall := true }).setRf (Reg.hiStat f) 7 1 0x7F).raise 504

/-- A ring stopped by the loss of the link: what waits to be written to the host is dropped (R267). -/
def RingSt.cut (q : RingSt) : RingSt := { q with stopped := true, issue := q.issue.filter (fun e => e.2.isNone), unread := false }

/-- PCIE_LINK_DOWN (R267). -/
def Dev.linkDown (d : Dev) : Dev :=
  if !d.link then d
  else
    let d1 := (allRings.filter d.ringEn).foldl (fun (d : Dev) r => d.setRing r (d.ring r).cut) d
    let d2 := [0, 1].foldl (fun (d : Dev) f => (d.setFn f { d.fn f with dbOut := false }).setBurst f []) d1
    ({ d2 with link := false }.raise 7).fmLinkDown

/-- PCIE_LINK_UP (R267). -/
def Dev.linkUp (d : Dev) : Dev := if d.link then d else { d with link := true }.raise 7

/-- A mask bit of function f's vector is cleared: a pending message is sent (R247). -/
def Dev.msixUnmask (d : Dev) (f v : Nat) : Dev :=
  let d1 := d.setRb (Reg.hiMsixT f (4 * v + 3)) 0 false
  if d1.rb (Reg.hiMsixP f (v / 32)) (v % 32) && d1.mayIssue f then
    (d1.setRb (Reg.hiMsixP f (v / 32)) (v % 32) false).msix f v
  else d1

/-- A write of an MSI-X table word (R247). -/
def Dev.msixWrite (d : Dev) (f i : Nat) (v : Word) : Dev :=
  if i % 4 = 3 ∧ d.rb (Reg.hiMsixT f i) 0 ∧ !bit v 0 then (d.codeWrite (Reg.hiMsixT f i) v).msixUnmask f (i / 4)
  else d.codeWrite (Reg.hiMsixT f i) v

/-! ### Enables (R268, R270) -/

/-- A 64-bit address register pair is 4 KiB aligned. -/
def Dev.aligned4k (d : Dev) (lo : Nat) : Bool := decide (d.rf lo 11 0 = 0)

/-- The checks of HI_CTL.EN (Table — HI reason codes). -/
def Dev.hiCheck (d : Dev) (f : Nat) : Nat :=
  let l := d.rf (Reg.hiEqcfg f) 4 0
  if !d.aligned4k (Reg.hiDbbaseLo f) || !d.aligned4k (Reg.hiEqbaseLo f) then 1
  else if l < 4 ∨ 16 < l then 2
  else if !(d.fn f).bme then 4
  else 0

/-- HI_CTL.EN is set (R270). -/
def Dev.hiEnable (d : Dev) (f : Nat) : Dev :=
  if d.rb (Reg.hiCtl f) 0 then d
  else
    let c := d.hiCheck f
    if c ≠ 0 then d.refuse (Reg.hiChk f) (chkWord c 8 0x7F)
    else
      let d1 := ((d.setReg (Reg.hiChk f) 0).setRb (Reg.hiCtl f) 0 true).setRf (Reg.hiStat f) 31 16 0
      (d1.setFn f { d1.fn f with eqHead := 0, eqCount := 0, eqStall := false }).present

/-- HI_CTL.EN is cleared (R421). -/
def Dev.hiDisable (d : Dev) (f : Nat) : Dev :=
  ((d.setRb (Reg.hiCtl f) 0 false).setFn f { d.fn f with commit := false }).present

/-- HI_COMMIT.GO (R270, R421): HI_CFG is function 0's. -/
def Dev.hiGo (d : Dev) (f : Nat) : Dev := if f = 0 then d.setFn 0 { d.fn 0 with commit := true } else d

/-- The HI commit at a master frame start (R270). -/
def Dev.hiCommitAt (d : Dev) : Dev :=
  if !(d.fn 0).commit then d
  else
    let d1 := d.setFn 0 { d.fn 0 with commit := false }
    let n := d.rf (Reg.hiCfg 0) 6 0
    if n = 0 ∨ 64 < n then d1.refuse (Reg.hiChk 0) (chkWord 0x40 8 0x7F) else (d1.setReg (Reg.hiChk 0) 0).apply [Reg.hiCfg 0]

/-- Another enabled ring serves the pipe or the Flume channel of ring r (R248). -/
def Dev.ringTaken (d : Dev) (r : Nat) : Bool :=
  let t := d.ringType r
  (allRings.filter (fun o => decide (o ≠ r) && d.ringEn o)).any (fun o =>
    (decide (t < 2) && decide (d.ringType o = t)) || (decide (t = 3) && decide (d.ringType o = 3) && decide (d.ringUnit o = d.ringUnit r)))

/-- The checks of HI_RINGn_CFG.EN (Table — HI reason codes, R248, R268). -/
def Dev.ringCheck (d : Dev) (r : Nat) : Nat :=
  let f := ringFn r
  let l := d.rf (Reg.hiRingCfg r) 5 1
  let t := d.ringType r
  if !d.aligned4k (Reg.hiRingBaseLo r) || !d.aligned4k (Reg.hiRingCqLo r) then 1
  else if l < 4 ∨ 16 < l then 2
  else if (f = 0 ∧ t = 7) ∨ (f = 1 ∧ t ≠ 3 ∧ t ≠ 7) ∨ (t ≠ 3 ∧ d.ringUnit r ≠ 0) then 3
  else if !(d.fn f).bme then 4
  else if d.ringTaken r || d.ringBusy r || !d.rb (Reg.hiCtl f) 0 then 0x46
  else 0

/-- HI_RINGn_CFG.EN is set (R248, R270). -/
def Dev.ringEnable (d : Dev) (r : Nat) : Dev :=
  if d.ringEn r then d
  else
    let c := d.ringCheck r
    if c ≠ 0 then d.refuse (Reg.hiChk (ringFn r)) (chkWord c 8 (ringNo r))
    else ((d.setReg (Reg.hiChk (ringFn r)) 0).setRb (Reg.hiRingCfg r) 0 true).setRing r RingSt.init

/-- HI_RINGn_CFG.EN is cleared (R268): what is not passed is discarded, the members of an unfinished group with it. -/
def Dev.ringDisable (d : Dev) (r : Nat) : Dev :=
  if !d.ringEn r then d
  else
    let q := d.ring r
    let drop := d.inGroup r
    let gone := if drop then q.passed.map (·.1) else []
    (d.setRb (Reg.hiRingCfg r) 0 false).setRing r { q with
      fetched := [], unread := false, asked := q.head, passed := if drop then [] else q.passed,
      issue := q.issue.filter (fun e => !gone.contains e.1) }

/-- A write of a ring's register (R270): dropped with 0x46 while the ring is enabled or busy, but for one that only clears
EN. -/
def Dev.ringWrite (d : Dev) (r a : Nat) (v : Word) : Dev :=
  if d.ringEn r || d.ringBusy r then
    if a = Reg.hiRingCfg r ∧ d.ringEn r ∧ v &&& 0x1F01FF = setBit (d.reg a) 0 false then d.ringDisable r
    else d.refuse (Reg.hiChk (ringFn r)) (chkWord 0x46 8 (ringNo r))
  else if a = Reg.hiRingCfg r then
    let d1 := (d.codeWrite a v).setRb a 0 false
    if bit v 0 then d1.ringEnable r else d1
  else d.codeWrite a v

/-! ### Reads -/

/-- HI_RINGn_HEAD and HI_RINGn_STAT as they read. -/
def Dev.ringHeadRead (d : Dev) (r : Nat) : Word := BitVec.ofNat 32 (d.ring r).head
def Dev.ringStatRead (d : Dev) (r : Nat) : Word :=
  let q := d.ring r
  let held := match q.fetched with | w :: _ => d.heldByDeadline r w | [] => false
  BitVec.ofNat 32 (b2n (d.ringBusy r) + 2 * b2n q.err + 4 * b2n held + 8 * b2n (d.cqWaits r) + q.tail % 65536 * 65536)

end Sys2Proof.Machine
end

