-- ==== Sys2Proof/Machine/Power.lean ====
section
/-! DEFINITION. Power states, reset, start-up, temperature and device freeze (R424 to R439). -/

namespace Sys2Proof.Machine

/-- The device with its power bookkeeping replaced. -/
def Dev.setPwr (d : Dev) (q : PwrSt) : Dev := { d with pwr := q }

/-! ### Stopping the ports (R430, R431) -/

/-- A pipe whose fed port stops: its timed writes and admitted scenes are discarded, its enables and sets kept (R431). -/
def Dev.pipeIdle (d : Dev) (p : Nat) : Dev :=
  let d1 := (d.twqDiscard p true).setGate p { d.gate p with pend := [] }
  let q := d1.pipe p
  d1.setPipe p { q with cmpOn := false, cmpDim := q.cmpDim || q.cmpOn, walk := [], walkNext := [], buf := none, begun := [], lateOut := [] }

/-- Every enabled port stops with its EN left 1, and the pipes they feed with them (R430, R431). -/
def Dev.stopPorts (d : Dev) : Dev :=
  let fed := [0, 1].filter (fun p => (d.feed p).isSome)
  let d1 := fed.foldl (fun (d : Dev) p => d.pipeIdle p) d
  ((List.range 3).filter d.soEn).foldl (fun (d : Dev) x => d.portStop x) d1

/-! ### Requests (R430) -/

/-- The conditions of HOLD are met but for SLCK (R430). -/
def Dev.mayHold (d : Dev) : Bool :=
  !d.rb Reg.auCtl 0 && !d.rb Reg.blStat 0 && (List.range 32).all (fun n => (d.fm n).isNone) && d.lg.run.isNone && !d.rb Reg.asPstat 0

/-- The device's current power state is set. -/
def Dev.setPower (d : Dev) (s : Nat) : Dev := d.setRf Reg.pwrState 5 4 s

/-- A transition is refused (R430). -/
def Dev.pwrRefuse (d : Dev) (code : Nat) : Dev := d.refuse Reg.pwrChk (BitVec.ofNat 32 code)

/-- RUN from DIM: at once; the ports and the pipes they feed start again through the ladder (R427, R430). -/
def Dev.runFromDim (d : Dev) : Dev :=
  (rangeFrom 2 5).foldl (fun (d : Dev) i => d.restart i) ((d.setPower 0).setReg Reg.pwrChk 0)

/-- A write of PWR_STATE (R430): WAKETO always, then the request. -/
def Dev.pwrRequest (d : Dev) (req : Nat) (waketo : Bool) : Dev :=
  let d1 := d.setRb Reg.pwrState 8 waketo
  let cur := d1.power
  let ok := d1.setReg Reg.pwrChk 0
  if req = cur then d1
  else if 2 ≤ cur then d1.pwrRefuse 1
  else if req = 0 then d1.runFromDim
  else if req = 1 then ok.setPwr { ok.pwr with dimReq := true }
  else if req = 2 then
    (if !d1.rb Reg.clkStat 16 then d1.pwrRefuse 0x45
     else if !d1.mayHold then d1.pwrRefuse 0x46
     else ok.setPwr { ok.pwr with holdReq := true })
  else if d1.lg.run.isSome then d1.pwrRefuse 0x46
  else (ok.setPwr { ok.pwr with offReq := true }).setRb Reg.pwrRstcause 5 true

/-- DIM is entered, at a master frame start (R430). -/
def Dev.enterDim (d : Dev) : Dev :=
  if !d.pwr.dimReq then d
  else
    let d1 := d.setPwr { d.pwr with dimReq := false }
    if d1.power ≠ 0 then d1 else (d1.setPower 1).stopPorts

/-- HOLD_ENTRY (R430, R433): every LP stands at a word boundary. -/
def Dev.holdEntry (d : Dev) : Dev :=
  if !d.pwr.holdReq ∨ 2 ≤ d.power then d
  else
    let d1 := (d.setPwr { d.pwr with holdReq := false, dimReq := false }).stopPorts
    (((d1.coilsOff.glHold).setPower 2).setDet 6).setRf Reg.clkStat 7 0 0

/-- The PLLs that run whenever the core does: core, PCIe and Link, and LPDDR5's while the controller is ready. -/
def Dev.coreLocks (d : Dev) : Dev := d.setRf Reg.clkStat 7 0 (0x85 + 2 * b2n d.memReady)

/-- The bit of a wake cause in PWR_WAKE and PWR_WAKESRC. -/
def wakeBit : WakeCause → Nat
  | .pattern u => u.val
  | .timer t => 8 + t.val
  | .pcie => 24

/-- The cause stands: a unit or timer that fired in HOLD, or a request on the PCIe link (R432). -/
def Dev.wakeStands (d : Dev) (c : WakeCause) : Bool :=
  match c with
  | .pcie => true
  | c => d.io.wakes.contains c

/-- HOLD ends (R427, R432): the state is what WAKETO names, the engines that ran before start through the ladder, and a fall of
PFAIL_N met in HOLD raises its event (R360). -/
def Dev.wake (d : Dev) (c : WakeCause) : Dev :=
  if d.power ≠ 2 ∨ !d.rb Reg.pwrWake (wakeBit c) ∨ !d.wakeStands c then d
  else
    let dim := d.rb Reg.pwrState 8
    let d1 := ((d.setPower (b2n dim)).setReg Reg.pwrWakesrc (BitVec.ofNat 32 (2 ^ wakeBit c))).coreLocks
    let d2 := { d1 with io := { d1.io with wakes := [] } }
    let d3 := (List.range 16).foldl (fun (d : Dev) i => if dim ∧ 2 ≤ i ∧ i < 7 then d else d.restart i) d2
    let d4 := if d3.lg.told then (d3.setLg { d3.lg with told := false }).raise 5 else d3
    d4.present

/-- What a loss or reset of the core leaves: the VDD_AON domain's registers, and the frame store while its rail stays up
(R150, R434). -/
def Dev.aonKept (d : Dev) (keepRam : Bool) (causes : Nat) : Dev :=
  let d0 : Dev := { Dev.atReset with
    sent := d.sent, freeCtr := d.freeCtr,
    mem := if keepRam then d.mem.filter (fun e => decide (memBase 6 ≤ e.1) && decide (e.1 < memBase 7)) else [],
    syn := if keepRam then d.syn.filter (fun e => decide (memBase 6 ≤ e.1) && decide (e.1 < memBase 7)) else [] }
  let d1 := (d0.setReg Reg.pwrCfg (d.reg Reg.pwrCfg)).setReg Reg.pwrRstcause
    (d.reg Reg.pwrRstcause ||| BitVec.ofNat 32 causes)
  let d2 := d1.setRb Reg.lgStat 3 (d.rb Reg.lgStat 3)
  { d2 with link := d.link }

/-- CORE_EN_FALL (R430, R437). -/
def Dev.coreOff (d : Dev) : Dev :=
  if !d.pwr.offReq then d
  else
    let d1 := (d.aonKept false 0).setPower 3
    (d1.setPwr { d1.pwr with coreEn := false }).send (.coreEn false)

/-! ### Reset (R434, R435) -/

/-- A reset that reaches the core, with its cause bits; leaving OFF raises CORE_EN and counts as a core power-on. -/
def Dev.coreReset (d : Dev) (causes : Nat) : Dev :=
  let off := decide (d.power = 3)
  let d1 := d.aonKept (!off) (causes ||| (if off then 2 else 0))
  if off then d1.send (.coreEn true) else d1

/-- POWER_ON_RESET (R434). -/
def Dev.powerOnReset (d : Dev) : Dev :=
  let d1 : Dev := { Dev.atReset with sent := d.sent, freeCtr := d.freeCtr, link := d.link }
  if d.pwr.coreEn then d1 else d1.send (.coreEn true)

/-- Registers of the host interface and the MSI-X state of both functions. -/
def hiRegister (a : Nat) : Bool :=
  (0xD00000 ≤ a && a < 0xE00000) || (fn1Base + 0x8000 ≤ a && a < fn1Base + 0x10000)

/-- PERST# (R434): the core, or only the PCIe core and the host interface; it also ends HOLD when its wake is enabled. -/
def Dev.perst (d : Dev) : Dev :=
  if !d.rb Reg.pwrCfg 0 ∨ d.power = 3 then d.coreReset 8
  else
    let d1 := (d.wake .pcie).linkDown
    let d2 : Dev := { d1 with
      regs := d1.regs.filter (fun e => !hiRegister e.1), live := d1.live.filter (fun e => !hiRegister e.1), host := [], rings := [] }
    (d2.setRb Reg.pwrRstcause 3 true).present

/-- PLL_LOCK_LOST (R428). -/
def Dev.pllLost (d : Dev) (i : Nat) (relock : Bool) : Dev :=
  if !d.rb Reg.clkStat i then d
  else if i = 0 then d.coreReset 2
  else (d.setRb Reg.clkStat (8 + i) true).setRb Reg.clkStat i relock

/-- RESET_RELEASE (R435): the straps, in the order LANE0, LANE1, REFSEL, LEDGER. -/
def Dev.resetRelease (d : Dev) (straps : Nat) : Dev :=
  if d.pwr.released ∨ d.power = 3 then d
  else (d.setPwr { d.pwr with released := true }).setReg Reg.pwrStrap (BitVec.ofNat 32 (straps % 16 + (if straps % 4 = 3 then 16 else 0)))

/-! ### Start-up (R436) -/

/-- Function f is ready (PWR_STAT). -/
def Dev.fnReady (d : Dev) (f : Nat) : Bool := d.rb Reg.pwrStat f

/-- F0_READY (R436): the memories are clear and the PLLs have locked. -/
def Dev.f0Ready (d : Dev) : Dev :=
  if !d.pwr.released ∨ d.fnReady 0 then d else d.coreLocks.setRb Reg.pwrStat 0 true

/-- LEDGER_RESTORE (R361, R436): the restore, and function 1 is ready. -/
def Dev.f1Ready (d : Dev) (ss : List SlotImage) : Dev :=
  if !d.fnReady 0 ∨ d.fnReady 1 then d else (d.lgRestore ss).setRb Reg.pwrStat 1 true

/-- CONFIGURATION_REQUEST (R243, R432, R436): Retry Status until the function is ready; then the answer, and Bus Master Enable
as it writes it. In HOLD the request is a wake source; while no clock serves it, it waits. -/
def Dev.configRequest (d : Dev) (f : Nat) (bme : Option Bool) : Dev :=
  let d1 := d.wake .pcie
  if !d1.clocked ∨ !d1.link then d1
  else if !d1.fnReady f then d1.send (.config f false)
  else
    let d2 := match bme with | some b => d1.setFn f { d1.fn f with bme := b } | none => d1
    (d2.send (.config f true)).present

/-- SLCK_RUNNING (R429). -/
def Dev.slckRuns (d : Dev) : Dev := d.setRb Reg.clkStat 16 true

/-! ### Temperature (R437) -/

/-- THERMAL_TRIP: coil outputs off, the ports stop, and CORE_EN is to fall with cause TRIP. -/
def Dev.thermalTrip (d : Dev) : Dev :=
  if !d.pwr.tripping ∨ d.pwr.offReq then d
  else
    let d1 := d.coilsOff.stopPorts
    (d1.setPwr { d1.pwr with offReq := true }).setRb Reg.pwrRstcause 4 true

/-- TEMPERATURE_READING: the reading in quarters of a degree; the warning with its 5 °C of hysteresis, and the trip. -/
def Dev.temperature (d : Dev) (code : Nat) : Dev :=
  let t := signed 12 code
  let warn : Int := 4 * d.rf Reg.pwrTherm 7 0
  let d0 := d.setReg Reg.pwrTemp (BitVec.ofNat 32 (code % 4096))
  let hot := decide (warn < t)
  let d1 := d0.raiseIf (hot && !d0.pwr.warned) 3
  let d2 := d1.setPwr { d1.pwr with warned := hot || (d1.pwr.warned && decide (warn - 20 < t)) }
  if 460 ≤ t ∧ !d2.pwr.tripping then
    let d3 := (d2.setPwr { d2.pwr with tripping := true }).raise 4
    if d3.rf Reg.pwrTherm 15 8 = 0 then d3.thermalTrip else d3
  else d2

/-! ### Freeze (R438, R439) -/

/-- FREEZE (R43, R342, R439). -/
def Dev.freeze (d : Dev) : Dev :=
  if d.frozen ∨ 2 ≤ d.power then d
  else ((d.coilsOff.setRb Reg.pwrStat 2 true).setDet 5)

/-- The next composite start of a pipe fed by a timing whose next line is k of frame f (R33). -/
def upcomingLatch (t : Timing) (lead f k : Nat) : Nat × Nat :=
  let l := k + lead
  let n := t.lines f
  let g := (f + 1) % 65536
  if l < t.vact then (f, l)
  else if l < n then (g, 0)
  else if l - n < t.vact then (g, l - n)
  else ((f + 2) % 65536, 0)

/-- After a freeze pipe p resumes at the first latch point that follows (Table — Freeze). -/
def Dev.pipeThaw (d : Dev) (p : Nat) : Dev :=
  match d.feed p with
  | none => d
  | some x =>
    let q := d.port x
    let t := timingOf d.scanWord x
    let n := upcomingLatch t (d.leadOf x) q.frame (if q.fresh then q.line else q.line + 1)
    d.setPipe p { d.pipe p with nextF := n.1, nextL := n.2, buf := none }

/-- THAW (R439). -/
def Dev.thaw (d : Dev) : Dev :=
  if !d.frozen then d else ((((d.setRb Reg.pwrStat 2 false).pipeThaw 0).pipeThaw 1).glThaw).present

/-- A line of port x during a freeze: black pixels with valid sync, no events (Table — Freeze). -/
def Dev.frozenLine (d : Dev) (x : Nat) : Dev :=
  let q := d.port x
  if !q.run then d
  else
    let t := timingOf d.scanWord x
    let (f, l) := if q.fresh then (q.frame, q.line) else if q.line + 1 < t.lines q.frame then (q.frame, q.line + 1) else ((q.frame + 1) % 65536, 0)
    let d1 := d.setPort x { q with frame := f, line := l, dot := 0, fresh := false }
    if l < t.vact ∧ d1.videoFlows x then d1.send (.portLine x f l (List.replicate t.hact 0)) else d1

/-- PORT_LINE_START, frozen or not. -/
def Dev.portLineAny (d : Dev) (x : Nat) : Dev := if d.frozen then d.frozenLine x else d.portLine x

/-- PFAIL (R360, R439): a fall thaws a frozen device at once. -/
def Dev.pfail (d : Dev) (code : Nat) : Dev :=
  if d.rb Reg.lgStat 3 then (d.thaw).pfailFall code else d

/-- PWR_STAT as it reads. -/
def Dev.pwrStatRead (d : Dev) : Word := setBit (d.reg Reg.pwrStat) 3 (!d.ladder.pending.isEmpty)

end Sys2Proof.Machine
end

