-- ==== Sys2Proof/Machine/Master.lean ====
section
/-! DEFINITION. The master timing's commands (R24 to R31) and the passage of time: frame starts, line starts, line ticks,
the flywheel, genlock, and one TCLK edge. -/

namespace Sys2Proof.Machine

/-- The coordinate moves to 0:0 of the next frame, from source s; `fly` tells whether it flywheels. -/
def Dev.nextFrame (d : Dev) (s : Option Nat) (fly : Bool) (refLines : Nat) : Dev :=
  { d with time := { d.time with src := s, frame := (d.time.frame + 1) % 65536, line := 0, dot := 0, fresh := true, fly := fly,
                                 refLines := refLines } }

/-- What happens at every master frame start: outputs flagged to jam restart, SYS and HI commit, genlock steering follows, DIM
is entered, and the Link commits, starts or retrains (R25, R30, R270, R366, R377, R430). -/
def Dev.frameActions (d : Dev) : Dev :=
  (((((((d.jamOutputs).sysCommitAt).glkFollow 0).glkFollow 1).glkFollow 2).hiCommitAt).enterDim).glFrame

/-- MASTER_FRAME_START (R26, R27): the running timing's own frame start, or (`take`) one that the selected source delivers and
with which it takes over, or takes over again from the flywheel. An output's frame start is in its line 0. -/
def Dev.masterFrame (d : Dev) (take : Bool) : Dev :=
  let t := d.time
  if take then
    match d.selected with
    | some s => if (t.src ≠ some s ∨ t.fly) ∧ (3 ≤ s ∨ (d.port s).line = 0) then (d.nextFrame (some s) false (if t.src = some s then t.refLines else 0)).frameActions else d
    | none => d
  else
    let known := match t.src with | none => true | some x => decide (x < 3) || t.fly
    if t.fresh then d
    else if known then (if d.masterLines = some (t.line + 1) then (d.nextFrame t.src t.fly t.refLines).frameActions else d)
    else (d.nextFrame t.src false (t.line + 1)).frameActions

/-- LINE_START (R13, R255, R367): the next line start of the master timing is delivered to the CCLK domain. -/
def Dev.lineStart (d : Dev) : Dev :=
  let t := d.time
  let l := if t.fresh then t.line else t.line + 1
  let past := match d.masterLines with
    | some n => decide (n ≤ l) && ((match t.src with | some x => decide (x < 3) | none => true) || t.fly)
    | none => false
  if past then d else (d.deliverLine l).glLine

/-- LINE_TICK (R28): the line start reaches the TCLK domain; encoders, the coil scheduler, LED strings and the Link act on it. -/
def Dev.lineTick (d : Dev) : Dev :=
  if !d.time.tickDue then d
  else (((({ d with time := { d.time with tickDue := false } }).encTick).drvTick).ledTick).glTick

/-- FLYWHEEL (R27): the reference of a genlock or Link timing is lost. -/
def Dev.flywheel (d : Dev) : Dev :=
  if d.time.src = some 3 ∨ d.time.src = some 4 then { d with time := { d.time with fly := true } } else d

/-- GENLOCK_LOCKED (R31): output x is locked, with its phase error. -/
def Dev.genlockOn (d : Dev) (x phase : Nat) : Dev :=
  if !(d.port x).steer then d
  else (d.setRb Reg.sysGlkStat x true).setRf Reg.sysGlkStat (15 + 8 * x) (8 + 8 * x) phase

/-- GENLOCK_LOST (R31): lock is lost, or an output that never locks says so. -/
def Dev.genlockOff (d : Dev) (x : Nat) : Dev :=
  if !(d.port x).steer then d else (d.setRb Reg.sysGlkStat x false).raise (portEvent x + 15)

/-- A read of SYS_BEAM_LO: the master dot and line, and the frame count copied for SYS_BEAM_HI (R45). -/
def Dev.beamRead (d : Dev) : Word × Dev :=
  (BitVec.ofNat 32 (d.time.dot % 65536 + d.time.line * 65536), d.setRf Reg.sysBeamHi 15 0 d.time.frame)

/-- SYS_BEAM_HI as it reads. -/
def Dev.beamHiRead (d : Dev) : Word := setBit (setBit (d.reg Reg.sysBeamHi) 16 d.time.src.isNone) 17 d.time.fly

/-- Clearing class bits of SYS_DET_STAT, and with them the counters tied to them (R41, R44). -/
def Dev.detClear (d : Dev) (v : Word) : Dev :=
  let d1 := d.codeWrite Reg.sysDetStat v
  let d2 := if bit v 0 then
      ((d1.setRf (Reg.sysTwqStat 0) 31 24 0).setRf (Reg.sysTwqStat 1) 31 24 0).setRf Reg.auLate 31 24 0 else d1
  let d3 := if bit v 1 then (d2.setRf (Reg.hgEnvlog 0) 31 24 0).setRf (Reg.hgEnvlog 1) 31 24 0 else d2
  if bit v 3 then d3.setRf Reg.edcUe 31 16 0 else d3

/-! ### One TCLK edge -/

/-- Dots of the master timing in this TCLK, and the device with what is left over kept (R22, R26): 10 of the idle timing, those of
its pixel clock when an output is the source; a received reference gives none that the spec counts. -/
def Dev.tickDots (d : Dev) : Nat × Dev :=
  match d.time.src with
  | none => (10, d)
  | some x =>
    if 3 ≤ x then (0, d)
    else
      let a := (d.port x).acc + 10 * (timingOf d.scanWord x).khz
      (a / 1000000, d.setPort x { d.port x with acc := a % 1000000 })

/-- The master dot moves on by k, as far as the line's last, and beam waits see each dot it reaches (R162). -/
def Dev.dotsPass (d : Dev) (k : Nat) : Dev :=
  let t := d.time
  if t.fresh ∨ k = 0 then d
  else
    let dot := match d.masterDots with | some n => min (t.dot + k) (n - 1) | none => t.dot + k
    { d with
      time := { t with dot := dot },
      lps := d.lps.map (fun e => (e.1, (rangeFrom (t.dot + 1) (dot - t.dot)).foldl (fun (l : LpSt) i => l.mapWait (waitDot i)) e.2)) }

/-- One TCLK edge, or in HOLD and a freeze one SLCK edge (R22, R378, R392, R191): timers, the master dot, LP cycle counts. -/
def Dev.tick (d : Dev) : Dev :=
  if d.power = 3 then d
  else if d.slow then (if d.counting then d.slckEdge else d)
  else
    let d1 := { d with time := { d.time with tclk := d.time.tclk + 1 } }.tmrAll 1
    let (k, d2) := d1.tickDots
    let d3 := d2.dotsPass k
    { d3 with lps := d3.lps.map (fun e => (e.1, if e.2.mode = .reset then e.2 else { e.2 with cyc := (e.2.cyc + 5) % 2 ^ 64 })) }

end Sys2Proof.Machine
end

