-- ==== Sys2Proof/Machine/Bus.lean ====
section
/-! DEFINITION. Register accesses: what a write or read of each register or memory-window word does once the access is admitted
(R7 to R9), the tables' own registers (R414 to R417), and the accesses of the BARs and the debug port (R244 to R246, R438). -/

namespace Sys2Proof.Machine

/-! ### The tables (R414 to R417) -/

/-- Region r with this RANGE word fits target t (R417). -/
def Dev.rangeFits (d : Dev) (t : Nat) (w : Word) : Bool := decide (fld w 15 0 ≤ fld w 31 16) && decide (fld w 31 16 ≤ d.lastGranule t)

/-- A table write's check (R417): VALID over the regions it leaves in use, RANGE for a region in use. -/
def Dev.tableOk (d : Dev) (t o : Nat) (v : Word) : Bool :=
  if o = 0 then (List.range 16).all (fun r => !bit v r || d.rangeFits t (d.reg (Reg.ptRange t r)))
  else if o % 8 = 0 ∧ d.rb (Reg.ptValid t) ((o - 0x80) / 8) then d.rangeFits t v
  else true

/-- A write of a register of table t by master m (R416, R417). -/
def Dev.tableWrite (d : Dev) (m k : Nat) (v : Word) : Dev :=
  let t := (k - 0x200000) / 0x100
  let o := (k - 0x200000) % 0x100
  if (m ≠ 0 ∧ m ≠ 1) ∨ (m ≠ 1 ∧ d.rb Reg.ptCust t) ∨ d.rb Reg.ptLock t then d.violate m 0 7 true (k - 0x200000)
  else if !d.tableOk t o v then d.refuse Reg.ptChk (chkWord 1 8 t)
  else (d.codeWrite k v).setRf Reg.ptChk 7 0 0

/-- PT_CUST or PT_LOCK is written: by master 1 alone (R416). -/
def Dev.custWrite (d : Dev) (m k : Nat) (v : Word) : Dev :=
  if m = 1 then d.codeWrite k v else d.violate m 0 7 true (k - fn1Base)

/-- PT_VLOG is written: clearing VALID clears MORE and CNT (R414). -/
def Dev.vlogWrite (d : Dev) (v : Word) : Dev :=
  if bit v 14 then ((d.setRb Reg.ptVlog 14 false).setRb Reg.ptVlog 15 false).setRf Reg.ptVlog 31 16 0 else d

/-! ### Writes by block -/

/-- An enable bit is written: it acts when it changes. -/
def Dev.turn (d : Dev) (cur new : Bool) (on off : Dev → Dev) : Dev := if new = cur then d else if new then on d else off d

/-- SYS_COMMIT.GO (R25, R421). -/
def Dev.sysGo (d : Dev) : Dev := { d with time := { d.time with commit := true } }

def Dev.writeSys (d : Dev) (k : Nat) (v : Word) : Dev :=
  if k = Reg.sysCommit then (if bit v 0 then d.sysGo else d)
  else if k = Reg.sysDetStat then d.detClear v
  else d.codeWrite k v

def Dev.writePwr (d : Dev) (k : Nat) (v : Word) : Dev :=
  if k = Reg.pwrState then d.pwrRequest (fld v 1 0) (bit v 8) else d.codeWrite k v

def Dev.writePt (d : Dev) (m k : Nat) (v : Word) : Dev :=
  if isTableReg k then d.tableWrite m k v else if k = Reg.ptVlog then d.vlogWrite v else d.codeWrite k v

def Dev.writeIc (d : Dev) (m k : Nat) (v : Word) : Dev :=
  if k = Reg.icCommit then (if bit v 0 then d.icCommitGo else d)
  else if k = Reg.icCtl ∨ (Reg.icThr 0 ≤ k ∧ k ≤ Reg.icThr 5) then d.icPlainWrite k v
  else if Reg.icSrc 0 ≤ k then d.srcWrite m ((k - Reg.icSrc 0) / 4) v
  else if Reg.icWeir 0 ≤ k ∧ k % 8 = 0 then d.weirWrite ((k - Reg.icWeir 0) / 8) v
  else d.codeWrite k v

def Dev.writeHg (d : Dev) (k : Nat) (v : Word) : Dev :=
  if k = Reg.hgCtl then
    [0, 1].foldl (fun (d : Dev) p => d.turn (d.hgEn p) (bit v p) (·.hgEnable p) (·.hgDisable p)) d
  else d.codeWrite k v

def Dev.writeTp (d : Dev) (k : Nat) (v : Word) : Dev :=
  let p := (k - 0x500000) / 0x80000
  let c := (k - 0x500000) % 0x80000
  if c = 0 then d.turn (d.rb (Reg.tpCtl p) 0) (bit v 0) (·.tpEnable p) (·.tpDisable p)
  else if c = 4 then (if bit v 0 then d.tpGo p else d)
  else if p = 0 ∧ 0x40 ≤ c ∧ c < 0x60 ∧ c % 8 = 4 then d.mapPairWrite ((c - 0x44) / 8) v
  else d.codeWrite k v

/-- The memory and byte of a sprite-table window word (R86). -/
def Dev.spriteByte (d : Dev) (k : Nat) : Nat × Nat := (2 + d.rf Reg.spWinsel 0 0, k - 0x680000)

def Dev.writeSp (d : Dev) (m k : Nat) (v : Word) : Dev :=
  let p := (k - 0x600000) / 0x4000
  let c := (k - 0x600000) % 0x4000
  if 0x680000 ≤ k then d.writeBytes (d.spriteByte k).1 m (d.spriteByte k).2 (toBytes 4 v.toNat)
  else if p < 2 ∧ c = 0 then d.turn (d.rb (Reg.spCtl p) 0) (bit v 0) (·.spEnable p) (·.spDisable p)
  else if p < 2 ∧ c = 4 then (if bit v 0 then d.spGo p else d)
  else d.codeWrite k v

/-- The memory and byte of a palette window word (R121). -/
def paletteByte (k : Nat) : Nat × Nat := (4 + (k - 0x700000) / 0x80000, (k - 0x700000) % 0x80000 - 0x10000)

def Dev.writeCmp (d : Dev) (m k : Nat) (v : Word) : Dev :=
  let p := (k - 0x700000) / 0x80000
  let c := (k - 0x700000) % 0x80000
  if 0x10000 ≤ c then d.writeBytes (paletteByte k).1 m (paletteByte k).2 (toBytes 4 v.toNat)
  else if c = 0 then d.turn (d.rb (Reg.cmpCtl p) 0) (bit v 0) (·.cmpEnable p) (·.cmpDisable p)
  else if c = 4 then (if bit v 0 then d.cmpGo p else d)
  else if 0x40 ≤ c ∧ c < 0x68 then d.layWrite p ((c - 0x40) / 4) v
  else d.codeWrite k v

def Dev.writeSo (d : Dev) (k : Nat) (v : Word) : Dev :=
  let x := (k - 0x800000) / 0x1000
  let c := (k - 0x800000) % 0x1000
  if 3 ≤ x then d.codeWrite k v
  else if c = 0 then
    let d1 := d.turn (d.soEn x) (bit v 0) (·.soEnable x) (·.soDisable x)
    if bit v 1 then d1.train x else d1
  else if c = 4 then (if bit v 0 then d.soGo x else d)
  else if c = 0x40 then d.auxCmd x v
  else if 0x10 ≤ c ∧ c < 0x30 then (d.codeWrite k v).soTouched x
  else d.codeWrite k v

def Dev.writeLp (d : Dev) (m k : Nat) (v : Word) : Dev :=
  let n := (k - 0x900000) / 0x40000
  let c := (k - 0x900000) % 0x40000
  if 0x20000 ≤ c then d.writeBytes (dmemOf n) m (c - 0x20000) (toBytes 4 v.toNat)
  else if 0x10000 ≤ c then d.imemWrite m n ((c - 0x10000) / 4) v
  else if c = 0 then d.lpCtlWrite n v
  else if c = 0x18 then d.lpPcWrite n v
  else if 0x100 ≤ c then
    if !(d.lp n).halted then d
    else if c < 0x180 then d.setPortOf n ((c - 0x100) / 4) v
    else d.setLp n { d.lp n with preds := v.truncate 8 &&& 0xFE }
  else d.codeWrite k v

def Dev.writeBl (d : Dev) (k : Nat) (v : Word) : Dev :=
  if k = Reg.blCtl then d.turn (d.rb k 0) (bit v 0) Dev.blEnable Dev.blDisable
  else if k = Reg.blCommit then (if bit v 0 then d.blGo else d)
  else if k = Reg.blGo then (if bit v 0 then d.blitGo else d)
  else d.codeWrite k v

/-- An enable of AU or AS by a plain register write measures the world as AU_ENABLE and AS_ENABLE have it from outside: free
values stand for what it finds (log entry 3). -/
def Dev.writeAu (d : Dev) (k : Nat) (v : Word) : Dev :=
  if k = Reg.auCtl then d.turn (d.rb k 0) (bit v 0) (fun d => let (w, d1) := d.free; d1.auEnable w.toNat) Dev.auDisable
  else if k = Reg.auCommit then (if bit v 0 then d.auGo else d)
  else d.codeWrite k v

def Dev.writeMx (d : Dev) (k : Nat) (v : Word) : Dev :=
  if k = Reg.mxCtl then d.turn (d.rb k 0) (bit v 0) Dev.mxEnable Dev.mxDisable
  else if Reg.mxDlybase 0 ≤ k then d.dlyWrite ((k - Reg.mxDlybase 0) / 8) (k % 8 = 4) v
  else d.codeWrite k v

/-- A host-interface register of function f, at offset o of its registers. -/
def Dev.writeHi (d : Dev) (f o k : Nat) (v : Word) : Dev :=
  if o = 0 then d.turn (d.rb k 0) (bit v 0) (·.hiEnable f) (·.hiDisable f)
  else if o = 4 then (if bit v 0 then d.hiGo f else d)
  else if 0x8000 ≤ o ∧ o < 0x9000 then d.msixWrite f ((o - 0x8000) / 4) v
  else if 0x1000 ≤ o ∧ o < 0x8000 then d.ringWrite (64 * f + (o - 0x1000) / 32) k v
  else d.codeWrite k v

def Dev.writeMem (d : Dev) (m k : Nat) (v : Word) : Dev :=
  if k = Reg.memCtl then d.turn (d.rb k 0) (bit v 0) Dev.memEnable Dev.memDisable
  else if k = Reg.memCfg then d.memCfgWrite v
  else if k = Reg.edcFlipSel then d.flipWrite m v
  else d.codeWrite k v

def Dev.writeAs (d : Dev) (k : Nat) (v : Word) : Dev :=
  if k = Reg.asCtl then
    d.turn (d.rb k 0) (bit v 0) (fun d =>
      let (a, d1) := d.free
      let (b, d2) := d1.free
      let (c, d3) := d2.free
      d3.asEnable (if bit a 31 then some (a.toNat % 16) else none) b.toNat c.toNat) Dev.asDisable
  else if k = Reg.asCfg ∨ k = Reg.asGeom ∨ k = Reg.asRemapbase ∨ k = Reg.asLgpart then d.asCfgWrite k v
  else if k = Reg.asPcmd then d.pcmd (fld v 1 0) (fld v 11 2) (fld v 31 12)
  else d.codeWrite k v

def Dev.writeFm (d : Dev) (k : Nat) (v : Word) : Dev :=
  if k = Reg.fmCtl then
    let d1 := d.turn (d.rb k 0) (bit v 0) Dev.fmEnable Dev.fmDisable
    if bit v 1 then d1.fmResume else d1
  else if k = Reg.fmCommit then (if bit v 0 then d.fmGo else d)
  else if Reg.fmnCfg 0 ≤ k ∧ k % 16 = 4 then d.fmCtlWrite ((k - Reg.fmnCfg 0) / 16) (bit v 0)
  else d.codeWrite k v

/-- A PIN register; those that R317 names are checked against the owner of the pin or unit. -/
def Dev.writePin (d : Dev) (m k : Nat) (v : Word) : Dev :=
  let off := k - 0x1100000
  if k = Reg.pinCommit then (if bit v 0 then d.pinCommit else d)
  else if Reg.pinkFunc 0 ≤ k then
    let i := (k - Reg.pinkFunc 0) / 16
    if k % 16 = 0 then d.ownerWrite m i 22 off (·.pinFunc i v)
    else if k % 16 = 4 then d.ownerWrite m i 22 off (fun d => (d.codeWrite k v).drivePin i)
    else if k % 16 = 8 then d.ownerWrite m i 22 off (·.pinGpio i v)
    else d.codeWrite k v
  else if Reg.pinPatCfg 0 ≤ k ∧ k % 16 < 12 then
    if m = 13 ∨ d.patOwner ((k - Reg.pinPatCfg 0) / 16) = m then d.codeWrite k v else d.violate m 0 22 true off
  else d.codeWrite k v

/-- The owning pin of the cabinet I/O register at offset c of sub-block b, when it belongs to an instance that has one (R326). -/
def instancePin (b c : Nat) : Option Nat :=
  if c < 0x100 then none
  else
    match b with
    | 0 => if c < 0x1C0 then ioPin b ((c - 0x100) / 16) else none
    | 2 => some (96 + 2 * ((c - 0x100) / 16))
    | 3 => some (32 + (c - 0x100) / 16)
    | 4 => some (112 + (c - 0x100) / 16)
    | 5 => some (120 + 2 * ((c - 0x100) / 32))
    | _ => none

/-- A word is pushed to the TX FIFO of SPI port i, which holds 16; a push to a full FIFO is lost (R346, log entry 9). -/
def Dev.spiPush (d : Dev) (i : Nat) (v : Word) : Dev :=
  let q := d.spi i
  if q.tx.length < 16 then d.setSpi i { q with tx := q.tx ++ [v] } else d

/-- What a write of the register at offset c of sub-block b does, once its owner has been checked. -/
def Dev.cioEffect (d : Dev) (b c k : Nat) (v : Word) : Dev :=
  if b = sbEnc ∧ 0x100 ≤ c ∧ c % 16 = 4 then d.encWrite ((c - 0x100) / 16) v
  else if b = sbUa ∧ 0x100 ≤ c ∧ c % 32 = 8 then d.uaPush ((c - 0x100) / 32) (v.truncate 8)
  else if b = sbSpi ∧ 0x100 ≤ c ∧ c % 32 = 4 then (if bit v 31 then d.spiGo ((c - 0x100) / 32) v else d)
  else if b = sbSpi ∧ 0x100 ≤ c ∧ c % 32 = 8 then d.spiPush ((c - 0x100) / 32) v
  else if b = sbI2c ∧ 0x100 ≤ c ∧ c % 64 = 4 then (if bit v 31 then d.i2cGo ((c - 0x100) / 64) v else d)
  else d.codeWrite k v

def Dev.writeCio (d : Dev) (m k : Nat) (v : Word) : Dev :=
  let off := k - 0x1200000
  let b := off / 0x10000
  let c := off % 0x10000
  if c = 0 then d.ioCtlWrite m b v
  else if c = 4 then (if bit v 0 then d.ioGo b else d)
  else if k = Reg.drvFire then d.ownerWrite m (32 + fld v 5 0) 23 off (·.drvFire (fld v 5 0) (bit v 6))
  else
    match instancePin b c with
    | some p => d.ownerWrite m p 23 off (fun d => d.cioEffect b c k v)
    | none => d.cioEffect b c k v

def Dev.writeGl (d : Dev) (k : Nat) (v : Word) : Dev :=
  if k = Reg.glCtl then d.glCtlWrite v
  else if k = Reg.glCommit then (if bit v 0 then d.glGo else d)
  else if k = Reg.glTxctl then d.glTxWrite v
  else if k = Reg.glRxctl then (if bit v 31 then d.glPop else d)
  else d.codeWrite k v

/-- The timer outputs' pads are brought up to date (R387). -/
def Dev.tmrPads (d : Dev) : Dev := (rangeFrom 48 16).foldl (fun (d : Dev) k => if d.func k = 2 then d.drivePin k else d) d

/-- A register of timer n at offset c of its registers. -/
def Dev.tmrRegWrite (d : Dev) (n c k : Nat) (v : Word) : Dev :=
  let j := (c - 0x20) / 16
  if c = 0 then d.tmrCfgWrite n v
  else if c = 8 then d.tmrCntLoWrite n v
  else if c = 0xC then d.tmrCntHiWrite n v
  else if 0x20 ≤ c ∧ c % 16 = 0 then (let d1 := d.codeWrite k v; if bit v 5 then d1.cmpDisarm n j else d1)
  else if 0x20 ≤ c ∧ c % 16 = 4 then d.cmpArm n j v
  else if 0x20 ≤ c ∧ c % 16 = 8 then d.cmpHiWrite n j v
  else d.codeWrite k v

def Dev.writeTmr (d : Dev) (m k : Nat) (v : Word) : Dev :=
  let n := (k - 0x1500100) / 0x80
  (if k = Reg.tmrGo then d.tmrGo m v
   else if k = Reg.tmrHalt then d.tmrHalt m v
   else if k < 0x1500100 then d
   else d.ownerWrite m (48 + n) 26 (k - 0x1500000) (fun d => d.tmrRegWrite n ((k - 0x1500100) % 0x80) k v)).tmrPads

/-- Function 1's own registers. -/
def Dev.writeFn1 (d : Dev) (m k : Nat) (v : Word) : Dev :=
  let o := k - fn1Base
  if 0x8000 ≤ o then d.writeHi 1 (if o < 0x9000 then o - 0x8000 else if o < 0xE000 then o - 0x8000 else if o < 0xF000 then o - 0x6000 else 0x9000) k v
  else if 0x6400 ≤ o then d.codeWrite k v
  else if 0x6200 ≤ o then d.ownWrite k ((o - 0x6200) / 4) v
  else if 0x6000 ≤ o then d.ownWrite k ((o - 0x6000) / 4) v
  else if 0x4000 ≤ o then d.custWrite m k v
  else if 0x2000 ≤ o then d.lgWriteAs ⟨m, d.lgWinWord (o - 0x2000), 0, v⟩
  else if k = Reg.lgCtl then d.lgCtlWrite v
  else if k = Reg.lgCommit then (if bit v 0 then d.lgGo else d)
  else if 0x100 ≤ o ∧ o % 8 = 0 then d.lgAddrWrite ((o - 0x100) / 8) v
  else if 0x100 ≤ o then d.lgPairWrite ((o - 0x100) / 8) v
  else d.codeWrite k v

/-- An admitted write of a register or window word by master m, all four bytes enabled. -/
def Dev.busWrite (d : Dev) (m k : Nat) (v : Word) : Dev :=
  match k / 0x100000 with
  | 0 => d.writeSys k v
  | 1 => d.writePwr k v
  | 2 => d.writePt m k v
  | 3 => d.writeIc m k v
  | 4 => d.writeHg k v
  | 5 => d.writeTp k v
  | 6 => d.writeSp m k v
  | 7 => d.writeCmp m k v
  | 8 => d.writeSo k v
  | 9 => d.writeLp m k v
  | 10 => d.writeBl k v
  | 11 => d.writeAu k v
  | 12 => d.writeMx k v
  | 13 => d.writeHi 0 (k - 0xD00000) k v
  | 14 => d.writeMem m k v
  | 15 => d.writeAs k v
  | 16 => d.writeFm k v
  | 17 => d.writePin m k v
  | 18 => d.writeCio m k v
  | 20 => d.writeGl k v
  | 21 => d.writeTmr m k v
  | 256 => d.writeFn1 m k v
  | b => if 24 ≤ b ∧ b < 32 then d.writeBytes 1 m (k - 0x1800000) (toBytes 4 v.toNat) else d

/-! ### Reads -/

/-- A register as its stored word reads: write-only and reserved bits read 0 (R7, R8). -/
def Dev.plainRead (d : Dev) (k : Nat) : Word :=
  match regDesc k with
  | some r => d.reg k &&& BitVec.ofNat 32 (r.rw ||| r.ro ||| r.w1c ||| r.w1s ||| r.rws)
  | none => 0

/-- AU_SAMP_LO: the sample count, its high half copied into AU_SAMP_HI. -/
def Dev.sampRead (d : Dev) : Word × Dev :=
  (BitVec.ofNat 32 d.sampleNow, d.setReg Reg.auSampHi (BitVec.ofNat 32 (d.sampleNow / 2 ^ 32 % 65536)))

/-- HG_PENDp (R58). -/
def Dev.hgPendRead (d : Dev) (p : Nat) : Word :=
  match (d.gate p).pend with
  | [] => 0
  | s :: rest => BitVec.ofNat 32 (rest.length + 1 + s.frame * 65536)

/-- LPn_STAT (R169). -/
def Dev.lpStatRead (d : Dev) (n : Nat) : Word :=
  let l := d.lp n
  BitVec.ofNat 32 (l.state + 8 * b2n (decide (l.cause ≠ 0xFFFF)) + 16 * (l.stack.length % 16) + 256 * (l.pc % 8192) +
    2 ^ 21 * b2n l.dbgHalt + 2 ^ 22 * d.rf (Reg.lpStat n) 23 22)

/-- AU_STAT and AU_VACTk. -/
def Dev.voiceOn (d : Dev) (v : Nat) : Bool := (d.voice v).on
def Dev.auStatRead (d : Dev) : Word :=
  setFld (setFld (d.reg Reg.auStat) 23 13 d.au.queue.length) 31 24 (min 255 ((List.range 256).filter d.voiceOn).length)
def Dev.auVactRead (d : Dev) (k : Nat) : Word :=
  BitVec.ofNat 32 ((List.range 32).foldl (fun s i => s + 2 ^ i * b2n (d.voiceOn (32 * k + i))) 0)

/-- TMR_RUN (R392). -/
def Dev.tmrRunRead (d : Dev) : Word :=
  BitVec.ofNat 32 ((List.range 16).foldl (fun s i => s + 2 ^ i * b2n (d.tmrOn i)) 0 + 65536 * (d.io.acc % 128) + 2 ^ 23 * b2n d.slow)

/-- A step or window register of layer slot s of pipe p at offset c of its registers (R61). -/
def Dev.slotRead (d : Dev) (p s c k : Nat) : Word :=
  let v := d.plainRead k
  if c = 0x28 then d.heldRead p s 2 v else if c = 0x2C then d.heldRead p s 3 v else if c = 0x30 then d.heldRead p s 1 v else v

def Dev.readSys (d : Dev) (k : Nat) : Word × Dev :=
  if k = Reg.sysBeamLo then d.beamRead
  else if k = Reg.sysBeamHi then (d.beamHiRead, d)
  else if k = Reg.sysTwqStat 0 then (setFld (d.plainRead k) 12 0 (d.tq 0).entries.length, d)
  else if k = Reg.sysTwqStat 1 then (setFld (d.plainRead k) 12 0 (d.tq 1).entries.length, d)
  else (d.plainRead k, d)

def Dev.readIc (d : Dev) (k : Nat) : Word :=
  if Reg.icSrc 0 ≤ k then d.icSrcRead ((k - Reg.icSrc 0) / 4)
  else if Reg.icWeir 0 ≤ k ∧ k % 8 = 4 then d.icWeirRead ((k - Reg.icWeir 0) / 8)
  else if Reg.icPend 0 ≤ k ∧ k < Reg.icLpStat 0 then d.icPendRead ((k - Reg.icPend 0) / 4)
  else if Reg.icLpStat 0 ≤ k ∧ k < Reg.icWeir 0 then d.icLpRead ((k - Reg.icLpStat 0) / 4)
  else d.plainRead k

def Dev.readHg (d : Dev) (k : Nat) : Word :=
  if 0x401000 ≤ k then
    let i := (k - 0x401000) % 512 / 4
    BitVec.ofNat 32 ((Tab.get (fun _ => []) (d.gate ((k - 0x401000) / 512)).env (i / 8)).getD (i % 8) 0)
  else if k = Reg.hgPend 0 then d.hgPendRead 0
  else if k = Reg.hgPend 1 then d.hgPendRead 1
  else d.plainRead k

def Dev.readTp (d : Dev) (k : Nat) : Word × Dev :=
  let p := (k - 0x500000) / 0x80000
  let c := (k - 0x500000) % 0x80000
  if p = 0 ∧ 0x40 ≤ c ∧ c < 0x60 ∧ c % 8 = 4 then d.mapPairRead ((c - 0x44) / 8)
  else if 0x100 ≤ c then (d.slotRead p ((c - 0x100) / 0x40) ((c - 0x100) % 0x40) k, d)
  else (d.plainRead k, d)

/-- A sprite-block word; SPp_STAT.WALKN is the walk order's length (R91). -/
def Dev.readSp (d : Dev) (m k : Nat) : Word × Dev :=
  if 0x680000 ≤ k then d.readWord (d.spriteByte k).1 m (d.spriteByte k).2
  else if k = Reg.spStat 0 then (setFld (d.plainRead k) 30 16 (d.pipe 0).walk.length, d)
  else if k = Reg.spStat 1 then (setFld (d.plainRead k) 30 16 (d.pipe 1).walk.length, d)
  else (d.plainRead k, d)

def Dev.readCmp (d : Dev) (m k : Nat) : Word × Dev :=
  let p := (k - 0x700000) / 0x80000
  let c := (k - 0x700000) % 0x80000
  if 0x10000 ≤ c then d.readWord (paletteByte k).1 m (paletteByte k).2
  else if 0x100 ≤ c then (d.slotRead p (8 + (c - 0x100) / 0x40) ((c - 0x100) % 0x40) k, d)
  else (d.plainRead k, d)

def Dev.readLp (d : Dev) (m k : Nat) : Word × Dev :=
  let n := (k - 0x900000) / 0x40000
  let c := (k - 0x900000) % 0x40000
  if 0x20000 ≤ c then d.readWord (dmemOf n) m (c - 0x20000)
  else if 0x10000 ≤ c then d.readWord (imemOf n) m (c - 0x10000)
  else if c = 8 then (d.lpStatRead n, d)
  else if c = 0x18 then (BitVec.ofNat 32 ((d.lp n).pc % 8192), d)
  else if 0x100 ≤ c then
    (if !(d.lp n).halted then 0 else if c < 0x180 then (d.lp n).get ((c - 0x100) / 4) else (d.lp n).preds.zeroExtend 32, d)
  else (d.plainRead k, d)

def Dev.readAu (d : Dev) (k : Nat) : Word × Dev :=
  if k = Reg.auSampLo then d.sampRead
  else if k = Reg.auStat then (d.auStatRead, d)
  else if Reg.auVact 0 ≤ k then (d.auVactRead ((k - Reg.auVact 0) / 4), d)
  else (d.plainRead k, d)

/-- A host-interface register at offset o of its function's registers. -/
def Dev.readHi (d : Dev) (f o k : Nat) : Word :=
  let r := 64 * f + (o - 0x1000) / 32
  if 0x1000 ≤ o ∧ o < 0x8000 ∧ o % 32 = 0x14 then d.ringHeadRead r
  else if 0x1000 ≤ o ∧ o < 0x8000 ∧ o % 32 = 0x18 then d.ringStatRead r
  else d.plainRead k

def Dev.readFm (d : Dev) (k : Nat) : Word :=
  if k = Reg.fmStat then setFld (d.plainRead k) 22 16 ((List.range 32).foldl (fun s n => s + d.fmChunks n) 0)
  else if Reg.fmnCfg 0 ≤ k ∧ k % 16 = 12 then
    (match d.fm ((k - Reg.fmnCfg 0) / 16) with | some q => BitVec.ofNat 32 q.done | none => 0)
  else d.plainRead k

/-- PINk_GPIO shows the filter output, PINk_STAT the synchronised sample, of which the model keeps no more than the filter: it is a
free value (log entry 3). -/
def Dev.readPin (d : Dev) (k : Nat) : Word × Dev :=
  let i := (k - Reg.pinkFunc 0) / 16
  if k < Reg.pinkFunc 0 then (d.plainRead k, d)
  else if k % 16 = 8 then (setBit (d.plainRead k) 2 (d.level i), d)
  else if k % 16 = 12 then
    let (w, d1) := d.free
    (setBit (d.plainRead k) 0 (bit w 0), d1)
  else (d.plainRead k, d)

/-- A read of SPIi_RX takes the oldest word; of an empty FIFO, which the spec gives no value for, a free one (log entry 3). -/
def Dev.spiPop (d : Dev) (i : Nat) : Word × Dev :=
  match (d.spi i).rx with
  | v :: rest => (v, d.setSpi i { d.spi i with rx := rest })
  | [] => d.free

def Dev.readCio (d : Dev) (k : Nat) : Word × Dev :=
  let off := k - 0x1200000
  let b := off / 0x10000
  let c := off % 0x10000
  if b = sbCio ∧ 0x100 ≤ c ∧ c < 0x1C0 ∧ c % 16 = 0xC then (setBit (d.plainRead k) 10 (d.watchFlag 1 ((c - 0x100) / 16)), d)
  else if k = Reg.drvLoad then (BitVec.ofNat 32 d.drvLoad, d)
  else if k = Reg.drvDeflog then (setFld (d.plainRead k) 15 8 d.drvPend.length, d)
  else if b = sbUa ∧ 0x100 ≤ c ∧ c % 32 = 8 then d.uaRead ((c - 0x100) / 32)
  else if b = sbUa ∧ 0x100 ≤ c ∧ c % 32 = 0xC then
    let q := d.ua ((c - 0x100) / 32)
    (setFld (setFld (d.plainRead k) 6 0 q.tx.length) 14 8 q.rx.length, d)
  else if b = sbSpi ∧ 0x100 ≤ c ∧ c % 32 = 0xC then d.spiPop ((c - 0x100) / 32)
  else (d.plainRead k, d)

def Dev.readGl (d : Dev) (k : Nat) : Word :=
  if k = Reg.glTxctl then d.glTxRead
  else if k = Reg.glRxctl then d.glRxRead
  else if Reg.glRxdata 0 ≤ k then d.glDataRead ((k - Reg.glRxdata 0) / 4)
  else d.plainRead k

def Dev.readTmr (d : Dev) (k : Nat) : Word × Dev :=
  let n := (k - 0x1500100) / 0x80
  let c := (k - 0x1500100) % 0x80
  let j := (c - 0x20) / 16
  if k = Reg.tmrRun then (d.tmrRunRead, d)
  else if k < 0x1500100 then (d.plainRead k, d)
  else if c = 4 then (setBit (d.plainRead k) 16 (d.tmrOut n), d)
  else if c = 8 then d.tmrCntRead n
  else if c = 0x10 then d.capRead n
  else if 0x20 ≤ c ∧ c % 16 = 4 then (d.cmpRead n j false, d)
  else if 0x20 ≤ c ∧ c % 16 = 8 then (d.cmpRead n j true, d)
  else (d.plainRead k, d)

def Dev.readFn1 (d : Dev) (m k : Nat) : Word × Dev :=
  let o := k - fn1Base
  if 0x8000 ≤ o then (d.readHi 1 (if o < 0xE000 then o - 0x8000 else 0) k, d)
  else if 0x4000 ≤ o then (d.plainRead k, d)
  else if 0x2000 ≤ o then d.lgRead m (d.lgWinWord (o - 0x2000))
  else if k = Reg.lgStat then (d.lgStatRead, d)
  else if 0x100 ≤ o ∧ o % 8 = 4 then d.lgPairRead ((o - 0x104) / 8)
  else (d.plainRead k, d)

/-- An admitted read of a register or window word by master m: its value, and what the read changes. -/
def Dev.busRead (d : Dev) (m k : Nat) : Word × Dev :=
  match k / 0x100000 with
  | 0 => d.readSys k
  | 1 => (if k = Reg.pwrStat then d.pwrStatRead else d.plainRead k, d)
  | 3 => (d.readIc k, d)
  | 4 => (d.readHg k, d)
  | 5 => d.readTp k
  | 6 => d.readSp m k
  | 7 => d.readCmp m k
  | 9 => d.readLp m k
  | 11 => d.readAu k
  | 12 => (if k = Reg.mxLimit then BitVec.ofNat 32 d.mxLimit else d.plainRead k, d)
  | 13 => (d.readHi 0 (k - 0xD00000) k, d)
  | 14 => (if k = Reg.memCap then BitVec.ofNat 32 (d.dataCap / 1048576) else d.plainRead k, d)
  | 16 => (d.readFm k, d)
  | 17 => d.readPin k
  | 18 => d.readCio k
  | 20 => (d.readGl k, d)
  | 21 => d.readTmr k
  | 256 => d.readFn1 m k
  | b => if 24 ≤ b ∧ b < 32 then d.readWord 1 m (k - 0x1800000) else (d.plainRead k, d)

/-! ### Who asked -/

/-- A read's data goes back to the issuer: a line processor's to IO.RES (R161, R163), any other master's to its interface. -/
def Dev.deliver (d : Dev) (src : Src) (v : Word) : Dev :=
  match src with
  | .lp n => d.setPortOf n 72 v
  | _ => d.send (.readData (masterOf src) v)

/-- An issuer's read of a register known by its key: its value where it is admitted, otherwise a violation and 0 (R413). -/
def Dev.readKey (d : Dev) (src : Src) (k : Nat) (f : Dev → Word × Dev) : Dev :=
  let pl := keyPlace src k
  if d.admits (masterOf src) pl false then (let (v, d1) := f d; d1.deliver src v)
  else (d.violate (masterOf src) 0 pl.target false pl.off).deliver src 0

/-- An issuer's word write at an address of its own space; without all four bytes enabled it is discarded (R9). -/
def Dev.wordWrite (d : Dev) (src : Src) (a : Nat) (v : Word) (be : BitVec 4) : Dev :=
  d.access src a true (fun k d => if be = 15 then d.busWrite (masterOf src) k v else d)

/-- An issuer's word read at an address of its own space. -/
def Dev.wordRead (d : Dev) (src : Src) (a : Nat) : Word × Dev :=
  let pl := placeOf src a
  if d.admits (masterOf src) pl false then d.busRead (masterOf src) pl.key
  else (0, d.violate (masterOf src) 0 pl.target false pl.off)

/-- The memory and byte behind a memory-window word, where its memory carries a code. -/
def Dev.codedWord (d : Dev) (k : Nat) : Option (Nat × Nat) :=
  match k / 0x100000 with
  | 6 => if 0x680000 ≤ k then some (d.spriteByte k) else none
  | 7 => if 0x10000 ≤ (k - 0x700000) % 0x80000 then some (paletteByte k) else none
  | 9 =>
    let n := (k - 0x900000) / 0x40000
    let c := (k - 0x900000) % 0x40000
    if 0x20000 ≤ c then some (dmemOf n, c - 0x20000) else if 0x10000 ≤ c then some (imemOf n, c - 0x10000) else none
  | 256 =>
    let w := d.lgWinWord (k - fn1Base - 0x2000)
    if 0x2000 ≤ k - fn1Base ∧ k - fn1Base < 0x4000 ∧ d.lgMay 1 w false then some (lgMem, 4 * w) else none
  | b => if 24 ≤ b ∧ b < 32 then some (1, k - 0x1800000) else none

/-- An issuer's admitted read at an address of its own space meets an uncorrectable word (R279). -/
def Dev.badRead (d : Dev) (src : Src) (a : Nat) : Bool :=
  let pl := placeOf src a
  d.admits (masterOf src) pl false && (match d.codedWord pl.key with | some e => d.badAt e.1 e.2 4 | none => false)

/-! ### LPDDR5 and the frame store (R245, R438) -/

/-- A dword write of memory id (0 LPDDR5, 6 frame store) by a host function or the debug port: a violation of the memory's table,
or of no target beyond its end (`addr`, R414); LPDDR5 that is not ready makes it wait (R273). -/
def Dev.memWrite (d : Dev) (m id off addr : Nat) (v : Word) (be : BitVec 4) : Dev :=
  if d.memBytes id < off + 4 then d.violate m 0 noTarget true addr
  else if be = 0 then d
  else if !d.mayWrite m id off 4 then d.violate m 0 (memTarget id) true off
  else if id = 0 ∧ (!d.memReady ∨ d.memc.waiting.any (fun h => h.master = m)) then d.hold ⟨m, off, some (v, be)⟩
  else d.writeEn id m off v be

/-- A dword read of memory id likewise; its data goes back to the master. -/
def Dev.memRead (d : Dev) (m id off addr : Nat) : Dev :=
  if d.memBytes id < off + 4 then (d.violate m 0 noTarget false addr).send (.readData m 0)
  else if !d.mayTouch m id off 4 false then (d.violate m 0 (memTarget id) false off).send (.readData m 0)
  else if id = 0 ∧ (!d.memReady ∨ d.memc.waiting.any (fun h => h.master = m)) then d.hold ⟨m, off, none⟩
  else
    let (v, d1) := d.readWord id m off
    d1.answer m (d.badAt id off 4) v

/-- The LPDDR5 byte that dword a of BAR2 reaches (R245). -/
def Dev.bar2Byte (d : Dev) (a : Nat) : Nat := d.rf Reg.hiBar2base 13 0 * 1048576 + a / 4 * 4

/-- Who issues the accesses of a function's BAR0. -/
def fnSrc (f : Nat) : Src := if f = 0 then .game else .custodian

/-- A host write through a BAR (R244, R245). Function 1 has BAR0 alone, and an address beyond a BAR's size is none of its own. -/
def Dev.barWrite (d : Dev) (f : Nat) (b : Bar) (a : Nat) (v : Word) (be : BitVec 4) : Dev :=
  match b with
  | .bar0 => d.wordWrite (fnSrc f) a v be
  | .bar2 => if f ≠ 0 ∨ 268435456 ≤ a then d else d.memWrite 0 0 (d.bar2Byte a) a v be
  | .bar4 => if f ≠ 0 ∨ 67108864 ≤ a then d else d.memWrite 0 6 (a / 4 * 4) a v be

/-- A host read through a BAR completes (R246): not while an earlier write of the function through the BAR is still on its way. -/
def Dev.barRead (d : Dev) (f : Nat) (b : Bar) (a : Nat) : Dev :=
  match b with
  | .bar0 =>
    if f ≠ 0 ∧ d.lg.stalled.any (fun e => e.master = 1) then d
    else
      let (v, d1) := d.wordRead (fnSrc f) a
      d1.answer (masterOf (fnSrc f)) (d.badRead (fnSrc f) a) v
  | .bar2 => if f ≠ 0 ∨ 268435456 ≤ a then d else d.memRead 0 0 (d.bar2Byte a) a
  | .bar4 => if f ≠ 0 ∨ 67108864 ≤ a then d else d.memRead 0 6 (a / 4 * 4) a

/-- A debug access (R438). The ledger SRAM refuses master 13 (R350, R411). -/
def Dev.debugPass (d : Dev) (wr : Bool) (sp : DebugSpace) (a : Nat) (v : Word) : Dev :=
  match sp with
  | .reg =>
    if wr then d.wordWrite .debug a v 15
    else
      let (w, d1) := d.wordRead .debug a
      d1.answer 13 (d.badRead .debug a) w
  | .lpddr => if wr then d.memWrite 13 0 (a / 4 * 4) a v 15 else d.memRead 13 0 (a / 4 * 4) a
  | .frameStore => if wr then d.memWrite 13 6 (a / 4 * 4) a v 15 else d.memRead 13 6 (a / 4 * 4) a
  | .ledgerSram =>
    let d1 := d.violate 13 0 (if a < 131072 then 4 else noTarget) wr a
    if wr then d1 else d1.send (.readData 13 0)

/-- A debug access; a write by the debug port is recorded (R43). -/
def Dev.debugAccess (d : Dev) (wr : Bool) (sp : DebugSpace) (a : Nat) (v : Word) : Dev :=
  let d1 := d.debugPass wr sp a v
  if wr then d1.setDet 5 else d1

end Sys2Proof.Machine
end

