-- ==== Sys2Proof/Machine/Lpio.lean ====
section
/-! DEFINITION. The accesses of the line processors' IO units as they complete (R161, R163), and fabric timeouts (R41). -/

namespace Sys2Proof.Machine

/-- A write of LP n to the ledger stands stalled (R352): the accesses behind it wait. -/
def Dev.lpIoStalled (d : Dev) (n : Nat) : Bool := d.lg.stalled.any (fun e => e.master = 2 + n)

/-- POSTED_WRITE_COMPLETE (R163): the oldest access of LP n is a write, and reaches its target. -/
def Dev.lpWriteDone (d : Dev) (n : Fin 4) : Dev :=
  match (d.lp n).io with
  | .wr a v :: rest =>
    if d.lpIoStalled n then d else (d.setLp n { d.lp n with io := rest }).wordWrite (.lp n) a v 15
  | _ => d

/-- IO_READ_COMPLETE (R163): the oldest access of LP n is a read; its value is in IO.RES unless a later read took over. -/
def Dev.lpReadDone (d : Dev) (n : Fin 4) : Dev :=
  match (d.lp n).io with
  | .rd a keep :: rest =>
    if d.lpIoStalled n then d
    else
      let (v, d1) := (d.setLp n { d.lp n with io := rest }).wordRead (.lp n) a
      if keep then d1.setPortOf n 72 v else d1
  | _ => d

/-- An IO read of LP n that meets a fabric timeout gives 0 and raises event 2 (R163). -/
def Dev.lpReadLost (d : Dev) (n : Nat) : Dev :=
  match (d.lp n).io with
  | .rd _ keep :: rest =>
    let d1 := (d.setLp n { d.lp n with io := rest }).raise 2
    if keep then d1.setPortOf n 72 0 else d1
  | _ => d

/-- A row write that meets a fabric timeout is abandoned, and the row keeps its contents (R127, R134). -/
def Dev.rowLost (d : Dev) (p : Nat) : Dev :=
  if (d.pipe p).buf.isSome then (d.setPipe p { d.pipe p with buf := none }).raise 2 else d

/-- An access of another master that meets a fabric timeout: event 2. The oldest access of the master that the model holds ends; the
data a read gives then is not stated (log entry 3). -/
def Dev.accessLost (d : Dev) (m : Nat) : Dev :=
  let d1 := d.raise 2
  match d1.memc.held.find? (fun h => h.master = m) with
  | some h =>
    let d2 := { d1 with memc := { d1.memc with held := d1.memc.held.erase h } }
    if h.data.isSome then d2
    else
      let (v, d3) := d2.free
      d3.send (.readData m v)
  | none => d1

/-- FABRIC_TIMEOUT (R41): each block reacts as its chapter states. -/
def Dev.fabricTimeout (d : Dev) (who : TimeoutVictim) : Dev :=
  match who with
  | .lpRead n => d.lpReadLost n
  | .blit => d.blitTimeout
  | .flume ch wr space addr =>
    d.fmOutside ⟨7, space.toNat, wr, match d.fm ch with | some q => ringFn q.ring | none => 0, some ch.val, addr.toNat⟩
  | .rowWrite p => d.rowLost p
  | .other m => d.accessLost m

end Sys2Proof.Machine
end

