-- ==== Sys2Proof/Machine/Operands.lean ====
section
/-! DEFINITION. How a command's operands reach the device: who issues it, the register it names, and what the host interface does
once a block has changed. -/

namespace Sys2Proof.Machine

/-- The host interface passes what it may now pass (R249, R258): its clock must run. -/
def Dev.settle (d : Dev) : Dev := if d.clocked then d.pumpAll else d

/-- A command of a clocked block after which descriptors may pass. -/
def State.settled (s : State) (f : Dev → Dev) : Host.Outcome State Fault Refusal := s.onClock (fun d => (f d).settle)

/-- An issuer's accesses are carried out: its clock runs, the debug port's own way in a freeze too (R439), and no earlier write of
its stands stalled at the ledger (R246, R352, log entry 6). -/
def Dev.serves (d : Dev) (src : Src) : Bool :=
  match src with
  | .debug => decide (d.power < 2)
  | _ => d.clocked && !d.lg.stalled.any (fun e => e.master = masterOf src)

/-- A write by an issuer. One by the debug port is recorded (R43). -/
def State.fromSrc (s : State) (src : Src) (f : Dev → Dev) : Host.Outcome State Fault Refusal :=
  .next (if s.dev.serves src then
    { s with dev := (if src = .debug then (f s.dev).setDet 5 else f s.dev).settle } else s)

/-- A write by an issuer to a register known by its key: the register's effect where the access is admitted. -/
def State.toReg (s : State) (src : Src) (k : Nat) (f : Dev → Dev) : Host.Outcome State Fault Refusal :=
  s.fromSrc src (fun d => d.accessKey src k true f)

/-- A write by an issuer of value v to a register known by its key. -/
def State.putReg (s : State) (src : Src) (k : Nat) (v : Word) : Host.Outcome State Fault Refusal :=
  s.toReg src k (fun d => d.busWrite (masterOf src) k v)

/-- A write by an issuer to a memory-window word known by its key: without all four bytes enabled it is discarded (R9). -/
def State.putWindow (s : State) (src : Src) (k : Nat) (v : Word) (be : BitVec 4) : Host.Outcome State Fault Refusal :=
  s.toReg src k (fun d => if be = 15 then d.busWrite (masterOf src) k v else d)

/-- A read by an issuer. -/
def State.readBy (s : State) (src : Src) (f : Dev → Dev) : Host.Outcome State Fault Refusal :=
  .next (if s.dev.serves src then { s with dev := (f s.dev).settle } else s)

/-- A read by an issuer of a register known by its key. -/
def State.getReg (s : State) (src : Src) (k : Nat) : Host.Outcome State Fault Refusal :=
  s.readBy src (fun d => d.readKey src k (fun d => d.busRead (masterOf src) k))

/-- Which function's host-interface registers an issuer names: its own; the debug port function 0's. -/
def srcFn : Src → Nat
  | .custodian => 1
  | _ => 0

end Sys2Proof.Machine
end

