-- ==== Sys2Proof/Machine/CmdAudio.lean ====
section
/-! DEFINITION. Commands of audio: sample ticks, the queue, pages, serial inputs (R210 to R241). -/

namespace Sys2Proof.Machine

/-- SAMPLE_TICK (R213). -/
def execSampleTick (lateVoices : List LateFrame) (lateTaps : List (Nat × Nat)) (s : State) : Host.Outcome State Fault Refusal :=
  s.settled (fun d => d.sampleTick lateVoices lateTaps)

/-- VSTART (R217). -/
def execVstart (s : State) : Host.Outcome State Fault Refusal :=
  s.settled (fun d => d.auRow 0x30)

/-- VSET (R222). -/
def execVset (s : State) : Host.Outcome State Fault Refusal :=
  s.settled (fun d => d.auRow 0x31)

/-- VSTOP (R222). -/
def execVstop (s : State) : Host.Outcome State Fault Refusal :=
  s.settled (fun d => d.auRow 0x32)

/-- GSET (R222). -/
def execGset (s : State) : Host.Outcome State Fault Refusal :=
  s.settled (fun d => d.auRow 0x33)

/-- BQSET (R235). -/
def execBqset (s : State) : Host.Outcome State Fault Refusal :=
  s.settled (fun d => d.auRow 0x34)

/-- PSWAP (R234). -/
def execPswap (s : State) : Host.Outcome State Fault Refusal :=
  s.settled (fun d => d.auRow 0x36)

/-- PLOAD (R226). -/
def execPload (r : Fin 68) (s : State) : Host.Outcome State Fault Refusal :=
  s.settled (fun d => d.pload r)

/-- PAGE_LOAD_COMPLETE (R226). -/
def execPageLoadComplete (s : State) : Host.Outcome State Fault Refusal :=
  s.settled (fun d => d.pageLoaded)

/-- SERIAL_INPUT_FRAME (R237). -/
def execSerialInputFrame (m : Fin 2) (slots : List (BitVec 24)) (s : State) : Host.Outcome State Fault Refusal :=
  s.onClock (fun d => d.serialIn m slots)

/-- MCLK_LOST (R212). -/
def execMclkLost (s : State) : Host.Outcome State Fault Refusal :=
  s.onClock (fun d => d.mclkLost)

/-- MCLK_RESTORED (R212). -/
def execMclkRestored (s : State) : Host.Outcome State Fault Refusal :=
  s.onClock (fun d => d.mclkRestored)

/-- AU_ENABLE (R241). -/
def execAuEnable (src : Src) (mclkHz : Nat) (s : State) : Host.Outcome State Fault Refusal :=
  s.toReg src Reg.auCtl (fun d => d.auEnable mclkHz)

/-- AU_DISABLE (R241). -/
def execAuDisable (src : Src) (s : State) : Host.Outcome State Fault Refusal :=
  s.toReg src Reg.auCtl (fun d => d.turn (d.rb Reg.auCtl 0) false id Dev.auDisable)

/-- AU_COMMIT (R241). -/
def execAuCommit (src : Src) (s : State) : Host.Outcome State Fault Refusal :=
  s.putReg src Reg.auCommit 1

/-- MX_ENABLE (R241). -/
def execMxEnable (src : Src) (s : State) : Host.Outcome State Fault Refusal :=
  s.putReg src Reg.mxCtl 1

/-- MX_DISABLE (R241). -/
def execMxDisable (src : Src) (s : State) : Host.Outcome State Fault Refusal :=
  s.putReg src Reg.mxCtl 0

/-- DELAY_LINE_WRITE (R232). -/
def execDelayLineWrite (src : Src) (line : Fin 64) (len : Bool) (v : Word) (s : State) : Host.Outcome State Fault Refusal :=
  s.putReg src (if len then Reg.mxDlylen line else Reg.mxDlybase line) v

/-- AUDIO_PLL_LOCK_TIMEOUT (R241). -/
def execAudioPllLockTimeout (s : State) : Host.Outcome State Fault Refusal :=
  s.onClock (fun d => d.audioPllTimeout)

end Sys2Proof.Machine
end

