-- ==== Sys2Proof/Machine/CmdBlit.lean ====
section
/-! DEFINITION. Commands of the blit engine (R193 to R209). A command begins with its first segments; BLIT_COMPLETE runs the rest. -/

namespace Sys2Proof.Machine

/-- BLIT_COPY (R196). -/
def execBlitCopy (q : Option (Fin 68)) (segs : Nat) (s : State) : Host.Outcome State Fault Refusal :=
  s.settled (fun d => d.blitBegin 0 (q.map (·.val)) segs)

/-- BLIT_FILL (R196). -/
def execBlitFill (q : Option (Fin 68)) (segs : Nat) (s : State) : Host.Outcome State Fault Refusal :=
  s.settled (fun d => d.blitBegin 1 (q.map (·.val)) segs)

/-- BLIT_COLOUR_KEY_COPY (R196). -/
def execBlitColourKeyCopy (q : Option (Fin 68)) (segs : Nat) (s : State) : Host.Outcome State Fault Refusal :=
  s.settled (fun d => d.blitBegin 2 (q.map (·.val)) segs)

/-- BLIT_GLYPH_EXPANSION (R196). -/
def execBlitGlyphExpansion (q : Option (Fin 68)) (segs : Nat) (s : State) : Host.Outcome State Fault Refusal :=
  s.settled (fun d => d.blitBegin 3 (q.map (·.val)) segs)

/-- BLIT_COMPLETE (R200). -/
def execBlitComplete (s : State) : Host.Outcome State Fault Refusal :=
  s.settled (fun d => d.blitComplete)

/-- BL_ENABLE (R209). -/
def execBlEnable (src : Src) (s : State) : Host.Outcome State Fault Refusal :=
  s.putReg src Reg.blCtl 1

/-- BL_DISABLE (R207). -/
def execBlDisable (src : Src) (s : State) : Host.Outcome State Fault Refusal :=
  s.putReg src Reg.blCtl 0

/-- BL_COMMIT (R209). -/
def execBlCommit (src : Src) (s : State) : Host.Outcome State Fault Refusal :=
  s.putReg src Reg.blCommit 1

end Sys2Proof.Machine
end

