-- ==== Sys2Proof/Machine/CmdBus.lean ====
section
/-! DEFINITION. Commands of the fabric, the BARs and the debug port (R7, R14, R41, R244 to R247, R438). -/

namespace Sys2Proof.Machine

/-- REGISTER_WRITE (R7). It takes effect by its access codes or as its register's own rule says -/
def execRegisterWrite (src : Src) (a : Nat) (v : Word) (be : BitVec 4) (s : State) : Host.Outcome State Fault Refusal :=
  s.fromSrc src (fun d => d.wordWrite src a v be)

/-- FABRIC_STALL_RELEASE (R14). -/
def execFabricStallRelease (m : Fin 16) (s : State) : Host.Outcome State Fault Refusal :=
  s.onClock (fun d => d.fabricRelease m)

/-- BAR_READ (R246). -/
def execBarRead (f : Fin 2) (bar : Bar) (a : Nat) (s : State) : Host.Outcome State Fault Refusal :=
  s.readBy (fnSrc f) (fun d => d.barRead f bar a)

/-- BAR_WRITE (R245). -/
def execBarWrite (f : Fin 2) (bar : Bar) (a : Nat) (v : Word) (be : BitVec 4) (s : State) : Host.Outcome State Fault Refusal :=
  s.fromSrc (fnSrc f) (fun d => d.barWrite f bar a v be)

/-- MSIX_UNMASK (R247). -/
def execMsixUnmask (f : Fin 2) (vec : Fin 64) (s : State) : Host.Outcome State Fault Refusal :=
  s.toReg (fnSrc f) (Reg.hiMsixT f (4 * vec + 3)) (fun d => d.msixUnmask f vec)

/-- DEBUG_ACCESS (R438). -/
def execDebugAccess (wr : Bool) (sp : DebugSpace) (a : Nat) (v : Word) (s : State) : Host.Outcome State Fault Refusal :=
  s.byDebug (fun d => (d.debugAccess wr sp a v).settle)

/-- FABRIC_TIMEOUT (R41). -/
def execFabricTimeout (who : TimeoutVictim) (s : State) : Host.Outcome State Fault Refusal :=
  s.settled (fun d => d.fabricTimeout who)

end Sys2Proof.Machine
end

