-- ==== Sys2Proof/Machine/CmdDisplay.lean ====
section
/-! DEFINITION. Commands of the compositor pipes: tile planes, map store, sprites, the Sluice, layers (R64 to R124, R127). -/

namespace Sys2Proof.Machine

/-- FETCH_ARRIVAL (R117). -/
def execFetchArrival (p : Fin 2) (i : Nat) (s : State) : Host.Outcome State Fault Refusal :=
  s.onClock (fun d => d.fetchArrival p i)

/-- LINE_TABLE_FETCH_DONE (R77). -/
def execLineTableFetchDone (p : Fin 2) (k : Fin 8) (col : Bool) (s : State) : Host.Outcome State Fault Refusal :=
  s.onClock (fun d => d.tableDone p k col)

/-- ROW_WRITE (R127). -/
def execRowWrite (p : Fin 2) (s : State) : Host.Outcome State Fault Refusal :=
  s.onClock (fun d => d.rowWrite p)

/-- TP_ENABLE (R85). -/
def execTpEnable (src : Src) (p : Fin 2) (s : State) : Host.Outcome State Fault Refusal :=
  s.putReg src (Reg.tpCtl p) 1

/-- TP_DISABLE (R85). -/
def execTpDisable (src : Src) (p : Fin 2) (s : State) : Host.Outcome State Fault Refusal :=
  s.putReg src (Reg.tpCtl p) 0

/-- TP_COMMIT (R82). -/
def execTpCommit (src : Src) (p : Fin 2) (s : State) : Host.Outcome State Fault Refusal :=
  s.putReg src (Reg.tpCommit p) 1

/-- MAP_WINDOW_WRITE (R81). -/
def execMapWindowWrite (src : Src) (i : Nat) (v : Word) (be : BitVec 4) (s : State) : Host.Outcome State Fault Refusal :=
  s.putWindow src (0x1800000 + 4 * i) v be

/-- MAP_PAIR_WRITE (R83). -/
def execMapPairWrite (m : Fin 4) (v : Word) (s : State) : Host.Outcome State Fault Refusal :=
  s.putReg (.lp m) (Reg.tpMapdata m) v

/-- MAP_PAIR_READ (R83). -/
def execMapPairRead (m : Fin 4) (s : State) : Host.Outcome State Fault Refusal :=
  s.getReg (.lp m) (Reg.tpMapdata m)

/-- LIST_POINT (R91). -/
def execListPoint (p : Fin 2) (s : State) : Host.Outcome State Fault Refusal :=
  s.onClock (fun d => d.listPoint p)

/-- SPRITE_WINDOW_WRITE (R106). -/
def execSpriteWindowWrite (src : Src) (i : Nat) (v : Word) (be : BitVec 4) (s : State) : Host.Outcome State Fault Refusal :=
  s.putWindow src (0x680000 + 4 * i) v be

/-- SP_ENABLE (R108). -/
def execSpEnable (src : Src) (p : Fin 2) (s : State) : Host.Outcome State Fault Refusal :=
  s.putReg src (Reg.spCtl p) 1

/-- SP_DISABLE (R108). -/
def execSpDisable (src : Src) (p : Fin 2) (s : State) : Host.Outcome State Fault Refusal :=
  s.putReg src (Reg.spCtl p) 0

/-- SP_COMMIT (R107). -/
def execSpCommit (src : Src) (p : Fin 2) (s : State) : Host.Outcome State Fault Refusal :=
  s.putReg src (Reg.spCommit p) 1

/-- CMP_ENABLE (R124). -/
def execCmpEnable (src : Src) (p : Fin 2) (s : State) : Host.Outcome State Fault Refusal :=
  s.putReg src (Reg.cmpCtl p) 1

/-- CMP_DISABLE (R109). -/
def execCmpDisable (src : Src) (p : Fin 2) (s : State) : Host.Outcome State Fault Refusal :=
  s.putReg src (Reg.cmpCtl p) 0

/-- CMP_COMMIT (R123). -/
def execCmpCommit (src : Src) (p : Fin 2) (s : State) : Host.Outcome State Fault Refusal :=
  s.putReg src (Reg.cmpCommit p) 1

/-- LAYER_BLEND_WRITE (R124). -/
def execLayerBlendWrite (src : Src) (p : Fin 2) (k : Fin 10) (v : Word) (s : State) : Host.Outcome State Fault Refusal :=
  s.putReg src (Reg.cmpLay p k) v

end Sys2Proof.Machine
end

