-- ==== Sys2Proof/Machine/CmdFlume.lean ====
section
/-! DEFINITION. Commands of the Flume (R297 to R311). -/

namespace Sys2Proof.Machine

/-- COPY (R300). -/
def execCopy (r : Fin 68) (upTo : Nat) (host : List (BitVec 8)) (s : State) : Host.Outcome State Fault Refusal :=
  s.settled (fun d => d.fmTake r 0x20 upTo host)

/-- FILL (R300). -/
def execFill (r : Fin 68) (upTo : Nat) (host : List (BitVec 8)) (s : State) : Host.Outcome State Fault Refusal :=
  s.settled (fun d => d.fmTake r 0x21 upTo host)

/-- COMPARE (R305). -/
def execCompare (r : Fin 68) (upTo : Nat) (host : List (BitVec 8)) (s : State) : Host.Outcome State Fault Refusal :=
  s.settled (fun d => d.fmTake r 0x22 upTo host)

/-- FLUME_DESCRIPTOR_COMPLETE (R302). -/
def execFlumeDescriptorComplete (ch : Fin 32) (host : List (BitVec 8)) (s : State) : Host.Outcome State Fault Refusal :=
  s.settled (fun d => d.fmComplete ch host)

/-- BUS_ERROR (R308). -/
def execBusError (e : FlumeFault) (s : State) : Host.Outcome State Fault Refusal :=
  s.settled (fun d =>
    d.fmOutside ⟨e.cause.toNat, e.space.toNat, e.write, e.owner, e.chan.map (·.val), e.addr.toNat⟩)

/-- CHANNEL_STOP (R306). -/
def execChannelStop (src : Src) (ch : Fin 32) (s : State) : Host.Outcome State Fault Refusal :=
  s.putReg src (Reg.fmnCtl ch) 1

/-- CHANNEL_RUN (R306). -/
def execChannelRun (src : Src) (ch : Fin 32) (s : State) : Host.Outcome State Fault Refusal :=
  s.putReg src (Reg.fmnCtl ch) 0

/-- RESUME (R309). -/
def execResume (src : Src) (s : State) : Host.Outcome State Fault Refusal :=
  s.toReg src Reg.fmCtl (fun d => d.fmResume)

/-- FM_ENABLE (R311). -/
def execFmEnable (src : Src) (s : State) : Host.Outcome State Fault Refusal :=
  s.toReg src Reg.fmCtl (fun d => d.fmEnable)

/-- FM_DISABLE (R311). -/
def execFmDisable (src : Src) (s : State) : Host.Outcome State Fault Refusal :=
  s.toReg src Reg.fmCtl (fun d => d.fmDisable)

/-- FM_COMMIT (R311). -/
def execFmCommit (src : Src) (s : State) : Host.Outcome State Fault Refusal :=
  s.putReg src Reg.fmCommit 1

end Sys2Proof.Machine
end

