-- ==== Sys2Proof/Machine/CmdHeadgate.lean ====
section
/-! DEFINITION. Commands of the Headgate: admission, the line budget, timed updates (R46 to R63, R260, R261). -/

namespace Sys2Proof.Machine

/-- SCENE (R55). -/
def execScene (r : Fin 68) (s : State) : Host.Outcome State Fault Refusal :=
  s.settled (fun d => d.scene r)

/-- ENV (R46). -/
def execEnv (r : Fin 68) (s : State) : Host.Outcome State Fault Refusal :=
  s.settled (fun d => d.envAlone r)

/-- UPD (R261). -/
def execUpd (r : Fin 68) (s : State) : Host.Outcome State Fault Refusal :=
  s.settled (fun d => d.upd r)

/-- NOP (R260). -/
def execNop (r : Fin 68) (s : State) : Host.Outcome State Fault Refusal :=
  s.settled (fun d => d.nop r)

/-- TIMING_COST_EVALUATION (R51). -/
def execTimingCostEvaluation (x : Fin 3) (s : State) : Host.Outcome State Fault Refusal :=
  s.onClock (fun d => d.hgEvaluate x)

/-- HG_ENABLE (R63). -/
def execHgEnable (src : Src) (p : Fin 2) (s : State) : Host.Outcome State Fault Refusal :=
  s.toReg src Reg.hgCtl (fun d => d.hgEnable p)

/-- HG_DISABLE (R63). -/
def execHgDisable (src : Src) (p : Fin 2) (s : State) : Host.Outcome State Fault Refusal :=
  s.toReg src Reg.hgCtl (fun d => d.turn (d.hgEn p) false (·.hgEnable p) (·.hgDisable p))

end Sys2Proof.Machine
end

