-- ==== Sys2Proof/Machine/CmdHost.lean ====
section
/-! DEFINITION. Commands of the host interface: doorbells, rings, mailboxes, the PCIe link (R242 to R270, R436). -/

namespace Sys2Proof.Machine

/-- DOORBELL_POLL (R255). -/
def execDoorbellPoll (s : State) : Host.Outcome State Fault Refusal :=
  s.settled (fun d => d.doorbellPoll)

/-- DOORBELL_READ_COMPLETE (R255). -/
def execDoorbellReadComplete (f : Fin 2) (words : List (BitVec 32)) (s : State) : Host.Outcome State Fault Refusal :=
  s.settled (fun d => d.doorbellRead f words)

/-- DESCRIPTOR_ARRIVAL (R258). -/
def execDescriptorArrival (r : Fin 68) (w : BitVec 512) (s : State) : Host.Outcome State Fault Refusal :=
  s.settled (fun d => d.descriptorArrival r w)

/-- DEADLINE_RELEASE (R253). -/
def execDeadlineRelease (r : Fin 68) (s : State) : Host.Outcome State Fault Refusal :=
  s.onClock (fun d => d.pump r)

/-- COMPLETION_WRITE (R251). -/
def execCompletionWrite (r : Fin 68) (s : State) : Host.Outcome State Fault Refusal :=
  s.settled (fun d => d.completionWrite r)

/-- MBOX (R262). -/
def execMbox (r : Fin 68) (s : State) : Host.Outcome State Fault Refusal :=
  s.settled (fun d => d.mbox r)

/-- HOST_READ_TIMEOUT (R265). -/
def execHostReadTimeout (which : HostRead) (s : State) : Host.Outcome State Fault Refusal :=
  s.settled (fun d => match which with | .doorbell f => d.doorbellTimeout f | .descriptor r => d.descriptorTimeout r)

/-- STALL_TIMEOUT (R266). -/
def execStallTimeout (which : StallSource) (s : State) : Host.Outcome State Fault Refusal :=
  s.onClock (fun d => match which with | .ring r => d.ringStall r | .eventQueue f => d.queueStall f)

/-- PCIE_LINK_DOWN (R267). -/
def execPcieLinkDown (s : State) : Host.Outcome State Fault Refusal :=
  s.always (fun d => d.linkDown)

/-- PCIE_LINK_UP (R267). -/
def execPcieLinkUp (s : State) : Host.Outcome State Fault Refusal :=
  s.always (fun d => d.linkUp)

/-- HI_ENABLE (R270). -/
def execHiEnable (src : Src) (s : State) : Host.Outcome State Fault Refusal :=
  s.putReg src (Reg.hiCtl (srcFn src)) 1

/-- HI_COMMIT (R270). -/
def execHiCommit (src : Src) (s : State) : Host.Outcome State Fault Refusal :=
  s.putReg src (Reg.hiCommit (srcFn src)) 1

/-- RING_ENABLE (R270). -/
def execRingEnable (src : Src) (r : Fin 68) (s : State) : Host.Outcome State Fault Refusal :=
  s.toReg src (Reg.hiRingCfg r) (fun d => d.ringEnable r)

/-- RING_DISABLE (R268). -/
def execRingDisable (src : Src) (r : Fin 68) (s : State) : Host.Outcome State Fault Refusal :=
  s.toReg src (Reg.hiRingCfg r) (fun d => d.ringDisable r)

/-- CONFIGURATION_REQUEST (R436). -/
def execConfigurationRequest (f : Fin 2) (bme : Option Bool) (s : State) : Host.Outcome State Fault Refusal :=
  s.always (fun d => (d.configRequest f bme).settle)

end Sys2Proof.Machine
end

