-- ==== Sys2Proof/Machine/CmdIrq.lean ====
section
/-! DEFINITION. Commands of the interrupt controller and the Weir (R395 to R408). -/

namespace Sys2Proof.Machine

/-- WEIR_TIMEOUT (R403). -/
def execWeirTimeout (w : Fin 32) (s : State) : Host.Outcome State Fault Refusal :=
  s.onClock (fun d => d.weirTimeout w)

/-- WEIR_BYPASS (R404). -/
def execWeirBypass (tgt : Fin 6) (s : State) : Host.Outcome State Fault Refusal :=
  s.onClock (fun d => d.weirBypass tgt)

/-- EVENT_ENTRY_WRITE (R406). -/
def execEventEntryWrite (f : Fin 2) (s : State) : Host.Outcome State Fault Refusal :=
  s.onClock (fun d => d.eventEntry f)

/-- SOURCE_WRITE (R408). -/
def execSourceWrite (src : Src) (e : Fin 512) (v : Word) (s : State) : Host.Outcome State Fault Refusal :=
  s.putReg src (Reg.icSrc e) v

/-- IC_COMMIT (R402). -/
def execIcCommit (src : Src) (s : State) : Host.Outcome State Fault Refusal :=
  s.putReg src Reg.icCommit 1

end Sys2Proof.Machine
end

