-- ==== Sys2Proof/Machine/CmdLedger.lean ====
section
/-! DEFINITION. Commands of the ledger store (R350 to R362). -/

namespace Sys2Proof.Machine

/-- COMMIT (R355). -/
def execCommit (r : Fin 68) (code : BitVec 12) (s : State) : Host.Outcome State Fault Refusal :=
  s.settled (fun d => d.lgCommit r code.toNat)

/-- HCHECK (R358). -/
def execHcheck (r : Fin 68) (code : BitVec 12) (s : State) : Host.Outcome State Fault Refusal :=
  s.settled (fun d => d.lgHcheck r code.toNat)

/-- LEDGER_COMMIT_COMPLETE (R355). -/
def execLedgerCommitComplete (code : BitVec 12) (s : State) : Host.Outcome State Fault Refusal :=
  s.settled (fun d => d.lgFinish code.toNat)

/-- COMMIT_TIMEOUT (R357). -/
def execCommitTimeout (code : BitVec 12) (s : State) : Host.Outcome State Fault Refusal :=
  s.settled (fun d => d.lgAbort 5 code.toNat)

/-- COMMIT_FLASH_FAILURE (R355). -/
def execCommitFlashFailure (code : BitVec 12) (s : State) : Host.Outcome State Fault Refusal :=
  s.settled (fun d => d.lgAbort 4 code.toNat)

/-- LEDGER_QUEUE_STALL_RELEASE (R352). -/
def execLedgerQueueStallRelease (s : State) : Host.Outcome State Fault Refusal :=
  s.onClock (fun d => d.lgRelease)

/-- A write of v to pair m by its LP, whose OP the pair's address register holds (R351). -/
def Dev.pairOp (d : Dev) (m op : Nat) : Bool := decide (d.rf (Reg.lgLpaddr m) 17 16 = op)

/-- LEDGER_STORE (R351). -/
def execLedgerStore (m : Fin 4) (v : Word) (s : State) : Host.Outcome State Fault Refusal :=
  s.toReg (.lp m) (Reg.lgLpdata m) (fun d => if d.pairOp m 0 then d.lgPairWrite m v else d)

/-- LEDGER_ADD (R351). -/
def execLedgerAdd (m : Fin 4) (v : Word) (s : State) : Host.Outcome State Fault Refusal :=
  s.toReg (.lp m) (Reg.lgLpdata m) (fun d => if d.pairOp m 1 then d.lgPairWrite m v else d)

/-- LEDGER_SATURATING_ADD (R351). -/
def execLedgerSaturatingAdd (m : Fin 4) (v : Word) (s : State) : Host.Outcome State Fault Refusal :=
  s.toReg (.lp m) (Reg.lgLpdata m) (fun d => if d.pairOp m 2 then d.lgPairWrite m v else d)

/-- LEDGER_PAIR_READ (R351). -/
def execLedgerPairRead (m : Fin 4) (s : State) : Host.Outcome State Fault Refusal :=
  s.getReg (.lp m) (Reg.lgLpdata m)

/-- PFAIL (R360). -/
def execPfail (code : BitVec 12) (s : State) : Host.Outcome State Fault Refusal :=
  s.always (fun d => d.pfail code.toNat)

/-- PFAIL_N_RISE (R360). -/
def execPfailNRise (s : State) : Host.Outcome State Fault Refusal :=
  s.always (fun d => d.pfailRise)

/-- UNSEAL (R360). -/
def execUnseal (src : Src) (s : State) : Host.Outcome State Fault Refusal :=
  s.toReg src Reg.lgCtl (fun d => d.lgUnseal)

/-- LEDGER_RESTORE (R361). -/
def execLedgerRestore (slots : List SlotImage) (s : State) : Host.Outcome State Fault Refusal :=
  s.onClock (fun d => d.f1Ready slots)

/-- LG_ENABLE (R362). -/
def execLgEnable (src : Src) (s : State) : Host.Outcome State Fault Refusal :=
  s.toReg src Reg.lgCtl (fun d => d.lgEnable)

/-- LG_COMMIT (R362). -/
def execLgCommit (src : Src) (s : State) : Host.Outcome State Fault Refusal :=
  s.putReg src Reg.lgCommit 1

end Sys2Proof.Machine
end

