-- ==== Sys2Proof/Machine/CmdLink.lean ====
section
/-! DEFINITION. Commands of the Gwyn Link (R363 to R377). -/

namespace Sys2Proof.Machine

/-- GL_ENABLE (R377). -/
def execGlEnable (src : Src) (s : State) : Host.Outcome State Fault Refusal :=
  s.toReg src Reg.glCtl (fun d => d.glEnable)

/-- GL_DISABLE (R377). -/
def execGlDisable (src : Src) (s : State) : Host.Outcome State Fault Refusal :=
  s.toReg src Reg.glCtl (fun d => d.glDisable)

/-- GL_COMMIT (R377). -/
def execGlCommit (src : Src) (s : State) : Host.Outcome State Fault Refusal :=
  s.putReg src Reg.glCommit 1

/-- CLAIM_SEND (R365). -/
def execClaimSend (s : State) : Host.Outcome State Fault Refusal :=
  s.onClock (fun d => d.claimSend)

/-- CLAIM (R365). -/
def execClaim (id : BitVec 8) (s : State) : Host.Outcome State Fault Refusal :=
  s.onClock (fun d => Dev.claim d id.toNat)

/-- TRAINING_SET (R366). -/
def execTrainingSet (count : Nat) (rtt : Nat) (s : State) : Host.Outcome State Fault Refusal :=
  s.onClock (fun d => d.trainingSet count rtt)

/-- CONFIGURATION_SET (R366). -/
def execConfigurationSet (nm1 : Fin 16) (rtt : BitVec 16) (scode : BitVec 2) (s : State) : Host.Outcome State Fault Refusal :=
  s.onClock (fun d => d.configSet nm1 rtt.toNat scode.toNat)

/-- TRAINING_TIMEOUT (R366). -/
def execTrainingTimeout (s : State) : Host.Outcome State Fault Refusal :=
  s.onClock (fun d => d.trainTimeout)

/-- LINE_PACKET_SEND (R367). -/
def execLinePacketSend (s : State) : Host.Outcome State Fault Refusal :=
  s.onClock (fun d => d.packetSend)

/-- LINE_PACKET (R368). -/
def execLinePacket (pk : Packet) (s : State) : Host.Outcome State Fault Refusal :=
  s.onClock (fun d => d.linePacket pk)

/-- MESSAGE_SEND (R372). -/
def execMessageSend (src : Src) (len : BitVec 7) (s : State) : Host.Outcome State Fault Refusal :=
  s.putReg src Reg.glTxctl (len.zeroExtend 32 ||| 0x80000000)

/-- MESSAGE_POP (R372). -/
def execMessagePop (src : Src) (s : State) : Host.Outcome State Fault Refusal :=
  s.putReg src Reg.glRxctl 0x80000000

/-- RESYNC (R373). -/
def execResync (src : Src) (s : State) : Host.Outcome State Fault Refusal :=
  s.toReg src Reg.glCtl (fun d => d.glResync)

end Sys2Proof.Machine
end

