-- ==== Sys2Proof/Machine/CmdLp.lean ====
section
/-! DEFINITION. Commands of the line processors (R151 to R192). A trigger row issues a word whose one move writes the trigger port. -/

namespace Sys2Proof.Machine

/-- MOVE (R154). -/
def execMove (n : Fin 4) (s : State) : Host.Outcome State Fault Refusal :=
  s.onClock (fun d => d.lpIssue n)

/-- ALU_ADD (R174). -/
def execAluAdd (n : Fin 4) (v : Word) (s : State) : Host.Outcome State Fault Refusal :=
  s.onClock (fun d => d.lpTrigger n 34 v)

/-- ALU_SUB (R174). -/
def execAluSub (n : Fin 4) (v : Word) (s : State) : Host.Outcome State Fault Refusal :=
  s.onClock (fun d => d.lpTrigger n 35 v)

/-- ALU_AND (R174). -/
def execAluAnd (n : Fin 4) (v : Word) (s : State) : Host.Outcome State Fault Refusal :=
  s.onClock (fun d => d.lpTrigger n 36 v)

/-- ALU_OR (R174). -/
def execAluOr (n : Fin 4) (v : Word) (s : State) : Host.Outcome State Fault Refusal :=
  s.onClock (fun d => d.lpTrigger n 37 v)

/-- ALU_XOR (R174). -/
def execAluXor (n : Fin 4) (v : Word) (s : State) : Host.Outcome State Fault Refusal :=
  s.onClock (fun d => d.lpTrigger n 38 v)

/-- ALU_SHL (R175). -/
def execAluShl (n : Fin 4) (v : Word) (s : State) : Host.Outcome State Fault Refusal :=
  s.onClock (fun d => d.lpTrigger n 39 v)

/-- ALU_SHR (R175). -/
def execAluShr (n : Fin 4) (v : Word) (s : State) : Host.Outcome State Fault Refusal :=
  s.onClock (fun d => d.lpTrigger n 40 v)

/-- ALU_SAR (R175). -/
def execAluSar (n : Fin 4) (v : Word) (s : State) : Host.Outcome State Fault Refusal :=
  s.onClock (fun d => d.lpTrigger n 41 v)

/-- ALU_ROT (R174). -/
def execAluRot (n : Fin 4) (v : Word) (s : State) : Host.Outcome State Fault Refusal :=
  s.onClock (fun d => d.lpTrigger n 42 v)

/-- ALU_NEG (R176). -/
def execAluNeg (n : Fin 4) (v : Word) (s : State) : Host.Outcome State Fault Refusal :=
  s.onClock (fun d => d.lpTrigger n 43 v)

/-- ALU_MIN (R174). -/
def execAluMin (n : Fin 4) (v : Word) (s : State) : Host.Outcome State Fault Refusal :=
  s.onClock (fun d => d.lpTrigger n 44 v)

/-- ALU_MAX (R174). -/
def execAluMax (n : Fin 4) (v : Word) (s : State) : Host.Outcome State Fault Refusal :=
  s.onClock (fun d => d.lpTrigger n 45 v)

/-- ALU_ADDS (R174). -/
def execAluAdds (n : Fin 4) (v : Word) (s : State) : Host.Outcome State Fault Refusal :=
  s.onClock (fun d => d.lpTrigger n 46 v)

/-- ALU_SUBS (R174). -/
def execAluSubs (n : Fin 4) (v : Word) (s : State) : Host.Outcome State Fault Refusal :=
  s.onClock (fun d => d.lpTrigger n 47 v)

/-- MUL_U (R177). -/
def execMulU (n : Fin 4) (v : Word) (s : State) : Host.Outcome State Fault Refusal :=
  s.onClock (fun d => d.lpTrigger n 49 v)

/-- MUL_S (R177). -/
def execMulS (n : Fin 4) (v : Word) (s : State) : Host.Outcome State Fault Refusal :=
  s.onClock (fun d => d.lpTrigger n 50 v)

/-- DIV_U (R178). -/
def execDivU (n : Fin 4) (v : Word) (s : State) : Host.Outcome State Fault Refusal :=
  s.onClock (fun d => d.lpTrigger n 55 v)

/-- DIV_S (R178). -/
def execDivS (n : Fin 4) (v : Word) (s : State) : Host.Outcome State Fault Refusal :=
  s.onClock (fun d => d.lpTrigger n 56 v)

/-- CMP_T (R180). -/
def execCmpT (n : Fin 4) (v : Word) (s : State) : Host.Outcome State Fault Refusal :=
  s.onClock (fun d => d.lpTrigger n 62 v)

/-- LD_W (R182). -/
def execLdW (n : Fin 4) (v : Word) (s : State) : Host.Outcome State Fault Refusal :=
  s.onClock (fun d => d.lpTrigger n 66 v)

/-- LD_H (R182). -/
def execLdH (n : Fin 4) (v : Word) (s : State) : Host.Outcome State Fault Refusal :=
  s.onClock (fun d => d.lpTrigger n 67 v)

/-- LD_B (R182). -/
def execLdB (n : Fin 4) (v : Word) (s : State) : Host.Outcome State Fault Refusal :=
  s.onClock (fun d => d.lpTrigger n 68 v)

/-- ST_W (R182). -/
def execStW (n : Fin 4) (v : Word) (s : State) : Host.Outcome State Fault Refusal :=
  s.onClock (fun d => d.lpTrigger n 69 v)

/-- ST_H (R182). -/
def execStH (n : Fin 4) (v : Word) (s : State) : Host.Outcome State Fault Refusal :=
  s.onClock (fun d => d.lpTrigger n 70 v)

/-- ST_B (R182). -/
def execStB (n : Fin 4) (v : Word) (s : State) : Host.Outcome State Fault Refusal :=
  s.onClock (fun d => d.lpTrigger n 71 v)

/-- IO_RD (R163). -/
def execIoRd (n : Fin 4) (v : Word) (s : State) : Host.Outcome State Fault Refusal :=
  s.onClock (fun d => d.lpTrigger n 74 v)

/-- IO_WR (R163). -/
def execIoWr (n : Fin 4) (v : Word) (s : State) : Host.Outcome State Fault Refusal :=
  s.onClock (fun d => d.lpTrigger n 75 v)

/-- LOOP_REP (R186). -/
def execLoopRep (n : Fin 4) (v : Word) (s : State) : Host.Outcome State Fault Refusal :=
  s.onClock (fun d => d.lpTrigger n 81 v)

/-- BR_JMP (R184). -/
def execBrJmp (n : Fin 4) (v : Word) (s : State) : Host.Outcome State Fault Refusal :=
  s.onClock (fun d => d.lpTrigger n 82 v)

/-- BR_CALL (R184). -/
def execBrCall (n : Fin 4) (v : Word) (s : State) : Host.Outcome State Fault Refusal :=
  s.onClock (fun d => d.lpTrigger n 83 v)

/-- BR_RET (R184). -/
def execBrRet (n : Fin 4) (v : Word) (s : State) : Host.Outcome State Fault Refusal :=
  s.onClock (fun d => d.lpTrigger n 84 v)

/-- BR_DBNZ (R185). -/
def execBrDbnz (n : Fin 4) (v : Word) (s : State) : Host.Outcome State Fault Refusal :=
  s.onClock (fun d => d.lpTrigger n 85 v)

/-- CR_ADDR (R189). -/
def execCrAddr (n : Fin 4) (v : Word) (s : State) : Host.Outcome State Fault Refusal :=
  s.onClock (fun d => d.lpTrigger n 86 v)

/-- BEAM_WAITL (R162). -/
def execBeamWaitl (n : Fin 4) (v : Word) (s : State) : Host.Outcome State Fault Refusal :=
  s.onClock (fun d => d.lpTrigger n 91 v)

/-- BEAM_WAITD (R162). -/
def execBeamWaitd (n : Fin 4) (v : Word) (s : State) : Host.Outcome State Fault Refusal :=
  s.onClock (fun d => d.lpTrigger n 92 v)

/-- TQ_DATA (R164). -/
def execTqData (n : Fin 4) (v : Word) (s : State) : Host.Outcome State Fault Refusal :=
  s.onClock (fun d => d.lpTrigger n 99 v)

/-- IRQ_WAIT (R168). -/
def execIrqWait (n : Fin 4) (s : State) : Host.Outcome State Fault Refusal :=
  s.onClock (fun d => d.lpTrigger n 107 0)

/-- IRQ_RET (R167). -/
def execIrqRet (n : Fin 4) (s : State) : Host.Outcome State Fault Refusal :=
  s.onClock (fun d => d.lpTrigger n 106 0)

/-- IO_READ_COMPLETE (R163). -/
def execIoReadComplete (n : Fin 4) (s : State) : Host.Outcome State Fault Refusal :=
  s.settled (fun d => d.lpReadDone n)

/-- POSTED_WRITE_COMPLETE (R163). -/
def execPostedWriteComplete (n : Fin 4) (s : State) : Host.Outcome State Fault Refusal :=
  s.settled (fun d => d.lpWriteDone n)

/-- BEAM_WAIT_WAKE (R162). -/
def execBeamWaitWake (n : Fin 4) (s : State) : Host.Outcome State Fault Refusal :=
  s.onClock (fun d => d.lpWake n)

/-- INTERRUPT_ENTRY (R166). -/
def execInterruptEntry (n : Fin 4) (s : State) : Host.Outcome State Fault Refusal :=
  s.onClock (fun d => d.lpEntry n)

/-- LP_RUN (R171). -/
def execLpRun (src : Src) (n : Fin 4) (s : State) : Host.Outcome State Fault Refusal :=
  s.toReg src (Reg.lpCtl n) (fun d => d.lpRun n)

/-- LP_RESET (R171). -/
def execLpReset (src : Src) (n : Fin 4) (s : State) : Host.Outcome State Fault Refusal :=
  s.toReg src (Reg.lpCtl n) (fun d => d.lpReset n)

/-- LP_HALT (R172). -/
def execLpHalt (src : Src) (n : Fin 4) (s : State) : Host.Outcome State Fault Refusal :=
  s.toReg src (Reg.lpCtl n) (fun d => d.lpHalt n)

/-- LP_RESUME (R172). -/
def execLpResume (src : Src) (n : Fin 4) (s : State) : Host.Outcome State Fault Refusal :=
  s.toReg src (Reg.lpCtl n) (fun d => d.lpResume n)

/-- LP_STEP (R172). -/
def execLpStep (src : Src) (n : Fin 4) (s : State) : Host.Outcome State Fault Refusal :=
  s.toReg src (Reg.lpCtl n) (fun d => d.lpStep n)

/-- LP_FAULT_CLEAR (R173). -/
def execLpFaultClear (src : Src) (n : Fin 4) (s : State) : Host.Outcome State Fault Refusal :=
  s.toReg src (Reg.lpCtl n) (fun d => d.lpClear n)

/-- LP_PC_WRITE (R172). -/
def execLpPcWrite (src : Src) (n : Fin 4) (v : Word) (s : State) : Host.Outcome State Fault Refusal :=
  s.putReg src (Reg.lpPc n) v

/-- IMEM_WRITE (R170). -/
def execImemWrite (src : Src) (n : Fin 4) (i : Nat) (v : Word) (be : BitVec 4) (s : State) : Host.Outcome State Fault Refusal :=
  s.putWindow src (0x910000 + 0x40000 * n + 4 * i) v be

/-- DEBUG_HALT (R172). -/
def execDebugHalt (n : Fin 4) (s : State) : Host.Outcome State Fault Refusal :=
  s.byDebug (fun d => d.lpDebugHalt n)

/-- DEBUG_HALT_RELEASE (R172). -/
def execDebugHaltRelease (n : Fin 4) (s : State) : Host.Outcome State Fault Refusal :=
  s.byDebug (fun d => d.lpDebugRelease n)

end Sys2Proof.Machine
end

