-- ==== Sys2Proof/Machine/CmdMemory.lean ====
section
/-! DEFINITION. Commands of LPDDR5, the error codes and the asset store (R271 to R296). -/

namespace Sys2Proof.Machine

/-- MEM_ENABLE (R273). -/
def execMemEnable (src : Src) (s : State) : Host.Outcome State Fault Refusal :=
  s.putReg src Reg.memCtl 1

/-- MEM_READY (R273). -/
def execMemReady (fail : BitVec 4) (density : Bool) (s : State) : Host.Outcome State Fault Refusal :=
  s.settled (fun d => d.memTrained fail.toNat density)

/-- MEM_DISABLE (R296). -/
def execMemDisable (src : Src) (s : State) : Host.Outcome State Fault Refusal :=
  s.putReg src Reg.memCtl 0

/-- REFRESH (R273). -/
def execRefresh (code : BitVec 3) (s : State) : Host.Outcome State Fault Refusal :=
  s.onClock (fun d => d.refresh code.toNat)

/-- LEAK_TICK (R280). -/
def execLeakTick (s : State) : Host.Outcome State Fault Refusal :=
  s.onClock (fun d => d.leakTick)

/-- SCRUB_READ (R281). -/
def execScrubRead (sram : Bool) (s : State) : Host.Outcome State Fault Refusal :=
  s.onClock (fun d => d.scrub sram)

/-- FLIP_ARM (R284). -/
def execFlipArm (src : Src) (v : Word) (s : State) : Host.Outcome State Fault Refusal :=
  s.putReg src Reg.edcFlipSel v

/-- AS_ENABLE (R285). -/
def execAsEnable (src : Src) (badChip : Option (Fin 16)) (lunBlocks : Nat) (luns : Nat) (s : State) : Host.Outcome State Fault Refusal :=
  s.toReg src Reg.asCtl (fun d => d.asEnable (badChip.map (·.val)) lunBlocks luns)

/-- AREAD (R290). -/
def execAread (r : Fin 68) (sectors : List SectorRead) (s : State) : Host.Outcome State Fault Refusal :=
  s.settled (fun d => d.aread r sectors)

/-- AREAD_COMPLETE (R290). -/
def execAreadComplete (sectors : List SectorRead) (s : State) : Host.Outcome State Fault Refusal :=
  s.settled (fun d => d.areadFinish sectors)

/-- PATROL_READ (R293). -/
def execPatrolRead (sectors : List SectorRead) (s : State) : Host.Outcome State Fault Refusal :=
  s.onClock (fun d => d.patrol sectors)

/-- BLOCK_ERASE (R294). -/
def execBlockErase (src : Src) (lblock : BitVec 20) (s : State) : Host.Outcome State Fault Refusal :=
  s.putReg src Reg.asPcmd (BitVec.ofNat 32 (1 + lblock.toNat * 4096))

/-- PAGE_PROGRAM (R294). -/
def execPageProgram (src : Src) (lblock : BitVec 20) (page : BitVec 10) (s : State) : Host.Outcome State Fault Refusal :=
  s.putReg src Reg.asPcmd (BitVec.ofNat 32 (2 + page.toNat * 4 + lblock.toNat * 4096))

/-- PCMD_COMPLETE (R294). -/
def execPcmdComplete (ok : Bool) (s : State) : Host.Outcome State Fault Refusal :=
  s.onClock (fun d => d.pcmdEnd ok)

end Sys2Proof.Machine
end

