-- ==== Sys2Proof/Machine/CmdPins.lean ====
section
/-! DEFINITION. Commands of the pins and the cabinet I/O (R312 to R349). -/

namespace Sys2Proof.Machine

/-- FILTER_OUTPUT_CHANGE (R315). It comes from SLCK samples in HOLD and in a freeze (R324). -/
def execFilterOutputChange (k : Fin 128) (level : Bool) (s : State) : Host.Outcome State Fault Refusal :=
  s.always (fun d => d.filterChange k level)

/-- PIN_FUNCTION_CHANGE (R318). -/
def execPinFunctionChange (src : Src) (k : Fin 128) (v : Word) (s : State) : Host.Outcome State Fault Refusal :=
  s.putReg src (Reg.pinkFunc k) v

/-- GPIO_WRITE (R319). -/
def execGpioWrite (src : Src) (k : Fin 128) (v : Word) (s : State) : Host.Outcome State Fault Refusal :=
  s.putReg src (Reg.pinkGpio k) v

/-- PIN_OWNER_WRITE (R316). -/
def execPinOwnerWrite (src : Src) (pat : Bool) (k : Fin 128) (v : Word) (s : State) : Host.Outcome State Fault Refusal :=
  s.putReg src (if pat then Reg.pinPatown k else Reg.pinOwn k) v

/-- PIN_COMMIT (R325). -/
def execPinCommit (src : Src) (s : State) : Host.Outcome State Fault Refusal :=
  s.putReg src Reg.pinCommit 1

/-- ENCODER_COUNT_WRITE (R329). -/
def execEncoderCountWrite (src : Src) (e : Fin 8) (v : Word) (s : State) : Host.Outcome State Fault Refusal :=
  s.putReg src (Reg.encCnt e) v

/-- ADC_CONVERSION (R331). -/
def execAdcConversion (code : BitVec 12) (s : State) : Host.Outcome State Fault Refusal :=
  s.onClock (fun d => d.adcConvert code.toNat)

/-- PULSE_TOO_LONG (R333). -/
def execPulseTooLong (i : Fin 12) (s : State) : Host.Outcome State Fault Refusal :=
  s.onClock (fun d => d.coinTooLong i)

/-- WATCHER_TRIP (R337). -/
def execWatcherTrip (k : Fin 16) (s : State) : Host.Outcome State Fault Refusal :=
  s.onClock (fun d => d.watchTrip k)

/-- DRV_FIRE_START (R339). -/
def execDrvFireStart (src : Src) (o : Fin 64) (s : State) : Host.Outcome State Fault Refusal :=
  s.putReg src Reg.drvFire (BitVec.ofNat 32 o)

/-- DRV_FIRE_STOP (R339). -/
def execDrvFireStop (src : Src) (o : Fin 64) (s : State) : Host.Outcome State Fault Refusal :=
  s.putReg src Reg.drvFire (BitVec.ofNat 32 (o + 64))

/-- The pulse of output o has lasted PULSE ms (R341). -/
def Dev.pulseEnd (d : Dev) (o : Nat) : Dev := if d.coil o = 1 then d.coilHold o else d

/-- Output o has been on for MAXON ms (R342); 0 is no watchdog. -/
def Dev.coilWatchdog (d : Dev) (o : Nat) : Dev :=
  if d.coilOn o ∧ d.lf (Reg.drvOutLim o) 31 16 ≠ 0 then ((d.setCoil o 0).setRb (Reg.drvOutStat o) 2 true).raise 497 else d

/-- PULSE_END (R341). -/
def execPulseEnd (o : Fin 64) (s : State) : Host.Outcome State Fault Refusal :=
  s.onClock (fun d => d.pulseEnd o)

/-- COIL_WATCHDOG (R342). -/
def execCoilWatchdog (o : Fin 64) (s : State) : Host.Outcome State Fault Refusal :=
  s.onClock (fun d => d.coilWatchdog o)

/-- LED_TRANSFER_END (R344). -/
def execLedTransferEnd (k : Fin 8) (s : State) : Host.Outcome State Fault Refusal :=
  s.onClock (fun d => d.ledEnd k)

/-- UART_TRANSMIT (R345). -/
def execUartTransmit (src : Src) (u : Fin 4) (b : BitVec 8) (s : State) : Host.Outcome State Fault Refusal :=
  s.putReg src (Reg.uaData u) (b.zeroExtend 32)

/-- UART_RECEIVE (R345). -/
def execUartReceive (u : Fin 4) (b : BitVec 8) (perr : Bool) (ferr : Bool) (s : State) : Host.Outcome State Fault Refusal :=
  s.onClock (fun d => d.uaRx u b perr ferr)

/-- UART_DATA_READ (R345). -/
def execUartDataRead (src : Src) (u : Fin 4) (s : State) : Host.Outcome State Fault Refusal :=
  s.getReg src (Reg.uaData u)

/-- UART_TX_BYTE_END (R345). -/
def execUartTxByteEnd (u : Fin 4) (s : State) : Host.Outcome State Fault Refusal :=
  s.onClock (fun d => d.uaTxEnd u)

/-- SPI_COMMAND (R346). -/
def execSpiCommand (src : Src) (i : Fin 2) (v : Word) (s : State) : Host.Outcome State Fault Refusal :=
  s.putReg src (Reg.spiCmd i) (v ||| 0x80000000)

/-- SPI_COMMAND_END (R346). -/
def execSpiCommandEnd (i : Fin 2) (rx : List (BitVec 32)) (s : State) : Host.Outcome State Fault Refusal :=
  s.onClock (fun d => d.spiEnd i rx)

/-- I2C_WRITE (R347). -/
def execI2cWrite (src : Src) (i : Fin 2) (v : Word) (s : State) : Host.Outcome State Fault Refusal :=
  s.putReg src (Reg.i2cCmd i) ((v &&& 0xFFFFFF7F) ||| 0x80000000)

/-- I2C_READ (R347). -/
def execI2cRead (src : Src) (i : Fin 2) (v : Word) (s : State) : Host.Outcome State Fault Refusal :=
  s.putReg src (Reg.i2cCmd i) (v ||| 0x80000080)

/-- I2C_COMMAND_END (R347). -/
def execI2cCommandEnd (i : Fin 2) (err : I2cEnd) (rx : List (BitVec 8)) (s : State) : Host.Outcome State Fault Refusal :=
  s.onClock (fun d => d.i2cEnd i (match err with | .ok => none | .nack => some 2 | .arb => some 3) rx)

/-- CLOCK_STRETCH_TIMEOUT (R347). -/
def execClockStretchTimeout (i : Fin 2) (s : State) : Host.Outcome State Fault Refusal :=
  s.onClock (fun d => d.i2cEnd i (some 4) [])

/-- IO_ENABLE (R326). -/
def execIoEnable (src : Src) (b : Fin 8) (v : Word) (s : State) : Host.Outcome State Fault Refusal :=
  s.putReg src (Reg.ioCtl b) v

/-- IO_COMMIT (R349). -/
def execIoCommit (src : Src) (b : Fin 8) (s : State) : Host.Outcome State Fault Refusal :=
  s.putReg src (Reg.ioCommit b) 1

end Sys2Proof.Machine
end

