-- ==== Sys2Proof/Machine/CmdPorts.lean ====
section
/-! DEFINITION. Commands of scan-out, the ports and their links (R125 to R150). -/

namespace Sys2Proof.Machine

/-- SO_ENABLE (R129). -/
def execSoEnable (src : Src) (x : Fin 3) (s : State) : Host.Outcome State Fault Refusal :=
  s.toReg src (Reg.soCtl x) (fun d => d.soEnable x)

/-- PIXEL_PLL_LOCK (R129). -/
def execPixelPllLock (x : Fin 3) (s : State) : Host.Outcome State Fault Refusal :=
  s.onClock (fun d => d.pllLocked x)

/-- PIXEL_PLL_LOCK_TIMEOUT (R129). -/
def execPixelPllLockTimeout (x : Fin 3) (s : State) : Host.Outcome State Fault Refusal :=
  s.onClock (fun d => d.pllTimeout x)

/-- SO_DISABLE (R150). -/
def execSoDisable (src : Src) (x : Fin 3) (s : State) : Host.Outcome State Fault Refusal :=
  s.toReg src (Reg.soCtl x) (fun d => d.soDisable x)

/-- SO_COMMIT (R130). -/
def execSoCommit (src : Src) (x : Fin 3) (s : State) : Host.Outcome State Fault Refusal :=
  s.putReg src (Reg.soCommit x) 1

/-- PORT_LINE_START (R133). It comes during a freeze too (R439). -/
def execPortLineStart (x : Fin 3) (s : State) : Host.Outcome State Fault Refusal :=
  s.always (fun d => d.portLineAny x)

/-- HBLANK_START (R136). -/
def execHblankStart (x : Fin 3) (s : State) : Host.Outcome State Fault Refusal :=
  s.onClock (fun d => d.hblank x)

/-- LINE_MATCH (R136). -/
def execLineMatch (x : Fin 3) (k : Fin 8) (s : State) : Host.Outcome State Fault Refusal :=
  s.onClock (fun d => d.lineMatch x k)

/-- LINK_TRAIN (R143). -/
def execLinkTrain (src : Src) (x : Fin 3) (s : State) : Host.Outcome State Fault Refusal :=
  s.toReg src (Reg.soCtl x) (fun d => d.train x)

/-- LINK_TRAIN_END (R143). -/
def execLinkTrainEnd (x : Fin 3) (cause : BitVec 3) (s : State) : Host.Outcome State Fault Refusal :=
  s.onClock (fun d => d.trainEnd x cause.toNat)

/-- A word of SO_x_AUXCMD with GO (R145). -/
def auxWord (ty : Nat) (ad : BitVec 20) (len : BitVec 4) : Word :=
  BitVec.ofNat 32 (ad.toNat + len.toNat * 0x100000 + ty * 0x1000000 + 0x80000000)

/-- AUX_NATIVE_WRITE (R145). -/
def execAuxNativeWrite (src : Src) (x : Fin 3) (ad : BitVec 20) (len : BitVec 4) (s : State) : Host.Outcome State Fault Refusal :=
  s.putReg src (Reg.soAuxcmd x) (auxWord 0 ad len)

/-- AUX_NATIVE_READ (R145). -/
def execAuxNativeRead (src : Src) (x : Fin 3) (ad : BitVec 20) (len : BitVec 4) (s : State) : Host.Outcome State Fault Refusal :=
  s.putReg src (Reg.soAuxcmd x) (auxWord 1 ad len)

/-- I2C_OVER_AUX_WRITE (R145). -/
def execI2cOverAuxWrite (src : Src) (x : Fin 3) (ad : BitVec 20) (len : BitVec 4) (s : State) : Host.Outcome State Fault Refusal :=
  s.putReg src (Reg.soAuxcmd x) (auxWord 2 ad len)

/-- I2C_OVER_AUX_READ (R145). -/
def execI2cOverAuxRead (src : Src) (x : Fin 3) (ad : BitVec 20) (len : BitVec 4) (s : State) : Host.Outcome State Fault Refusal :=
  s.putReg src (Reg.soAuxcmd x) (auxWord 3 ad len)

/-- DDC_WRITE (R145). -/
def execDdcWrite (src : Src) (x : Fin 3) (ad : BitVec 20) (len : BitVec 4) (s : State) : Host.Outcome State Fault Refusal :=
  s.putReg src (Reg.soAuxcmd x) (auxWord 4 ad len)

/-- DDC_READ (R145). -/
def execDdcRead (src : Src) (x : Fin 3) (ad : BitVec 20) (len : BitVec 4) (s : State) : Host.Outcome State Fault Refusal :=
  s.putReg src (Reg.soAuxcmd x) (auxWord 5 ad len)

/-- AUX_TRANSACTION_END (R145). -/
def execAuxTransactionEnd (x : Fin 3) (err : BitVec 2) (cnt : BitVec 5) (bytes : List (BitVec 8)) (s : State) : Host.Outcome State Fault Refusal :=
  s.onClock (fun d => d.auxEnd x err.toNat cnt.toNat bytes)

/-- AUX_REPLY_TIMEOUT (R145). -/
def execAuxReplyTimeout (x : Fin 3) (s : State) : Host.Outcome State Fault Refusal :=
  s.onClock (fun d => d.auxEnd x 3 0 [])

/-- HPD_CHANGE (R146). -/
def execHpdChange (x : Fin 3) (level : Bool) (s : State) : Host.Outcome State Fault Refusal :=
  s.onClock (fun d => d.hpd x level)

/-- HPD_IRQ_PULSE (R146). -/
def execHpdIrqPulse (x : Fin 3) (s : State) : Host.Outcome State Fault Refusal :=
  s.onClock (fun d => d.hpdPulse x)

end Sys2Proof.Machine
end

