-- ==== Sys2Proof/Machine/CmdPower.lean ====
section
/-! DEFINITION. Commands of power, clocks and reset (R424 to R439). -/

namespace Sys2Proof.Machine

/-- LADDER_SLOT (R426). -/
def execLadderSlot (s : State) : Host.Outcome State Fault Refusal :=
  s.onClock (fun d => d.ladderSlot)

/-- DIM (R430). -/
def execDim (src : Src) (waketo : Bool) (s : State) : Host.Outcome State Fault Refusal :=
  s.toReg src Reg.pwrState (fun d => d.pwrRequest 1 waketo)

/-- RUN (R430). -/
def execRun (src : Src) (waketo : Bool) (s : State) : Host.Outcome State Fault Refusal :=
  s.toReg src Reg.pwrState (fun d => d.pwrRequest 0 waketo)

/-- HOLD (R430). -/
def execHold (src : Src) (waketo : Bool) (s : State) : Host.Outcome State Fault Refusal :=
  s.toReg src Reg.pwrState (fun d => d.pwrRequest 2 waketo)

/-- OFF (R430). -/
def execOff (src : Src) (waketo : Bool) (s : State) : Host.Outcome State Fault Refusal :=
  s.toReg src Reg.pwrState (fun d => d.pwrRequest 3 waketo)

/-- HOLD_ENTRY (R430). -/
def execHoldEntry (s : State) : Host.Outcome State Fault Refusal :=
  s.onClock (fun d => d.holdEntry)

/-- WAKE (R432). -/
def execWake (cause : WakeCause) (s : State) : Host.Outcome State Fault Refusal :=
  s.always (fun d => (d.wake cause).settle)

/-- CORE_EN_FALL (R430). -/
def execCoreEnFall (s : State) : Host.Outcome State Fault Refusal :=
  s.always (fun d => d.coreOff)

/-- POWER_ON_RESET (R434). -/
def execPowerOnReset (s : State) : Host.Outcome State Fault Refusal :=
  s.anyPower (fun d => d.powerOnReset)

/-- The core rails come up again after OFF (R430, R434). -/
def Dev.corePowerOn (d : Dev) : Dev := if d.power = 3 then d.coreReset 0 else d

/-- CORE_POWER_ON (R434). -/
def execCorePowerOn (s : State) : Host.Outcome State Fault Refusal :=
  s.anyPower (fun d => d.corePowerOn)

/-- SYS_RST_N (R434). -/
def execSysRstN (s : State) : Host.Outcome State Fault Refusal :=
  s.anyPower (fun d => d.coreReset 4)

/-- PERST (R434). -/
def execPerst (s : State) : Host.Outcome State Fault Refusal :=
  s.anyPower (fun d => d.perst)

/-- PLL_LOCK_LOST (R428). -/
def execPllLockLost (i : Fin 8) (relock : Bool) (s : State) : Host.Outcome State Fault Refusal :=
  s.always (fun d => d.pllLost i relock)

/-- F0_READY (R436). -/
def execF0Ready (s : State) : Host.Outcome State Fault Refusal :=
  s.onClock (fun d => d.f0Ready)

/-- TEMPERATURE_READING (R437). -/
def execTemperatureReading (temp : BitVec 12) (s : State) : Host.Outcome State Fault Refusal :=
  s.always (fun d => d.temperature temp.toNat)

/-- THERMAL_TRIP (R437). -/
def execThermalTrip (s : State) : Host.Outcome State Fault Refusal :=
  s.always (fun d => d.thermalTrip)

/-- FREEZE (R439). -/
def execFreeze (s : State) : Host.Outcome State Fault Refusal :=
  s.byDebug (fun d => d.freeze)

/-- THAW (R439). -/
def execThaw (s : State) : Host.Outcome State Fault Refusal :=
  s.always (fun d => (d.thaw).settle)

/-- RESET_RELEASE (R435). -/
def execResetRelease (straps : BitVec 4) (s : State) : Host.Outcome State Fault Refusal :=
  s.always (fun d => d.resetRelease straps.toNat)

/-- DEBUG_RESET (R438). -/
def execDebugReset (s : State) : Host.Outcome State Fault Refusal :=
  s.anyPower (fun d => d.coreReset 4)

/-- SLCK_RUNNING (R429). -/
def execSlckRunning (s : State) : Host.Outcome State Fault Refusal :=
  s.always (fun d => d.slckRuns)

end Sys2Proof.Machine
end

