-- ==== Sys2Proof/Machine/CmdProtect.lean ====
section
/-! DEFINITION. Commands of the access tables (R409 to R417). -/

namespace Sys2Proof.Machine

/-- TABLE_WRITE (R417). -/
def execTableWrite (src : Src) (a : Nat) (v : Word) (s : State) : Host.Outcome State Fault Refusal :=
  s.fromSrc src (fun d => d.access src a true (fun k d => if isTableReg k then d.busWrite (masterOf src) k v else d))

/-- CUSTODY_SET (R416). -/
def execCustodySet (src : Src) (v : Word) (s : State) : Host.Outcome State Fault Refusal :=
  s.putReg src Reg.ptCust v

/-- LOCK_SET (R416). -/
def execLockSet (src : Src) (v : Word) (s : State) : Host.Outcome State Fault Refusal :=
  s.putReg src Reg.ptLock v

/-- VIOLATION_LOG_CLEAR (R414). -/
def execViolationLogClear (src : Src) (s : State) : Host.Outcome State Fault Refusal :=
  s.putReg src Reg.ptVlog 0x4000

end Sys2Proof.Machine
end

