-- ==== Sys2Proof/Machine/CmdTime.lean ====
section
/-! DEFINITION. Commands of beam time: the master timing, genlock, the line tick, the SYS registers (R22 to R45). -/

namespace Sys2Proof.Machine

/-- SYS_BEAM_READ (R45). -/
def execSysBeamRead (src : Src) (s : State) : Host.Outcome State Fault Refusal :=
  s.getReg src Reg.sysBeamLo

/-- DET_STAT_CLEAR (R44). -/
def execDetStatClear (src : Src) (v : Word) (s : State) : Host.Outcome State Fault Refusal :=
  s.putReg src Reg.sysDetStat v

/-- SYS_COMMIT (R25). -/
def execSysCommit (src : Src) (s : State) : Host.Outcome State Fault Refusal :=
  s.putReg src Reg.sysCommit 1

/-- MASTER_FRAME_START (R26). -/
def execMasterFrameStart (take : Bool) (s : State) : Host.Outcome State Fault Refusal :=
  s.settled (fun d => d.masterFrame take)

/-- FLYWHEEL (R27). -/
def execFlywheel (s : State) : Host.Outcome State Fault Refusal :=
  s.onClock (fun d => d.flywheel)

/-- GENLOCK_LOCKED (R31). -/
def execGenlockLocked (x : Fin 3) (phase : BitVec 8) (s : State) : Host.Outcome State Fault Refusal :=
  s.onClock (fun d => d.genlockOn x phase.toNat)

/-- GENLOCK_LOST (R31). -/
def execGenlockLost (x : Fin 3) (s : State) : Host.Outcome State Fault Refusal :=
  s.onClock (fun d => d.genlockOff x)

/-- LINE_START (R13). -/
def execLineStart (s : State) : Host.Outcome State Fault Refusal :=
  s.onClock (fun d => d.lineStart)

/-- LINE_TICK (R28). -/
def execLineTick (s : State) : Host.Outcome State Fault Refusal :=
  s.onClock (fun d => d.lineTick)

/-- LATCH_POINT (R34). -/
def execLatchPoint (p : Fin 2) (late : List LateFetch) (s : State) : Host.Outcome State Fault Refusal :=
  s.settled (fun d => d.latchPoint p late)

/-- TIMED_WRITE_ENTRY (R36). -/
def execTimedWriteEntry (p : Fin 2) (e : TimedWrite) (s : State) : Host.Outcome State Fault Refusal :=
  s.onClock (fun d => (d.twqEnter p e).1)

/-- TWQ_STALL_RELEASE (R35). -/
def execTwqStallRelease (p : Fin 2) (s : State) : Host.Outcome State Fault Refusal :=
  s.onClock (fun d => d.twqRelease p)

end Sys2Proof.Machine
end

