-- ==== Sys2Proof/Machine/CmdTimers.lean ====
section
/-! DEFINITION. Commands of the timers (R378 to R394). -/

namespace Sys2Proof.Machine

/-- TMR_GO (R381). -/
def execTmrGo (src : Src) (v : Word) (s : State) : Host.Outcome State Fault Refusal :=
  s.putReg src Reg.tmrGo v

/-- TMR_HALT (R381). -/
def execTmrHalt (src : Src) (v : Word) (s : State) : Host.Outcome State Fault Refusal :=
  s.putReg src Reg.tmrHalt v

/-- COUNT_LOAD (R379). -/
def execCountLoad (src : Src) (t : Fin 16) (v : Word) (s : State) : Host.Outcome State Fault Refusal :=
  s.putReg src (Reg.tmrCntLo t) v

/-- COUNT_READ (R380). -/
def execCountRead (src : Src) (t : Fin 16) (s : State) : Host.Outcome State Fault Refusal :=
  s.getReg src (Reg.tmrCntLo t)

/-- What the next edge adds to a running count (R378, R392). -/
def Dev.edgeStep (d : Dev) : Nat := if !d.slow then 1 else if 31 ≤ d.io.acc then 3052 else 3051

/-- The next edge carries timer n's running count past 2^48 - 1 (R378). -/
def Dev.countWrap (d : Dev) (n : Nat) : Dev :=
  if d.tmrOn n ∧ d.counting ∧ cntMod ≤ (d.tmr n).cnt + d.edgeStep then d.tmrAdvance n d.edgeStep else d

/-- Compare k of timer n matches, when a match is due (R383, R385). -/
def Dev.compareMatch (d : Dev) (n k : Nat) : Dev := if d.cmpDue n k then (d.cmpMatch n k).tmrPads else d

/-- COUNT_WRAP (R378). -/
def execCountWrap (t : Fin 16) (s : State) : Host.Outcome State Fault Refusal :=
  s.always (fun d => d.countWrap t)

/-- COMPARE_ARM (R383). -/
def execCompareArm (src : Src) (t : Fin 16) (k : Fin 4) (v : Word) (s : State) : Host.Outcome State Fault Refusal :=
  s.putReg src (Reg.tmrCmpLo t k) v

/-- COMPARE_MATCH (R385). -/
def execCompareMatch (t : Fin 16) (k : Fin 4) (s : State) : Host.Outcome State Fault Refusal :=
  s.always (fun d => d.compareMatch t k)

/-- COMPARE_DISARM (R383). -/
def execCompareDisarm (src : Src) (t : Fin 16) (k : Fin 4) (s : State) : Host.Outcome State Fault Refusal :=
  s.toReg src (Reg.tmrCmpCfg t k) (fun d =>
    d.ownerWrite (masterOf src) (48 + t) 26 (Reg.tmrCmpCfg t k - 0x1500000) (fun d => d.cmpDisarm t k))

/-- CAPTURE_PAIR_READ (R389). -/
def execCapturePairRead (src : Src) (t : Fin 16) (s : State) : Host.Outcome State Fault Refusal :=
  s.getReg src (Reg.tmrCaprLo t)

end Sys2Proof.Machine
end

