-- ==== Sys2Proof/Machine/Dispatch.lean ====
section
/-! DEFINITION. One arm per row of the table: the command, and the one meaning it calls. -/

namespace Sys2Proof.Machine

open Sys2Proof

def exec (i : Instr) (s : State) : Host.Outcome State Fault Refusal :=
  match i with
  | .registerWrite src a v be => Sys2Proof.Machine.execRegisterWrite src a v be s
  | .fabricStallRelease m => Sys2Proof.Machine.execFabricStallRelease m s
  | .barRead f bar a => Sys2Proof.Machine.execBarRead f bar a s
  | .msixUnmask f vec => Sys2Proof.Machine.execMsixUnmask f vec s
  | .sysBeamRead src => Sys2Proof.Machine.execSysBeamRead src s
  | .detStatClear src v => Sys2Proof.Machine.execDetStatClear src v s
  | .sysCommit src => Sys2Proof.Machine.execSysCommit src s
  | .masterFrameStart take => Sys2Proof.Machine.execMasterFrameStart take s
  | .flywheel => Sys2Proof.Machine.execFlywheel s
  | .genlockLocked x phase => Sys2Proof.Machine.execGenlockLocked x phase s
  | .genlockLost x => Sys2Proof.Machine.execGenlockLost x s
  | .lineStart => Sys2Proof.Machine.execLineStart s
  | .lineTick => Sys2Proof.Machine.execLineTick s
  | .latchPoint p late => Sys2Proof.Machine.execLatchPoint p late s
  | .fetchArrival p ix => Sys2Proof.Machine.execFetchArrival p ix s
  | .lineTableFetchDone p k col => Sys2Proof.Machine.execLineTableFetchDone p k col s
  | .rowWrite p => Sys2Proof.Machine.execRowWrite p s
  | .timedWriteEntry p e => Sys2Proof.Machine.execTimedWriteEntry p e s
  | .twqStallRelease p => Sys2Proof.Machine.execTwqStallRelease p s
  | .scene r => Sys2Proof.Machine.execScene r s
  | .env r => Sys2Proof.Machine.execEnv r s
  | .upd r => Sys2Proof.Machine.execUpd r s
  | .nop r => Sys2Proof.Machine.execNop r s
  | .timingCostEvaluation x => Sys2Proof.Machine.execTimingCostEvaluation x s
  | .hgEnable src p => Sys2Proof.Machine.execHgEnable src p s
  | .hgDisable src p => Sys2Proof.Machine.execHgDisable src p s
  | .tpEnable src p => Sys2Proof.Machine.execTpEnable src p s
  | .tpDisable src p => Sys2Proof.Machine.execTpDisable src p s
  | .tpCommit src p => Sys2Proof.Machine.execTpCommit src p s
  | .mapWindowWrite src ix v be => Sys2Proof.Machine.execMapWindowWrite src ix v be s
  | .mapPairWrite m v => Sys2Proof.Machine.execMapPairWrite m v s
  | .mapPairRead m => Sys2Proof.Machine.execMapPairRead m s
  | .listPoint p => Sys2Proof.Machine.execListPoint p s
  | .spriteWindowWrite src ix v be => Sys2Proof.Machine.execSpriteWindowWrite src ix v be s
  | .spEnable src p => Sys2Proof.Machine.execSpEnable src p s
  | .spDisable src p => Sys2Proof.Machine.execSpDisable src p s
  | .spCommit src p => Sys2Proof.Machine.execSpCommit src p s
  | .cmpEnable src p => Sys2Proof.Machine.execCmpEnable src p s
  | .cmpDisable src p => Sys2Proof.Machine.execCmpDisable src p s
  | .cmpCommit src p => Sys2Proof.Machine.execCmpCommit src p s
  | .layerBlendWrite src p k v => Sys2Proof.Machine.execLayerBlendWrite src p k v s
  | .soEnable src x => Sys2Proof.Machine.execSoEnable src x s
  | .pixelPllLock x => Sys2Proof.Machine.execPixelPllLock x s
  | .pixelPllLockTimeout x => Sys2Proof.Machine.execPixelPllLockTimeout x s
  | .soDisable src x => Sys2Proof.Machine.execSoDisable src x s
  | .soCommit src x => Sys2Proof.Machine.execSoCommit src x s
  | .portLineStart x => Sys2Proof.Machine.execPortLineStart x s
  | .hblankStart x => Sys2Proof.Machine.execHblankStart x s
  | .lineMatch x k => Sys2Proof.Machine.execLineMatch x k s
  | .linkTrain src x => Sys2Proof.Machine.execLinkTrain src x s
  | .linkTrainEnd x cause => Sys2Proof.Machine.execLinkTrainEnd x cause s
  | .auxNativeWrite src x ad len => Sys2Proof.Machine.execAuxNativeWrite src x ad len s
  | .auxNativeRead src x ad len => Sys2Proof.Machine.execAuxNativeRead src x ad len s
  | .i2cOverAuxWrite src x ad len => Sys2Proof.Machine.execI2cOverAuxWrite src x ad len s
  | .i2cOverAuxRead src x ad len => Sys2Proof.Machine.execI2cOverAuxRead src x ad len s
  | .ddcWrite src x ad len => Sys2Proof.Machine.execDdcWrite src x ad len s
  | .ddcRead src x ad len => Sys2Proof.Machine.execDdcRead src x ad len s
  | .auxTransactionEnd x err cnt bytes => Sys2Proof.Machine.execAuxTransactionEnd x err cnt bytes s
  | .auxReplyTimeout x => Sys2Proof.Machine.execAuxReplyTimeout x s
  | .hpdChange x level => Sys2Proof.Machine.execHpdChange x level s
  | .hpdIrqPulse x => Sys2Proof.Machine.execHpdIrqPulse x s
  | .move n => Sys2Proof.Machine.execMove n s
  | .aluAdd n v => Sys2Proof.Machine.execAluAdd n v s
  | .aluSub n v => Sys2Proof.Machine.execAluSub n v s
  | .aluAnd n v => Sys2Proof.Machine.execAluAnd n v s
  | .aluOr n v => Sys2Proof.Machine.execAluOr n v s
  | .aluXor n v => Sys2Proof.Machine.execAluXor n v s
  | .aluShl n v => Sys2Proof.Machine.execAluShl n v s
  | .aluShr n v => Sys2Proof.Machine.execAluShr n v s
  | .aluSar n v => Sys2Proof.Machine.execAluSar n v s
  | .aluRot n v => Sys2Proof.Machine.execAluRot n v s
  | .aluNeg n v => Sys2Proof.Machine.execAluNeg n v s
  | .aluMin n v => Sys2Proof.Machine.execAluMin n v s
  | .aluMax n v => Sys2Proof.Machine.execAluMax n v s
  | .aluAdds n v => Sys2Proof.Machine.execAluAdds n v s
  | .aluSubs n v => Sys2Proof.Machine.execAluSubs n v s
  | .mulU n v => Sys2Proof.Machine.execMulU n v s
  | .mulS n v => Sys2Proof.Machine.execMulS n v s
  | .divU n v => Sys2Proof.Machine.execDivU n v s
  | .divS n v => Sys2Proof.Machine.execDivS n v s
  | .cmpT n v => Sys2Proof.Machine.execCmpT n v s
  | .ldW n v => Sys2Proof.Machine.execLdW n v s
  | .ldH n v => Sys2Proof.Machine.execLdH n v s
  | .ldB n v => Sys2Proof.Machine.execLdB n v s
  | .stW n v => Sys2Proof.Machine.execStW n v s
  | .stH n v => Sys2Proof.Machine.execStH n v s
  | .stB n v => Sys2Proof.Machine.execStB n v s
  | .ioRd n v => Sys2Proof.Machine.execIoRd n v s
  | .ioWr n v => Sys2Proof.Machine.execIoWr n v s
  | .ioReadComplete n => Sys2Proof.Machine.execIoReadComplete n s
  | .postedWriteComplete n => Sys2Proof.Machine.execPostedWriteComplete n s
  | .loopRep n v => Sys2Proof.Machine.execLoopRep n v s
  | .brJmp n v => Sys2Proof.Machine.execBrJmp n v s
  | .brCall n v => Sys2Proof.Machine.execBrCall n v s
  | .brRet n v => Sys2Proof.Machine.execBrRet n v s
  | .brDbnz n v => Sys2Proof.Machine.execBrDbnz n v s
  | .crAddr n v => Sys2Proof.Machine.execCrAddr n v s
  | .beamWaitl n v => Sys2Proof.Machine.execBeamWaitl n v s
  | .beamWaitd n v => Sys2Proof.Machine.execBeamWaitd n v s
  | .beamWaitWake n => Sys2Proof.Machine.execBeamWaitWake n s
  | .tqData n v => Sys2Proof.Machine.execTqData n v s
  | .irqWait n => Sys2Proof.Machine.execIrqWait n s
  | .irqRet n => Sys2Proof.Machine.execIrqRet n s
  | .interruptEntry n => Sys2Proof.Machine.execInterruptEntry n s
  | .lpRun src n => Sys2Proof.Machine.execLpRun src n s
  | .lpReset src n => Sys2Proof.Machine.execLpReset src n s
  | .lpHalt src n => Sys2Proof.Machine.execLpHalt src n s
  | .lpResume src n => Sys2Proof.Machine.execLpResume src n s
  | .lpStep src n => Sys2Proof.Machine.execLpStep src n s
  | .lpFaultClear src n => Sys2Proof.Machine.execLpFaultClear src n s
  | .lpPcWrite src n v => Sys2Proof.Machine.execLpPcWrite src n v s
  | .imemWrite src n ix v be => Sys2Proof.Machine.execImemWrite src n ix v be s
  | .debugHalt n => Sys2Proof.Machine.execDebugHalt n s
  | .blitCopy q segs => Sys2Proof.Machine.execBlitCopy q segs s
  | .blitFill q segs => Sys2Proof.Machine.execBlitFill q segs s
  | .blitColourKeyCopy q segs => Sys2Proof.Machine.execBlitColourKeyCopy q segs s
  | .blitGlyphExpansion q segs => Sys2Proof.Machine.execBlitGlyphExpansion q segs s
  | .blitComplete => Sys2Proof.Machine.execBlitComplete s
  | .blEnable src => Sys2Proof.Machine.execBlEnable src s
  | .blDisable src => Sys2Proof.Machine.execBlDisable src s
  | .blCommit src => Sys2Proof.Machine.execBlCommit src s
  | .sampleTick lateVoices lateTaps => Sys2Proof.Machine.execSampleTick lateVoices lateTaps s
  | .vstart => Sys2Proof.Machine.execVstart s
  | .vset => Sys2Proof.Machine.execVset s
  | .vstop => Sys2Proof.Machine.execVstop s
  | .gset => Sys2Proof.Machine.execGset s
  | .bqset => Sys2Proof.Machine.execBqset s
  | .pload r => Sys2Proof.Machine.execPload r s
  | .pageLoadComplete => Sys2Proof.Machine.execPageLoadComplete s
  | .pswap => Sys2Proof.Machine.execPswap s
  | .serialInputFrame m slots => Sys2Proof.Machine.execSerialInputFrame m slots s
  | .mclkLost => Sys2Proof.Machine.execMclkLost s
  | .mclkRestored => Sys2Proof.Machine.execMclkRestored s
  | .auEnable src mclkHz => Sys2Proof.Machine.execAuEnable src mclkHz s
  | .auDisable src => Sys2Proof.Machine.execAuDisable src s
  | .auCommit src => Sys2Proof.Machine.execAuCommit src s
  | .mxEnable src => Sys2Proof.Machine.execMxEnable src s
  | .mxDisable src => Sys2Proof.Machine.execMxDisable src s
  | .delayLineWrite src line len v => Sys2Proof.Machine.execDelayLineWrite src line len v s
  | .doorbellPoll => Sys2Proof.Machine.execDoorbellPoll s
  | .doorbellReadComplete f words => Sys2Proof.Machine.execDoorbellReadComplete f words s
  | .descriptorArrival r w => Sys2Proof.Machine.execDescriptorArrival r w s
  | .deadlineRelease r => Sys2Proof.Machine.execDeadlineRelease r s
  | .completionWrite r => Sys2Proof.Machine.execCompletionWrite r s
  | .mbox r => Sys2Proof.Machine.execMbox r s
  | .hostReadTimeout which => Sys2Proof.Machine.execHostReadTimeout which s
  | .stallTimeout which => Sys2Proof.Machine.execStallTimeout which s
  | .pcieLinkDown => Sys2Proof.Machine.execPcieLinkDown s
  | .hiEnable src => Sys2Proof.Machine.execHiEnable src s
  | .hiCommit src => Sys2Proof.Machine.execHiCommit src s
  | .ringEnable src r => Sys2Proof.Machine.execRingEnable src r s
  | .ringDisable src r => Sys2Proof.Machine.execRingDisable src r s
  | .memEnable src => Sys2Proof.Machine.execMemEnable src s
  | .memReady fail density => Sys2Proof.Machine.execMemReady fail density s
  | .memDisable src => Sys2Proof.Machine.execMemDisable src s
  | .refresh code => Sys2Proof.Machine.execRefresh code s
  | .leakTick => Sys2Proof.Machine.execLeakTick s
  | .scrubRead sram => Sys2Proof.Machine.execScrubRead sram s
  | .flipArm src v => Sys2Proof.Machine.execFlipArm src v s
  | .asEnable src badChip lunBlocks luns => Sys2Proof.Machine.execAsEnable src badChip lunBlocks luns s
  | .aread r sectors => Sys2Proof.Machine.execAread r sectors s
  | .areadComplete sectors => Sys2Proof.Machine.execAreadComplete sectors s
  | .patrolRead sectors => Sys2Proof.Machine.execPatrolRead sectors s
  | .blockErase src lblock => Sys2Proof.Machine.execBlockErase src lblock s
  | .pageProgram src lblock page => Sys2Proof.Machine.execPageProgram src lblock page s
  | .pcmdComplete ok => Sys2Proof.Machine.execPcmdComplete ok s
  | .copy r upTo host => Sys2Proof.Machine.execCopy r upTo host s
  | .fill r upTo host => Sys2Proof.Machine.execFill r upTo host s
  | .compare r upTo host => Sys2Proof.Machine.execCompare r upTo host s
  | .flumeDescriptorComplete ch host => Sys2Proof.Machine.execFlumeDescriptorComplete ch host s
  | .busError e => Sys2Proof.Machine.execBusError e s
  | .channelStop src ch => Sys2Proof.Machine.execChannelStop src ch s
  | .channelRun src ch => Sys2Proof.Machine.execChannelRun src ch s
  | .resume src => Sys2Proof.Machine.execResume src s
  | .fmEnable src => Sys2Proof.Machine.execFmEnable src s
  | .fmDisable src => Sys2Proof.Machine.execFmDisable src s
  | .fmCommit src => Sys2Proof.Machine.execFmCommit src s
  | .filterOutputChange k level => Sys2Proof.Machine.execFilterOutputChange k level s
  | .pinFunctionChange src k v => Sys2Proof.Machine.execPinFunctionChange src k v s
  | .gpioWrite src k v => Sys2Proof.Machine.execGpioWrite src k v s
  | .pinOwnerWrite src pat k v => Sys2Proof.Machine.execPinOwnerWrite src pat k v s
  | .pinCommit src => Sys2Proof.Machine.execPinCommit src s
  | .encoderCountWrite src e v => Sys2Proof.Machine.execEncoderCountWrite src e v s
  | .adcConversion code => Sys2Proof.Machine.execAdcConversion code s
  | .pulseTooLong ix => Sys2Proof.Machine.execPulseTooLong ix s
  | .watcherTrip k => Sys2Proof.Machine.execWatcherTrip k s
  | .drvFireStart src o => Sys2Proof.Machine.execDrvFireStart src o s
  | .drvFireStop src o => Sys2Proof.Machine.execDrvFireStop src o s
  | .pulseEnd o => Sys2Proof.Machine.execPulseEnd o s
  | .coilWatchdog o => Sys2Proof.Machine.execCoilWatchdog o s
  | .ledTransferEnd k => Sys2Proof.Machine.execLedTransferEnd k s
  | .uartTransmit src u b => Sys2Proof.Machine.execUartTransmit src u b s
  | .uartReceive u b perr ferr => Sys2Proof.Machine.execUartReceive u b perr ferr s
  | .uartDataRead src u => Sys2Proof.Machine.execUartDataRead src u s
  | .spiCommand src ix v => Sys2Proof.Machine.execSpiCommand src ix v s
  | .spiCommandEnd ix rx => Sys2Proof.Machine.execSpiCommandEnd ix rx s
  | .i2cWrite src ix v => Sys2Proof.Machine.execI2cWrite src ix v s
  | .i2cRead src ix v => Sys2Proof.Machine.execI2cRead src ix v s
  | .i2cCommandEnd ix err rx => Sys2Proof.Machine.execI2cCommandEnd ix err rx s
  | .clockStretchTimeout ix => Sys2Proof.Machine.execClockStretchTimeout ix s
  | .ioEnable src b v => Sys2Proof.Machine.execIoEnable src b v s
  | .ioCommit src b => Sys2Proof.Machine.execIoCommit src b s
  | .commit r code => Sys2Proof.Machine.execCommit r code s
  | .hcheck r code => Sys2Proof.Machine.execHcheck r code s
  | .ledgerCommitComplete code => Sys2Proof.Machine.execLedgerCommitComplete code s
  | .commitTimeout code => Sys2Proof.Machine.execCommitTimeout code s
  | .ledgerQueueStallRelease => Sys2Proof.Machine.execLedgerQueueStallRelease s
  | .ledgerStore m v => Sys2Proof.Machine.execLedgerStore m v s
  | .ledgerAdd m v => Sys2Proof.Machine.execLedgerAdd m v s
  | .ledgerSaturatingAdd m v => Sys2Proof.Machine.execLedgerSaturatingAdd m v s
  | .ledgerPairRead m => Sys2Proof.Machine.execLedgerPairRead m s
  | .pfail code => Sys2Proof.Machine.execPfail code s
  | .unseal src => Sys2Proof.Machine.execUnseal src s
  | .ledgerRestore slots => Sys2Proof.Machine.execLedgerRestore slots s
  | .lgEnable src => Sys2Proof.Machine.execLgEnable src s
  | .lgCommit src => Sys2Proof.Machine.execLgCommit src s
  | .glEnable src => Sys2Proof.Machine.execGlEnable src s
  | .glDisable src => Sys2Proof.Machine.execGlDisable src s
  | .glCommit src => Sys2Proof.Machine.execGlCommit src s
  | .claimSend => Sys2Proof.Machine.execClaimSend s
  | .claim id => Sys2Proof.Machine.execClaim id s
  | .trainingSet count rtt => Sys2Proof.Machine.execTrainingSet count rtt s
  | .configurationSet nm1 rtt scode => Sys2Proof.Machine.execConfigurationSet nm1 rtt scode s
  | .trainingTimeout => Sys2Proof.Machine.execTrainingTimeout s
  | .linePacketSend => Sys2Proof.Machine.execLinePacketSend s
  | .linePacket pk => Sys2Proof.Machine.execLinePacket pk s
  | .messageSend src len => Sys2Proof.Machine.execMessageSend src len s
  | .messagePop src => Sys2Proof.Machine.execMessagePop src s
  | .resync src => Sys2Proof.Machine.execResync src s
  | .tmrGo src v => Sys2Proof.Machine.execTmrGo src v s
  | .tmrHalt src v => Sys2Proof.Machine.execTmrHalt src v s
  | .countLoad src t v => Sys2Proof.Machine.execCountLoad src t v s
  | .countRead src t => Sys2Proof.Machine.execCountRead src t s
  | .countWrap t => Sys2Proof.Machine.execCountWrap t s
  | .compareArm src t k v => Sys2Proof.Machine.execCompareArm src t k v s
  | .compareMatch t k => Sys2Proof.Machine.execCompareMatch t k s
  | .compareDisarm src t k => Sys2Proof.Machine.execCompareDisarm src t k s
  | .capturePairRead src t => Sys2Proof.Machine.execCapturePairRead src t s
  | .weirTimeout w => Sys2Proof.Machine.execWeirTimeout w s
  | .weirBypass tgt => Sys2Proof.Machine.execWeirBypass tgt s
  | .eventEntryWrite f => Sys2Proof.Machine.execEventEntryWrite f s
  | .sourceWrite src e v => Sys2Proof.Machine.execSourceWrite src e v s
  | .icCommit src => Sys2Proof.Machine.execIcCommit src s
  | .tableWrite src a v => Sys2Proof.Machine.execTableWrite src a v s
  | .custodySet src v => Sys2Proof.Machine.execCustodySet src v s
  | .lockSet src v => Sys2Proof.Machine.execLockSet src v s
  | .violationLogClear src => Sys2Proof.Machine.execViolationLogClear src s
  | .ladderSlot => Sys2Proof.Machine.execLadderSlot s
  | .dim src waketo => Sys2Proof.Machine.execDim src waketo s
  | .run src waketo => Sys2Proof.Machine.execRun src waketo s
  | .hold src waketo => Sys2Proof.Machine.execHold src waketo s
  | .holdEntry => Sys2Proof.Machine.execHoldEntry s
  | .wake cause => Sys2Proof.Machine.execWake cause s
  | .off src waketo => Sys2Proof.Machine.execOff src waketo s
  | .coreEnFall => Sys2Proof.Machine.execCoreEnFall s
  | .powerOnReset => Sys2Proof.Machine.execPowerOnReset s
  | .corePowerOn => Sys2Proof.Machine.execCorePowerOn s
  | .sysRstN => Sys2Proof.Machine.execSysRstN s
  | .perst => Sys2Proof.Machine.execPerst s
  | .pllLockLost ix relock => Sys2Proof.Machine.execPllLockLost ix relock s
  | .f0Ready => Sys2Proof.Machine.execF0Ready s
  | .temperatureReading temp => Sys2Proof.Machine.execTemperatureReading temp s
  | .thermalTrip => Sys2Proof.Machine.execThermalTrip s
  | .freeze => Sys2Proof.Machine.execFreeze s
  | .thaw => Sys2Proof.Machine.execThaw s
  | .debugAccess wr sp a v => Sys2Proof.Machine.execDebugAccess wr sp a v s
  | .audioPllLockTimeout => Sys2Proof.Machine.execAudioPllLockTimeout s
  | .pcieLinkUp => Sys2Proof.Machine.execPcieLinkUp s
  | .configurationRequest f bme => Sys2Proof.Machine.execConfigurationRequest f bme s
  | .barWrite f bar a v be => Sys2Proof.Machine.execBarWrite f bar a v be s
  | .fabricTimeout who => Sys2Proof.Machine.execFabricTimeout who s
  | .resetRelease straps => Sys2Proof.Machine.execResetRelease straps s
  | .debugHaltRelease n => Sys2Proof.Machine.execDebugHaltRelease n s
  | .debugReset => Sys2Proof.Machine.execDebugReset s
  | .commitFlashFailure code => Sys2Proof.Machine.execCommitFlashFailure code s
  | .pfailNRise => Sys2Proof.Machine.execPfailNRise s
  | .slckRunning => Sys2Proof.Machine.execSlckRunning s
  | .uartTxByteEnd u => Sys2Proof.Machine.execUartTxByteEnd u s

end Sys2Proof.Machine
end

