-- ==== Sys2Proof/Machine/Step.lean ====
section
/-! DEFINITION. One step: the command at the front of the queue has its effect; on an empty queue one clock edge passes. -/

namespace Sys2Proof.Machine

open Sys2Proof

/-- The command at the front of the queue, on the state with the queue's rest. An empty queue lets one TCLK edge pass, in HOLD and
in a freeze one SLCK edge (R22, R392, log entry 2). -/
def step (s : State) : Host.Outcome State Fault Refusal :=
  match s.pending with
  | [] => .next { s with dev := s.dev.tick }
  | c :: rest => exec c { s with pending := rest }

/-- The state with the command that a word spells at the front of its queue: unchanged where the word spells none (log entry 1). -/
def State.withFetchWord (s : State) (nbits w : Nat) : State :=
  match decodeTableWord nbits w with
  | some c => { s with pending := c :: s.pending }
  | none => s

end Sys2Proof.Machine
end

