-- ==== Sys2Proof/Safety.lean ====
section
/-! DEFINITION. What counts as a safe run, in the terms claims use: the memories and tables keep their one canonical form, a step
ends in a next state, and what a device keeps while a command runs. -/

namespace Sys2Proof.Machine

open Sys2Proof

/-- The memories' canonical form: addresses strictly rising, no entry equal to what an unlisted byte reads as. -/
abbrev Memory.wf (m : Tab Byte) : Prop := Tab.wf (fun _ => (0 : Byte)) m = true

/-- The canonical form of the tables that the memories, their code words' syndromes and the registers stand in. -/
structure Dev.Canonical (d : Dev) : Prop where
  mem  : Memory.wf d.mem
  syn  : Tab.wf (fun _ => (0 : BitVec 8)) d.syn = true
  regs : Tab.wf resetWord d.regs = true
  live : Tab.wf resetWord d.live = true
  scan : Tab.wf resetWord d.scan = true

/-- A step or a command completes: it neither faults nor is refused. -/
def Completes (o : Host.Outcome State Fault Refusal) : Prop := ∃ t, o = .next t

/-- k steps, each of which completes, lead from s to t. -/
def Runs : Nat → State → State → Prop
  | 0, s, t => s = t
  | k + 1, s, t => ∃ u, step s = .next u ∧ Runs k u t

/-- Every byte of memory reads the same in both devices, whichever master asks and whatever memory it lies in. -/
def SameMemory (d e : Dev) : Prop := ∀ id off, e.peek id off = d.peek id off

/-- Every register word outside the list is the same in both devices. -/
def SameRegs (ks : List Nat) (d e : Dev) : Prop := ∀ k, k ∉ ks → e.reg k = d.reg k

/-! ### What a command does, as the obligations say it -/

/-- Command c has effect e on the device and leaves the queue as it stands. -/
def Acts (c : Instr) (s : State) (e : Dev) : Prop := exec c s = .next { s with dev := e }

/-- Command c has effect e, and then the host interface passes what it may now pass (R249, R258). -/
def Settles (c : Instr) (s : State) (e : Dev) : Prop := exec c s = .next { s with dev := e.settle }

/-- An issuer's write to the register of key k is carried out: its clock runs, and the target's table and the fixed rules admit it
(R11, R410, R411). -/
abbrev WriteOk (s : State) (src : Src) (k : Nat) : Prop :=
  s.dev.serves src = true ∧ s.dev.admits (masterOf src) (keyPlace src k) true = true

/-- An issuer's read of the register of key k is carried out. -/
abbrev ReadOk (s : State) (src : Src) (k : Nat) : Prop :=
  s.dev.serves src = true ∧ s.dev.admits (masterOf src) (keyPlace src k) false = true

/-- Command c is a write by src with effect e: a write by the debug port is recorded too (R43). -/
def Writes (c : Instr) (s : State) (src : Src) (e : Dev) : Prop :=
  exec c s = .next { s with dev := (if src = .debug then e.setDet 5 else e).settle }

/-- Command c is a read by src that returns v, with effect e. -/
def Reads (c : Instr) (s : State) (src : Src) (v : Word) (e : Dev) : Prop :=
  exec c s = .next { s with dev := (e.deliver src v).settle }

/-- Line processor n may issue a word and repeats none: its clock runs, it is in RUN with its start granted, and nothing stalls it
(R151, R153, R169). -/
abbrev Issues (s : State) (n : Fin 4) : Prop :=
  s.dev.clocked = true ∧ s.dev.lpReady n = true ∧ (s.dev.lp n).rep = none

/-- Between d and e line processor n issued one word that neither branched nor waited: it goes on at the next word with its predicates,
its contexts and its I/O accesses as they were, its ports changed in none but those named, and the other line processors, the
memories, the pipes' queues and what the interfaces carry unchanged. -/
def Issued (d e : Dev) (n : Fin 4) (ports : List Nat) : Prop :=
  (e.lp n).pc = ((d.lp n).pc + 1) % 8192 ∧ (e.lp n).rep = none ∧ (e.lp n).preds = (d.lp n).preds ∧
  (e.lp n).stack = (d.lp n).stack ∧ (e.lp n).io = (d.lp n).io ∧ (e.lp n).wait = .none ∧
  (∀ p, p ∉ ports → (e.lp n).get p = (d.lp n).get p) ∧ (∀ m, m ≠ n.val → e.lp m = d.lp m) ∧
  e.mem = d.mem ∧ e.syn = d.syn ∧ e.twq = d.twq ∧ e.sent = d.sent

/-- The commands that are resets, or raise the core's rails. -/
def isReset : Instr → Bool
  | .powerOnReset | .corePowerOn | .sysRstN | .perst | .debugReset => true
  | _ => false

end Sys2Proof.Machine
end

