-- ==== Sys2Proof/Certificates/Slice0/Obligations.lean ====
section
/-! DEFINITION. The obligations: what the block's commands do, family by family, as the spec's rules say it. -/

open Sys2Proof Sys2Proof.Machine

/-! ### The block as a whole (00, 01) -/

/-- A step takes the command at the front of the queue and runs it with the queue's rest; on an empty queue it is one TCLK edge (log entry
2). -/
def Obligations.StepRunsFront : Prop :=
  (∀ (d : Dev) (c : Instr) (rest : List Instr), step ⟨d, c :: rest⟩ = exec c ⟨d, rest⟩) ∧
  (∀ d : Dev, step ⟨d, []⟩ = .next ⟨d.tick, []⟩)

/-- Every command completes in every state and leaves the queue as it stands, so a queue of n commands is empty after n steps. R430, R432,
Table — Power states: in OFF no command but a reset has any effect. -/
def Obligations.CommandsComplete : Prop :=
  ((∀ (c : Instr) (s : State), ∃ e, Acts c s e) ∧ (∀ s : State, ∃ t, Runs s.pending.length s t ∧ t.pending = [])) ∧
  (∀ (s : State) (c : Instr), s.dev.power = 3 → isReset c = false → exec c s = .next s)

/-- R7, R8, R426: whatever a step does, a memory, its syndromes and the tables of registers keep their one canonical form, so that equal
contents are equal data, and the starts granted in a slot of the ladder never weigh more than 1.5 A. -/
def Obligations.StepsKeepInvariant : Prop :=
  ∀ s t : State, s.dev.Canonical → s.dev.ladder.used ≤ 15 → step s = .next t → t.dev.Canonical ∧ t.dev.ladder.used ≤ 15

/-- R2, R66, R87, R121, R169, R353, R398: what the reset state holds: no command waits, every memory, its syndromes and the register tables
stand in their canonical form, no start is charged to the ladder's slot, memory reads 0, no source is enabled and none is pending, and
the device stands in RUN with every pin an input. Memory that the spec does not clear reads 0 too: that is the model's choice (log entry
4). -/
def Obligations.ResetLeaves : Prop :=
  let d := State.reset.dev
  State.reset.pending = [] ∧ d.Canonical ∧ d.ladder.used ≤ 15 ∧
  (∀ id off, d.peek id off = 0) ∧ (∀ a, (∃ id off, a = memBase id + off) → d.synd a = 0) ∧
  (∀ n, n < 512 → d.rb (Reg.icSrc n) 0 = false ∧ (d.pend n).count = 0) ∧ d.rb Reg.icCtl 0 = false ∧
  d.reg Reg.sysId = 0x744000B0 ∧ d.power = 0 ∧ d.clocked = true ∧
  (∀ k, k < 128 → d.reg (Reg.pinkCfg k) = 0x201 ∧ d.reg (Reg.pinkFunc k) = 0)

/-- R412: at reset region 0 of every table is in use, covers the whole target and has PERM 0xFFFF_FFFF; regions 1 to 15 are not in use and
read 0; in tables 4 and 24 region 0 has PERM 0x3000_000C, which grants read and write to masters 1 and 14 only. -/
def Obligations.ResetTables : Prop :=
  let d := State.reset.dev
  ∀ t, t < 27 →
    d.reg (Reg.ptValid t) = 1 ∧ d.rf (Reg.ptRange t 0) 15 0 = 0 ∧ d.rf (Reg.ptRange t 0) 31 16 = d.lastGranule t ∧
    d.reg (Reg.ptPerm t 0) = (if t = 4 ∨ t = 24 then 0x3000000C else 0xFFFFFFFF) ∧
    (∀ r, 1 ≤ r → r < 16 → d.reg (Reg.ptRange t r) = 0 ∧ d.reg (Reg.ptPerm t r) = 0) ∧
    (∀ m off len wr, m < 16 → 0 < len → off + len ≤ granule t * (lastGranuleReset t + 1) →
      d.permits m t off len wr = (decide (t ≠ 4 ∧ t ≠ 24) || decide (m = 1) || decide (m = 14)))

/-! ### Beam time (02) -/

/-- R45, R44, R25: SYS_BEAM_READ returns the master dot and line and copies the frame count; DET_STAT_CLEAR clears the written class bits
and the counters tied to them; SYS_COMMIT requests the commit of the next master frame start. R33: the composite start of a pipe is that
of its next line: when the latch point of a line has passed, the next is that of the line after it, and after the last active line that
of line 0 of the next frame. -/
def Obligations.TimeRegistersAnswer : Prop :=
  (∀ (s : State) (src : Src),
     (ReadOk s src Reg.sysBeamLo →
       Reads (.sysBeamRead src) s src (BitVec.ofNat 32 (s.dev.time.dot % 65536 + s.dev.time.line * 65536))
         (s.dev.setRf Reg.sysBeamHi 15 0 s.dev.time.frame)) ∧
     (∀ v, WriteOk s src Reg.sysDetStat → ∃ e, Writes (.detStatClear src v) s src e ∧
       e.reg Reg.sysDetStat = s.dev.reg Reg.sysDetStat &&& ~~~(v &&& 0x7F) ∧
       (bit v 0 = true → e.rf (Reg.sysTwqStat 0) 31 24 = 0 ∧ e.rf (Reg.sysTwqStat 1) 31 24 = 0 ∧ e.rf Reg.auLate 31 24 = 0) ∧
       (bit v 1 = true → e.rf (Reg.hgEnvlog 0) 31 24 = 0 ∧ e.rf (Reg.hgEnvlog 1) 31 24 = 0) ∧
       (bit v 3 = true → e.rf Reg.edcUe 31 16 = 0) ∧
       SameRegs [Reg.sysDetStat, Reg.sysTwqStat 0, Reg.sysTwqStat 1, Reg.auLate, Reg.hgEnvlog 0, Reg.hgEnvlog 1, Reg.edcUe]
         s.dev e) ∧
     (WriteOk s src Reg.sysCommit →
       Writes (.sysCommit src) s src { s.dev with time := { s.dev.time with commit := true } })) ∧
  (∀ (s : State) (p : Fin 2) (late : List LateFetch) (t : Timing), s.dev.clocked = true → (s.dev.feed p).isSome = true →
     (if (s.dev.pipe p).nextL = 0 then s.dev.soCommitAt ((List.range 3).filter (fun x => s.dev.soPipe x = p)) else s.dev).feedTiming p
       = some t →
     ∃ e, Settles (.latchPoint p late) s e ∧
       ((e.pipe p).nextF, (e.pipe p).nextL) =
         (if (s.dev.pipe p).nextL + 1 < t.vact then ((s.dev.pipe p).nextF, (s.dev.pipe p).nextL + 1)
          else (((s.dev.pipe p).nextF + 1) % 65536, 0)))

/-- R26, R27, R28, R31: a frame start of the idle timing carries the next frame number; a lost reference flywheels; lock and its loss show
in SYS_GLK_STAT, the loss with its event; a line start moves the idle timing on and gives a line tick, which LINE_TICK takes. -/
def Obligations.MasterTimingAdvances : Prop :=
  ∀ (s : State), s.dev.clocked = true →
    (s.dev.time.src = none → s.dev.time.fresh = false → s.dev.time.line = 999 → s.dev.pwr.dimReq = false →
      ∃ e, Settles (.masterFrameStart false) s e ∧ e.time.frame = (s.dev.time.frame + 1) % 65536 ∧ e.time.line = 0 ∧
        e.time.dot = 0 ∧ e.time.src = none) ∧
    (s.dev.time.src = some 3 ∨ s.dev.time.src = some 4 →
      Acts .flywheel s { s.dev with time := { s.dev.time with fly := true } }) ∧
    (∀ (x : Fin 3) (phase : BitVec 8), (s.dev.port x).steer = true →
      Acts (.genlockLocked x phase) s
        ((s.dev.setRb Reg.sysGlkStat x true).setRf Reg.sysGlkStat (15 + 8 * x) (8 + 8 * x) phase.toNat) ∧
      Acts (.genlockLost x) s ((s.dev.setRb Reg.sysGlkStat x false).raise (47 + 16 * x))) ∧
    (s.dev.time.src = none → (s.dev.time.fresh = true ∨ s.dev.time.line < 999) → s.dev.time.line < 1000 →
      ∃ e, Acts .lineStart s e ∧ e.time.line = (if s.dev.time.fresh then s.dev.time.line else s.dev.time.line + 1) ∧
        e.time.dot = 0 ∧ e.time.fresh = false ∧ e.time.tickDue = true ∧ e.time.lines = s.dev.time.lines + 1) ∧
    (s.dev.time.tickDue = true → ∃ e, Acts .lineTick s e ∧ e.time = { s.dev.time with tickDue := false })

/-- R35 to R38: an entry in time, for a target in the pipe's timed space that the table grants, joins the queue of an enabled pipe; one
outside the timed space is dropped with SYS_CHK 0x02, one with a line out of range with 0x03, one with a past tag is LATE, and none of
these is queued. A stalled entry enters when there is room. R39: what a line gets does not depend on when entries arrived: two queues in
which each source's entries stand in the same order give the same writes in the same order. -/
def Obligations.TimedWriteChecked : Prop :=
  (∀ (s : State) (p : Fin 2) (e : TimedWrite), s.dev.clocked = true →
     let d := s.dev
     let pl := placeFn0 e.addr
     (timedSpace p e.addr = false → Acts (.timedWriteEntry p e) s (d.refuse Reg.sysChk 2)) ∧
     (timedSpace p e.addr = true → d.tagLineOk p e.line = false → Acts (.timedWriteEntry p e) s (d.refuse Reg.sysChk 3)) ∧
     (timedSpace p e.addr = true → d.tagLineOk p e.line = true → d.permits e.master pl.target pl.off 4 true = false →
       Acts (.timedWriteEntry p e) s (d.violate e.master 0 pl.target true pl.off)) ∧
     (timedSpace p e.addr = true → d.tagLineOk p e.line = true → d.permits e.master pl.target pl.off 4 true = true →
       (d.pipeLive p = false →
         Acts (.timedWriteEntry p e) s (d.setRf (Reg.sysTwqStat p) 23 16 (min 255 (d.rf (Reg.sysTwqStat p) 23 16 + 1)))) ∧
       (d.pipeLive p = true → tagFuture e.frame e.line (d.pipe p).nextF (d.pipe p).nextL = false →
         ∃ t, Acts (.timedWriteEntry p e) s t ∧ t.tq p = d.tq p ∧
           t.reg (Reg.sysTwqLate p) = BitVec.ofNat 32 (e.line + e.master * 65536)) ∧
       (d.pipeLive p = true → tagFuture e.frame e.line (d.pipe p).nextF (d.pipe p).nextL = true →
         ((d.tq p).entries.filter (fun x => x.frame = e.frame ∧ x.line = e.line)).length < 256 →
         (d.tq p).entries.length < 4096 →
         Acts (.timedWriteEntry p e) s (d.setTq p { d.tq p with entries := (d.tq p).entries ++ [e] }) ∧
         (∀ rest, ∃ t, Acts (.twqStallRelease p) { s with dev := d.setTq p { d.tq p with stalled := e :: rest } } t ∧
           (t.tq p).entries = (d.tq p).entries ++ [e] ∧ (t.tq p).stalled = rest)))) ∧
  (∀ (es es' : List TimedWrite) (f l : Nat),
     (∀ m ∈ [0, 2, 3, 4, 5], es.filter (fun e => e.master = m) = es'.filter (fun e => e.master = m)) →
     twqDue es f l = twqDue es' f l ∧
       (twqDue es f l).Pairwise (fun a b => a.master ≤ b.master) ∧
       ∀ e ∈ twqDue es f l, e ∈ es ∧ e.frame = f ∧ e.line = l)

/-! ### Headgate (03) -/

/-- R63, R50, R51: enabling the Headgate of a pipe whose fed timing does not run is refused with 0x45, and otherwise enables it with the
budget of that timing, no scene pending and the empty envelope; disabling is refused with 0x46 while the compositor pipe is enabled, and
otherwise discards the pending scenes and the envelope; an evaluation over the shadow timing completes. -/
def Obligations.HeadgateSwitches : Prop :=
  ∀ (s : State) (src : Src) (p : Fin 2), WriteOk s src Reg.hgCtl →
    (s.dev.hgEn p = false → s.dev.feedTiming p = none →
      Writes (.hgEnable src p) s src (s.dev.refuse Reg.hgChk (chkWord 0x45 8 p))) ∧
    (s.dev.hgEn p = false → ∀ t, s.dev.feedTiming p = some t →
      ∃ e, Writes (.hgEnable src p) s src e ∧ e.hgEn p = true ∧ e.reg Reg.hgChk = 0 ∧ (e.gate p).env = [] ∧ (e.gate p).pend = [] ∧
        e.reg (Reg.hgPeriod p) = BitVec.ofNat 32 (t.htot * 1000000 / t.khz) ∧
        e.reg (Reg.hgBudget p) = BitVec.ofNat 32 (95 * (t.htot * 1000000 / t.khz) / 100)) ∧
    (s.dev.hgEn p = true → s.dev.rb (Reg.cmpCtl p) 0 = true →
      Writes (.hgDisable src p) s src (s.dev.refuse Reg.hgChk (chkWord 0x46 8 p))) ∧
    (s.dev.hgEn p = true → s.dev.rb (Reg.cmpCtl p) 0 = false →
      ∃ e, Writes (.hgDisable src p) s src e ∧ e.hgEn p = false ∧ (e.gate p).env = [] ∧ (e.gate p).pend = [] ∧
        e.reg (Reg.hgBudget p) = 0) ∧
    (∀ x : Fin 3, s.dev.soPipe x = p → s.dev.clocked = true →
      Acts (.timingCostEvaluation x) s (s.dev.setGate p { s.dev.gate p with evald := true }))

/-- R55, R57, R58, R59: a scene group at the front of a frame ring is judged. Accepted with room in the queue, it is the pipe's last pending
scene; refused, it leaves the envelope in force, the pending scenes and the timed write queue as they were. Either way HG_LASTp tells
the result, the reason and the worst line, and HG_LASTCOSTp its cost. R46, R260, R261: outside a scene group an ENV is refused with 0x09
and leaves HG_LASTp alone, a NOP completes, and an UPD whose writes all enter in time completes with no refusal. -/
def Obligations.SceneJudged : Prop :=
  (∀ (s : State) (r : Fin 68) (id : Nat) (sc : Desc) (ms : List Desc), s.dev.clocked = true →
     s.dev.frontGroup r = some (id, sc, ms) → s.dev.ringType r < 2 →
     let p := s.dev.ringType r
     let j := s.dev.sceneJudge p sc ms
     (j.1 ≠ 0 → ∃ e, Settles (.scene r) s e ∧ e.gate p = s.dev.gate p ∧ e.tq p = s.dev.tq p ∧
       e.reg (Reg.hgLast p) = (BitVec.ofNat 32 (1 + j.1 * 256 + j.2.1 * 65536) ||| 2) ∧
       e.reg (Reg.hgLastcost p) = BitVec.ofNat 32 j.2.2) ∧
     (j.1 = 0 →
       ((s.dev.takePassed r (groupLen sc)).twqEnterAll p ((ms.drop (dN sc 16 1)).flatMap updWrites)).2 = false →
       ∃ e, Settles (.scene r) s e ∧
         (e.gate p).pend = (s.dev.gate p).pend ++ [⟨dFrame sc, groupEnv (ms.take (dN sc 16 1)), j.2.1, j.2.2⟩] ∧
         (e.gate p).env = (s.dev.gate p).env ∧
         e.reg (Reg.hgLast p) = (BitVec.ofNat 32 (j.2.1 * 65536) ||| 2) ∧
         e.reg (Reg.hgLastcost p) = BitVec.ofNat 32 j.2.2)) ∧
  (∀ (s : State) (r : Fin 68) (id : Nat) (w : Desc), s.dev.clocked = true →
     let done (c : Comp) (q : RingSt) : RingSt :=
       { q with passed := q.passed.drop 1, issue := q.issue.map (fun e => if e.1 = id ∧ e.2 = none then (id, some c) else e) }
     (s.dev.front r [2] = some (id, w) → s.dev.ringType r < 2 →
       Settles (.env r) s ((s.dev.setRing r (done (compOf w 0x901 0 0) (s.dev.ring r))).raise (81 + 2 * s.dev.ringType r))) ∧
     (s.dev.front r [0] = some (id, w) →
       Settles (.nop r) s ((s.dev.setRing r (done (compOf w 0 0 0) (s.dev.ring r))).pump r)) ∧
     (s.dev.front r [3] = some (id, w) → s.dev.ringType r < 2 → dArg w = 1 →
       (s.dev.twqEnter (s.dev.ringType r) (updWrite w 0)).2 = 0 →
       ∃ e, Settles (.upd r) s e ∧
         (e.ring r) = done (compOf w 0 0 0) (s.dev.ring r) ∧
         e.tq (s.dev.ringType r) = (s.dev.twqEnter (s.dev.ringType r) (updWrite w 0)).1.tq (s.dev.ringType r)))

/-- R54, the Headgate's worst line: over a timing with an active line, no active line of an envelope costs more than the cost it reports,
its worst line has that cost, and every line before that one costs less. -/
def Obligations.WorstLineIsWorst : Prop :=
  ∀ (env : Env) (hact vact : Nat), 0 < vact →
    (worstLine env hact vact).1 < vact ∧
    lineCost env hact (worstLine env hact vact).1 = (worstLine env hact vact).2 ∧
    (∀ y, y < vact → lineCost env hact y ≤ (worstLine env hact vact).2) ∧
    (∀ y, y < (worstLine env hact vact).1 → lineCost env hact y < (worstLine env hact vact).2)

/-! ### Tile planes, sprites, layers (04 to 06) -/

/-- R85, R108, R124, R109, R82, R107, R123: enabling a block of a pipe runs its check over the shadow set. A failure is reported and raises
event 0; a pass sets EN and arms the block for the next line-0 latch point, the compositor through the start ladder. Clearing EN stops
the block at the next latch point; a commit of an enabled block is requested. -/
def Obligations.PipeBlocksSwitch : Prop :=
  ∀ (s : State) (src : Src) (p : Fin 2),
    let d := s.dev
    let q := d.pipe p
    (WriteOk s src (Reg.tpCtl p) →
      (d.rb (Reg.tpCtl p) 0 = false → (d.tpCheck p).1 ≠ 0 →
        Writes (.tpEnable src p) s src (d.refuse (Reg.tpChk p) (chkWord (d.tpCheck p).1 8 (d.tpCheck p).2))) ∧
      (d.rb (Reg.tpCtl p) 0 = false → (d.tpCheck p).1 = 0 →
        Writes (.tpEnable src p) s src (((d.setReg (Reg.tpChk p) 0).setRb (Reg.tpCtl p) 0 true).setPipe p { q with tpArm := true })) ∧
      (d.rb (Reg.tpCtl p) 0 = true →
        Writes (.tpDisable src p) s src
          ((d.setRb (Reg.tpCtl p) 0 false).setPipe p { q with tpArm := false, tpGo := false, tpOff := q.tpOn }))) ∧
    (WriteOk s src (Reg.tpCommit p) → d.rb (Reg.tpCtl p) 0 = true →
      Writes (.tpCommit src p) s src (d.setPipe p { q with tpGo := true })) ∧
    (WriteOk s src (Reg.spCtl p) →
      (d.rb (Reg.spCtl p) 0 = false → (d.spCheck p).1 ≠ 0 →
        Writes (.spEnable src p) s src (d.refuse (Reg.spChk p) (chkWord (d.spCheck p).1 8 (d.spCheck p).2))) ∧
      (d.rb (Reg.spCtl p) 0 = false → (d.spCheck p).1 = 0 →
        Writes (.spEnable src p) s src (((d.setReg (Reg.spChk p) 0).setRb (Reg.spCtl p) 0 true).setPipe p { q with spArm := true })) ∧
      (d.rb (Reg.spCtl p) 0 = true →
        Writes (.spDisable src p) s src
          ((d.setRb (Reg.spCtl p) 0 false).setPipe p { q with spArm := false, spGo := false, spOff := q.spOn }))) ∧
    (WriteOk s src (Reg.spCommit p) → d.rb (Reg.spCtl p) 0 = true →
      Writes (.spCommit src p) s src (d.setPipe p { q with spGo := true })) ∧
    (WriteOk s src (Reg.cmpCtl p) →
      (d.rb (Reg.cmpCtl p) 0 = false → (d.cmpCheck p).1 ≠ 0 →
        Writes (.cmpEnable src p) s src (d.refuse (Reg.cmpChk p) (chkWord (d.cmpCheck p).1 8 (d.cmpCheck p).2))) ∧
      (d.rb (Reg.cmpCtl p) 0 = false → (d.cmpCheck p).1 = 0 →
        Writes (.cmpEnable src p) s src (((d.setReg (Reg.cmpChk p) 0).setRb (Reg.cmpCtl p) 0 true).ask (5 + p))) ∧
      (d.rb (Reg.cmpCtl p) 0 = true → ∃ e, Writes (.cmpDisable src p) s src e ∧ e.rb (Reg.cmpCtl p) 0 = false ∧
        (e.tq p).entries = [] ∧ (e.pipe p).live = false ∧ (e.pipe p).cmpOff = q.cmpOn)) ∧
    (WriteOk s src (Reg.cmpCommit p) → d.rb (Reg.cmpCtl p) 0 = true →
      Writes (.cmpCommit src p) s src (d.setPipe p { q with cmpGo := true }))

/-- R64, R81, R83, R86, R106: a window write with all four bytes enabled stores its word, little-endian, in the map store or in the sprite
table that SP_WINSEL selects, and leaves every other byte of every memory as it reads; with a byte missing it is discarded. A pair of a
line processor writes and reads the cell that its address names. R83: TP_MAPDATAm writes and reads the cell that TP_MAPADDRm.CELL names
where the map store's table grants it to master 2 + m, and CELL advances with INC = 1, wrapping, whether or not it does. R275, R277:
what a write of bytes stores is what a read of them gives, and every other byte of every memory reads as before, in a memory whose flip
is not armed and whatever its words held. -/
def Obligations.WindowWritesStore : Prop :=
  (∀ (s : State) (src : Src) (i : Nat) (v : Word) (be : BitVec 4),
     let stores (e : Dev) (id o : Nat) : Prop :=
       ∀ id' off, off < 2 ^ 40 → e.peek id' off =
         if id' = id ∧ o ≤ off ∧ off < o + 4 then BitVec.ofNat 8 (v.toNat / 2 ^ (8 * (off - o))) else s.dev.peek id' off
     (i < 2097152 → WriteOk s src (0x1800000 + 4 * i) →
       (be ≠ 15 → Writes (.mapWindowWrite src i v be) s src s.dev) ∧
       (be = 15 → s.dev.flipArmed 1 = false → ∃ e, Writes (.mapWindowWrite src i v be) s src e ∧ stores e 1 (4 * i))) ∧
     (i < 131072 → WriteOk s src (0x680000 + 4 * i) →
       (be ≠ 15 → Writes (.spriteWindowWrite src i v be) s src s.dev) ∧
       (be = 15 → s.dev.flipArmed (2 + s.dev.rf Reg.spWinsel 0 0) = false →
         ∃ e, Writes (.spriteWindowWrite src i v be) s src e ∧ stores e (2 + s.dev.rf Reg.spWinsel 0 0) (4 * i)))) ∧
  (∀ (s : State) (m : Fin 4) (v : Word),
     let d := s.dev
     let off := 4 * d.rf (Reg.tpMapaddr m) 20 0
     let steps (e : Dev) : Prop :=
       e.rf (Reg.tpMapaddr m) 20 0 =
         if d.rb (Reg.tpMapaddr m) 31 then (d.rf (Reg.tpMapaddr m) 20 0 + 1) % 2097152 else d.rf (Reg.tpMapaddr m) 20 0
     (WriteOk s (.lp m) (Reg.tpMapdata m) → d.flipArmed 1 = false →
       ∃ e, Writes (.mapPairWrite m v) s (.lp m) e ∧ steps e ∧
         (d.mayWrite (2 + m) 1 off 4 = true → e.peekN 1 off 4 = v.toNat) ∧
         (d.mayWrite (2 + m) 1 off 4 = false → e.peekN 1 off 4 = d.peekN 1 off 4)) ∧
     (ReadOk s (.lp m) (Reg.tpMapdata m) →
       ∃ e, Reads (.mapPairRead m) s (.lp m)
         (if d.mayTouch (2 + m) 1 off 4 false then BitVec.ofNat 32 (d.peekN 1 off 4) else 0) e ∧ steps e)) ∧
  (∀ (d : Dev) (id m off : Nat) (bs : List Byte), id < 20 → off + bs.length ≤ 2 ^ 40 → d.flipArmed id = false →
     ∀ id' o, o < 2 ^ 40 →
       (d.writeBytes id m off bs).peek id' o =
         if id' = id ∧ off ≤ o ∧ o < off + bs.length then bs.getD (o - off) 0 else d.peek id' o)

/-- R91: the walk at a list point gives a walk order that names each entry once, each below 16,384, and visits at most 16,384; with all four
lists empty it is empty. R77, R117: the entry of a line table that arrives for the pipe's next line is the four words at its place, the
scrolls taken to 24 bits; data that arrives after its pass is discarded. R124: a layer's blend register takes its BLEND and ALPHA; a
write with a reserved BLEND is dropped and reported. R119 and its helper: the rounded product of two 8-bit fractions is x * y / 255
rounded half up; every blend mode gives an 8-bit channel, and NORMAL with effective alpha 255 gives the source. -/
def Obligations.LayersDraw : Prop :=
  (∀ (s : State) (p : Fin 2), s.dev.clocked = true → (s.dev.pipe p).spOn = true → (s.dev.feed p).isSome = true →
     ∃ e, Acts (.listPoint p) s e ∧ ((e.pipe p).walkNext.map Prod.snd).Nodup ∧ (∀ gi ∈ (e.pipe p).walkNext, gi.1 < 4 ∧ gi.2 < 16384) ∧
       (e.pipe p).walkNext.length ≤ 16384 ∧ (e.pipe p).walk = (s.dev.pipe p).walk ∧
       ((∀ g, g < 4 → s.dev.spHead p g = none) → (e.pipe p).walkNext = [])) ∧
  (∀ (s : State) (p : Fin 2) (k : Fin 8), s.dev.clocked = true →
     let d := s.dev
     (d.planeOn p k = true → d.memReady = true → d.lineTable p k = true → (d.pipe p).ltNext.any (fun e => e.1 = k) = false →
       ∀ w0 w1 w2 w3, (let o := d.lf (Reg.tpPltbase p k) 27 0 * 64 + 16 * (d.pipe p).nextL
         d.fetchVal 0 o 4 = some w0 ∧ d.fetchVal 0 (o + 4) 4 = some w1 ∧ d.fetchVal 0 (o + 8) 4 = some w2 ∧
           d.fetchVal 0 (o + 12) 4 = some w3) →
       ∃ e, Acts (.lineTableFetchDone p k false) s e ∧
         Tab.get (fun _ => []) (e.pipe p).ltNext k = [w0 % 16777216, w1 % 16777216, w2, w3]) ∧
     (∀ i, Acts (.fetchArrival p i) s (d.setPipe p { d.pipe p with lateOut := (d.pipe p).lateOut.eraseIdx i }))) ∧
  (∀ (s : State) (src : Src) (p : Fin 2) (k : Fin 10) (v : Word), WriteOk s src (Reg.cmpLay p k) →
     (fld v 2 0 < 5 → Writes (.layerBlendWrite src p k v) s src (s.dev.setReg (Reg.cmpLay p k) (v &&& 0xFF07))) ∧
     (5 ≤ fld v 2 0 → Writes (.layerBlendWrite src p k v) s src (s.dev.refuse (Reg.cmpChk p) 0x40))) ∧
  ((∀ x y, x ≤ 255 → y ≤ 255 → mul8 x y = (2 * (x * y) + 255) / 510) ∧
   (∀ mode s a dd, s ≤ 255 → a ≤ 255 → dd ≤ 255 → blendChan mode s a dd ≤ 255) ∧
   (∀ s dd, s ≤ 255 → dd ≤ 255 → blendChan 0 s 255 dd = s) ∧
   (∀ fx fy s00 s10 s01 s11, fx < 256 → fy < 256 → s00 ≤ 255 → s10 ≤ 255 → s01 ≤ 255 → s11 ≤ 255 →
     bilinChan fx fy s00 s10 s01 s11 ≤ 255 ∧ bilinChan 0 0 s00 s10 s01 s11 = s00))

/-! ### Scan-out and the ports (07) -/

/-- R129, R150, R130: enabling a port runs its checks over the shadow set; a failure is reported and a pass applies the set, sets EN and
asks for the start. Disabling is refused with 0x46 while the Headgate or the compositor of the port's pipe is enabled, and stops the
port otherwise; a commit of an enabled port is requested. -/
def Obligations.PortSwitches : Prop :=
  ∀ (s : State) (src : Src) (x : Fin 3),
    let d := s.dev
    let p := d.soPipe x
    let j := d.soJudge x (fun _ => false) false
    (WriteOk s src (Reg.soCtl x) →
      (d.soEn x = false → j.1 ≠ 0 → Writes (.soEnable src x) s src (d.refuse (Reg.soChk x) (chkWord j.1 8 j.2))) ∧
      (d.soEn x = false → j.1 = 0 → ∃ e, Writes (.soEnable src x) s src e ∧ e.soEn x = true ∧ e.reg (Reg.soChk x) = 0 ∧
        (∀ k ∈ soKeys x, e.inForce k = d.reg k) ∧
        ((e.port x).locking = true ∨ ladPort x ∈ e.ladder.pending)) ∧
      (d.soEn x = true → p < 2 → (d.hgEn p = true ∨ d.rb (Reg.cmpCtl p) 0 = true) →
        Writes (.soDisable src x) s src (d.refuse (Reg.soChk x) 0x46)) ∧
      (d.soEn x = true → (p < 2 → d.hgEn p = false ∧ d.rb (Reg.cmpCtl p) 0 = false) →
        ∃ e, Writes (.soDisable src x) s src e ∧ e.soEn x = false ∧ (e.port x).run = false ∧ e.rb (Reg.soStat x) 0 = false ∧
          ladPort x ∉ e.ladder.pending ∧ (d.time.src = some x.val → e.time.src = none))) ∧
    (WriteOk s src (Reg.soCommit x) → d.soEn x = true → ∃ e, Writes (.soCommit src x) s src e ∧
      e.port x = { d.port x with commit := true } ∧ (p < 2 → (e.gate p).evald = false)) ∧
    ((d.port x).locking = true → d.clocked = true →
      (d.power = 0 → d.mate x = none → d.lf Reg.sysTbase 2 0 ≠ x.val → ∃ e, Acts (.pixelPllLock x) s e ∧
        (e.port x).run = true ∧ (e.port x).frame = 0 ∧ (e.port x).line = 0 ∧ (e.port x).dot = 0 ∧ e.rb (Reg.soStat x) 0 = true) ∧
      (∃ e, Acts (.pixelPllLockTimeout x) s e ∧ e.soEn x = false ∧ e.reg (Reg.soChk x) = 0x45 ∧ (e.port x).locking = false))

/-- R127: the row write puts the whole line, in the format of the port the pipe feeds, into its row of the region, and changes no other byte
of any memory; a row that the frame store's table blocks stays as it was and is a violation. R132, R134, R136: a line start of a running
port moves its beam to the next line, or to line 0 of the next frame; on a line whose row write is not complete it records the underrun
and its line. Horizontal blanking raises its event, and so does a line match when the beam stands on the line that it names. -/
def Obligations.RowsAndBeam : Prop :=
  (∀ (s : State) (p : Fin 2) (b : LineBuf) (x : Nat), s.dev.clocked = true → (s.dev.pipe p).buf = some b → s.dev.feed p = some x →
     let d := s.dev
     let y := d.primary x
     let off := rowBase d.inForce y (rowOf (timingOf d.inForce y) b.frame b.line)
     let bytes := b.px.flatMap (fsPack (d.lf (Reg.soCfg y) 3 2))
     (d.mayWrite 8 6 off bytes.length = false →
       Acts (.rowWrite p) s ((d.setPipe p { d.pipe p with buf := none }).violate 8 0 2 true off)) ∧
     (d.mayWrite 8 6 off bytes.length = true → d.flipArmed 6 = false → off + bytes.length ≤ 2 ^ 40 →
       ∃ e, Acts (.rowWrite p) s e ∧ (e.pipe p).buf = none ∧ (b.frame, b.line) ∉ (e.pipe p).begun ∧
         ∀ id o, o < 2 ^ 40 →
           e.peek id o = if id = 6 ∧ off ≤ o ∧ o < off + bytes.length then bytes.getD (o - off) 0 else d.peek id o)) ∧
  (∀ (s : State) (x : Fin 3), s.dev.clocked = true → (s.dev.port x).run = true →
     let d := s.dev
     let q := d.port x
     let t := timingOf d.scanWord x
     let n := if q.fresh then (q.frame, q.line) else if q.line + 1 < t.lines q.frame then (q.frame, q.line + 1)
       else ((q.frame + 1) % 65536, 0)
     (n.2 ≠ 0 → 2 ≤ d.soPipe x → n.2 + 1 ≠ t.vtot → n.2 < t.vact → ∃ e, Acts (.portLineStart x) s e ∧
       (e.port x).frame = n.1 ∧ (e.port x).line = n.2 ∧ (e.port x).dot = 0 ∧ (e.port x).fresh = false ∧ (e.port x).run = true) ∧
     (n.2 ≠ 0 → d.sf (Reg.soCfg x) 1 0 < 2 → n.2 < t.vact → (d.pipe (d.sf (Reg.soCfg x) 1 0)).begun.contains n = true → d.soPipe x < 2 →
       ∃ e, Acts (.portLineStart x) s e ∧ e.rb (Reg.soStat x) 2 = true ∧ e.rf (Reg.soStat x) 31 16 = n.2 % 65536) ∧
     Acts (.hblankStart x) s ((d.setPort x { q with dot := d.sf (Reg.soHtim x) 15 0 }).raise (32 + 16 * x + 1)) ∧
     (∀ m : Fin 8, d.rb (Reg.soLm x m) 31 = true → d.rf (Reg.soLm x m) 15 0 = q.line → q.line < t.lines q.frame →
       d.rf (Reg.soLm x m) 29 16 < t.htot →
       Acts (.lineMatch x m) s ((d.setPort x { q with dot := d.rf (Reg.soLm x m) 29 16 }).raise (32 + 16 * x + 2 + m))))

/-- R143, R145, R146: TRAIN starts the training of a running DisplayPort port with HPD high and fails at once with HPD low; its end shows
the result. An AUX or DDC command runs when none is in progress and the mode fits, and completes at once with ERR = 1 when the mode does
not; its end gives the result and the bytes read. A change of HPD and an IRQ pulse set their flags. -/
def Obligations.PortLinkCommands : Prop :=
  ∀ (s : State) (x : Fin 3), x.val < 2 →
    let d := s.dev
    let k := Reg.soLink x
    let stat := Reg.soAuxstat x
    (∀ src, WriteOk s src (Reg.soCtl x) → d.lb (Reg.soCfg x) 4 = false → d.rb k 4 = false → (d.port x).run = true →
      (d.rb k 0 = false → Writes (.linkTrain src x) s src (d.setRf k 7 5 4)) ∧
      (d.rb k 0 = true → Writes (.linkTrain src x) s src
        ((((d.setRb k 4 true).setRb k 3 false).setRf k 7 5 0).send (.train x)))) ∧
    (∀ cause, d.clocked = true → d.rb k 4 = true → d.rb k 0 = true → cause.toNat < 4 → ∃ e, Acts (.linkTrainEnd x cause) s e ∧
      e.rb k 4 = false ∧ (e.rb k 3 = true ↔ cause = 0) ∧ e.rf k 7 5 = cause.toNat) ∧
    (∀ src (ad : BitVec 20) (len : BitVec 4),
      ∀ c ∈ [(Instr.auxNativeWrite src x ad len, 0), (.auxNativeRead src x ad len, 1), (.i2cOverAuxWrite src x ad len, 2),
        (.i2cOverAuxRead src x ad len, 3), (.ddcWrite src x ad len, 4), (.ddcRead src x ad len, 5)],
      WriteOk s src (Reg.soAuxcmd x) → d.rb stat 0 = false →
        (d.lb (Reg.soCfg x) 4 ≠ decide (4 ≤ c.2) → ∃ e, Writes c.1 s src e ∧ e.rb stat 0 = false ∧ e.rb stat 1 = true ∧
          e.rf stat 3 2 = 1 ∧ e.rf stat 8 4 = 0 ∧ e.sent = d.sent) ∧
        (d.lb (Reg.soCfg x) 4 = decide (4 ≤ c.2) → ∃ e, Writes c.1 s src e ∧ e.rb stat 0 = true ∧ (e.port x).aux = c.2 ∧
          e.sent = d.sent ++
            [.aux x c.2 ad.toNat (if c.2 % 2 = 0 then (List.range (len.toNat + 1)).map (d.auxByte x) else [])])) ∧
    (∀ (err : BitVec 2) (cnt : BitVec 5) (bytes : List (BitVec 8)), d.clocked = true → d.rb stat 0 = true → cnt.toNat ≤ 16 →
      (∃ e, Acts (.auxTransactionEnd x err cnt bytes) s e ∧ e.rb stat 0 = false ∧ e.rb stat 1 = true ∧ e.rf stat 3 2 = err.toNat ∧
        e.rf stat 8 4 = cnt.toNat ∧
        ((d.port x).aux % 2 = 1 → ∀ i, i < cnt.toNat → ∀ b, bytes[i]? = some b → e.auxByte x i = b) ∧
        ((d.port x).aux % 2 = 0 → ∀ i, i < 16 → e.auxByte x i = d.auxByte x i)) ∧
      (∃ e, Acts (.auxReplyTimeout x) s e ∧ e.rb stat 0 = false ∧ e.rb stat 1 = true ∧ e.rf stat 3 2 = 3 ∧ e.rf stat 8 4 = 0)) ∧
    (d.clocked = true →
      (∀ level, d.rb k 0 ≠ level → ∃ e, Acts (.hpdChange x level) s e ∧ e.rb k 0 = level ∧ e.rb k 1 = true ∧
        e.rb k 3 = (level && d.rb k 3)) ∧
      (d.lb (Reg.soCfg x) 4 = false → Acts (.hpdIrqPulse x) s (d.setRb k 2 true)))

/-! ### The line processors (08, 09) -/

/-- R154: every line-processor word decodes, and no bit of it is lost: the word of an instruction decodes to that instruction, and the word
of what a word decodes to is that word. -/
def Obligations.LpWordsRoundTrip : Prop :=
  (∀ i : LpWord, decodeLp (encodeLp i) = i) ∧ (∀ w : Word, encodeLp (decodeLp w) = w)

/-- R156, R157, R158: a word with an illegal port or a paired word that breaks a pair rule has no effect but its trap, whatever its guard:
the line processor is in FAULT at that word, LPn_FAULT records cause, address, port and slot, and its event is raised. R156, R157: the
pair rules name the shared destination, the trigger whose operand the other slot writes, or slot B's trigger of the same unit, in this
order, and a word whose destinations break none of them is no pair fault. -/
def Obligations.LpFaultsTrap : Prop :=
  (∀ (s : State) (n : Fin 4) (w : LpWord) (c port slot : Nat),
     s.dev.clocked = true → s.dev.lpReady n = true → s.dev.badAt (7 + n) (4 * (s.dev.lp n).pc) 4 = false →
     decodeLp (BitVec.ofNat 32 (s.dev.peekN (7 + n) (4 * (s.dev.lp n).pc) 4)) = w → wordFault w = some (c, port, slot) →
     ∃ e, Acts (.move n) s e ∧ (e.lp n).mode = .fault ∧ (e.lp n).pc = (s.dev.lp n).pc ∧ (e.lp n).preds = (s.dev.lp n).preds ∧
       (∀ p, (e.lp n).get p = (s.dev.lp n).get p) ∧ e.mem = s.dev.mem ∧ e.twq = s.dev.twq ∧
       e.reg (Reg.lpFault n) = BitVec.ofNat 32 (c + (s.dev.lp n).pc * 16 + port * 131072 + slot * 16777216) ∧
       e.rb (Reg.icRaw 0) (if c = 1 then 16 + 4 * n else 19 + 4 * n) = true) ∧
  (∀ a b : Nat, a < 128 → b < 128 →
     (a = b → pairFault a b = some (b, 1)) ∧
     (a ≠ b → b ∈ portOperands a → pairFault a b = some (a, 0)) ∧
     (a ≠ b → a ∈ portOperands b → pairFault a b = some (b, 1)) ∧
     (a ≠ b → b ∉ portOperands a → a ∉ portOperands b → portTrigger a = true → portTrigger b = true → portUnit a = portUnit b →
       pairFault a b = some (b, 1)) ∧
     (a ≠ b → b ∉ portOperands a → a ∉ portOperands b → (portTrigger a = false ∨ portTrigger b = false ∨ portUnit a ≠ portUnit b) →
       pairFault a b = none))

/-- R151, R155, R156: a long move of an immediate writes the sign-extended value to a general register; a word whose guard is false only
goes on to the next word; and a paired word that moves two registers into each other exchanges them. R184, R185, R186: jumps go to the
written word, a call leaves the next word's address in g31, a return goes to g31, decrement-and-branch branches while the new count is
not 0, and a repeat count of 0 skips the next word; a word that repeats is issued again until its count is spent. -/
def Obligations.MovesAndBranches : Prop :=
  (∀ (s : State) (n : Fin 4), Issues s n → s.dev.badAt (7 + n) (4 * (s.dev.lp n).pc) 4 = false →
     let l := s.dev.lp n
     let w := decodeLp (BitVec.ofNat 32 (s.dev.peekN (7 + n) (4 * l.pc) 4))
     (∀ (dst : BitVec 7) (v : BitVec 20), dst.toNat < 32 → w = .long 0 dst (.imm v) →
       ∃ e, Acts (.move n) s e ∧ Issued s.dev e n [dst.toNat] ∧ (e.lp n).get dst.toNat = v.signExtend 32) ∧
     (∀ (g : BitVec 3) (dst : BitVec 7) (v : BitVec 20), g ≠ 0 → l.preds.getLsbD g.toNat = false → portDest dst.toNat = true →
       w = .long g dst (.imm v) → ∃ e, Acts (.move n) s e ∧ Issued s.dev e n []) ∧
     (∀ a b : BitVec 7, a ≠ b → a.toNat < 32 → b.toNat < 32 → w = .pair false ⟨a, false, b⟩ ⟨b, false, a⟩ →
       ∃ e, Acts (.move n) s e ∧ Issued s.dev e n [a.toNat, b.toNat] ∧ (e.lp n).get a.toNat = l.get b.toNat ∧
         (e.lp n).get b.toNat = l.get a.toNat)) ∧
  (∀ (s : State) (n : Fin 4) (v : Word), s.dev.clocked = true → s.dev.lpReady n = true →
     let l := s.dev.lp n
     let goes (c : Instr) (pc : Nat) (rep : Option Nat) (p : Nat) (w : Word) : Prop :=
       ∃ e, Acts c s e ∧ (e.lp n).pc = pc ∧ (e.lp n).rep = rep ∧ (e.lp n).get p = w ∧
         (∀ q, q ≠ p → (e.lp n).get q = l.get q) ∧ (e.lp n).preds = l.preds ∧ e.mem = s.dev.mem
     (l.rep = none →
       goes (.brJmp n v) (v.toNat % 8192) none 31 (l.get 31) ∧
       goes (.brCall n v) (v.toNat % 8192) none 31 (BitVec.ofNat 32 ((l.pc + 1) % 8192)) ∧
       goes (.brRet n v) ((l.get 31).toNat % 8192) none 31 (l.get 31) ∧
       goes (.brDbnz n v) (if l.get 80 = 1 then (l.pc + 1) % 8192 else v.toNat % 8192) none 80 (l.get 80 - 1) ∧
       (v.toNat % 65536 = 0 → goes (.loopRep n v) ((l.pc + 2) % 8192) none 31 (l.get 31)) ∧
       (v.toNat % 65536 ≠ 0 → goes (.loopRep n v) ((l.pc + 1) % 8192) (some (v.toNat % 65536)) 31 (l.get 31))) ∧
     (∀ k, l.rep = some k →
       (1 < k → goes (.aluAdd n v) l.pc (some (k - 1)) 33 (l.get 32 + v)) ∧
       (k = 1 → goes (.aluAdd n v) ((l.pc + 1) % 8192) none 33 (l.get 32 + v)) ∧
       goes (.brJmp n v) (v.toNat % 8192) none 31 (l.get 31)))

/-- R174, R175, R176: each ALU trigger puts its row's result of Table — ALU operations in ALU.RES, computed from ALU.O and the value
written, sets V only where the table says so, and changes nothing else. -/
def Obligations.AluOperations : Prop :=
  ∀ (s : State) (n : Fin 4) (v : Word), Issues s n →
    let o := (s.dev.lp n).get 32
    let sh := v.toNat % 256
    let neg := o.getLsbD 31
    let sum := o.toInt + v.toInt
    let dif := o.toInt - v.toInt
    let sat (z : Int) : Word := if 2147483647 < z then 0x7FFFFFFF else if z < -2147483648 then 0x80000000 else BitVec.ofInt 32 z
    let out (z : Int) : Bool := decide (2147483647 < z ∨ z < -2147483648)
    ∀ c ∈ [(Instr.aluAdd n v, o + v, false), (.aluSub n v, o - v, false), (.aluAnd n v, o &&& v, false),
      (.aluOr n v, o ||| v, false), (.aluXor n v, o ^^^ v, false), (.aluShl n v, if 32 ≤ sh then 0 else o <<< sh, false),
      (.aluShr n v, if 32 ≤ sh then 0 else o >>> sh, false),
      (.aluSar n v, if 32 ≤ sh then (if neg then 0xFFFFFFFF else 0) else o.sshiftRight sh, false),
      (.aluRot n v, o.rotateLeft (sh % 32), false), (.aluNeg n v, -v, decide (v = 0x80000000)),
      (.aluMin n v, if o.slt v then o else v, false), (.aluMax n v, if o.slt v then v else o, false),
      (.aluAdds n v, sat sum, out sum), (.aluSubs n v, sat dif, out dif)],
    ∃ e, Acts c.1 s e ∧ Issued s.dev e n [33, 118] ∧ (e.lp n).get 33 = c.2.1 ∧
      (e.lp n).get 118 = (if c.2.2 then (s.dev.lp n).get 118 ||| 1 else (s.dev.lp n).get 118) ∧ e.regs = s.dev.regs

/-- R180: a write of v to CMP.T evaluates the condition of CMP.CFG between CMP.O and v and updates the predicate that CMP.CFG.P names by
MODE; CMP.O, CMP.CFG, every other port and every other predicate keep their values, and a reserved COND or MODE neither faults nor
raises an event. -/
def Obligations.Comparisons : Prop :=
  ∀ (s : State) (n : Fin 4) (v : Word), Issues s n →
    let l := s.dev.lp n
    let o := l.get 60
    let p := fld (l.get 61) 2 0
    ∀ c ∈ [(0, o == v), (1, o != v), (2, o.slt v), (3, v.sle o), (4, o.ult v), (5, v.ule o), (6, v.slt o), (7, o.sle v),
      (8, v.ult o), (9, o.ule v), (10, (o &&& v) != 0), (11, (o &&& v) == 0), (12, true), (13, false), (14, false), (15, false)],
    fld (l.get 61) 6 3 = c.1 →
    ∃ e, Acts (.cmpT n v) s e ∧ (e.lp n).pc = (l.pc + 1) % 8192 ∧ (∀ q, (e.lp n).get q = l.get q) ∧
      (∀ i, i < 8 → (e.lp n).preds.getLsbD i =
        if i = p ∧ p ≠ 0 then
          (if fld (l.get 61) 8 7 = 1 then l.preds.getLsbD i && c.2 else if fld (l.get 61) 8 7 = 2 then l.preds.getLsbD i || c.2 else c.2)
        else l.preds.getLsbD i) ∧
      e.regs = s.dev.regs ∧ e.mem = s.dev.mem ∧ e.twq = s.dev.twq ∧ e.sent = s.dev.sent ∧ ∀ m, m ≠ n.val → e.lp m = s.dev.lp m

/-- R177, R178, R179: the product's low and high words; quotient and remainder truncated toward zero; the edges of Table — Division edges
with their flags; and the event of a division by zero where LPn_CFG.DZEV is set. R160, R182, R189: a load takes its address modulo
32,768, aligned to its size, and gives the bytes zero-extended; a store puts the low bytes of LS.SD there, little-endian, and changes no
other byte of any memory; a code read gives the word of IMEM. -/
def Obligations.UnitsAndMemory : Prop :=
  (∀ (s : State) (n : Fin 4) (v : Word), Issues s n →
     let l := s.dev.lp n
     let o := l.get 54
     (∃ e, Acts (.mulU n v) s e ∧ Issued s.dev e n [51, 52] ∧
       (e.lp n).get 52 ++ (e.lp n).get 51 = (l.get 48).zeroExtend 64 * v.zeroExtend 64) ∧
     (∃ e, Acts (.mulS n v) s e ∧ Issued s.dev e n [51, 52] ∧
       (e.lp n).get 52 ++ (e.lp n).get 51 = (l.get 48).signExtend 64 * v.signExtend 64) ∧
     (v ≠ 0 → ∃ e, Acts (.divU n v) s e ∧ Issued s.dev e n [57, 58] ∧ (e.lp n).get 57 = o / v ∧ (e.lp n).get 58 = o % v) ∧
     (v ≠ 0 → ∃ e, Acts (.divS n v) s e ∧ Issued s.dev e n [57, 58, 118] ∧ (e.lp n).get 57 = o.sdiv v ∧ (e.lp n).get 58 = o.srem v ∧
       (e.lp n).get 118 = if o = 0x80000000 ∧ v = 0xFFFFFFFF then l.get 118 ||| 1 else l.get 118) ∧
     (v = 0 → ∀ c ∈ [(Instr.divU n v, (0xFFFFFFFF : Word)), (.divS n v, if o.getLsbD 31 then 1 else 0xFFFFFFFF)],
       ∃ e, Acts c.1 s e ∧ Issued s.dev e n [57, 58, 118] ∧ (e.lp n).get 57 = c.2 ∧ (e.lp n).get 58 = o ∧
         (e.lp n).get 118 = l.get 118 ||| 2 ∧
         (s.dev.rb (Reg.lpCfg n) 0 = true → e.rb (Reg.icRaw 0) (18 + 4 * n) = true) ∧
         (s.dev.rb (Reg.lpCfg n) 0 = false → e.regs = s.dev.regs))) ∧
  (∀ (s : State) (n : Fin 4) (v : Word), Issues s n →
     let a (size : Nat) : Nat := v.toNat % 32768 / size * size
     (∀ c ∈ [(Instr.ldW n v, 4), (.ldH n v, 2), (.ldB n v, 1)],
       ∃ e, Acts c.1 s e ∧ Issued s.dev e n [64] ∧ (e.lp n).get 64 = BitVec.ofNat 32 (s.dev.peekN (11 + n) (a c.2) c.2)) ∧
     (s.dev.flipArmed (11 + n) = false → ∀ c ∈ [(Instr.stW n v, 4), (.stH n v, 2), (.stB n v, 1)],
       ∃ e, Acts c.1 s e ∧ (e.lp n).pc = ((s.dev.lp n).pc + 1) % 8192 ∧ (∀ q, (e.lp n).get q = (s.dev.lp n).get q) ∧
         ∀ id o, o < 2 ^ 40 → e.peek id o =
           if id = 11 + n ∧ a c.2 ≤ o ∧ o < a c.2 + c.2 then
             BitVec.ofNat 8 (((s.dev.lp n).get 65).toNat / 2 ^ (8 * (o - a c.2)))
           else s.dev.peek id o) ∧
     (∃ e, Acts (.crAddr n v) s e ∧ Issued s.dev e n [87] ∧
       (e.lp n).get 87 = BitVec.ofNat 32 (s.dev.peekN (7 + n) (4 * (v.toNat % 8192)) 4)))

/-- R162, R168: a beam wait that names a value the master timing reaches stalls its line processor, one that does not only sets WAITBAD; a
wait whose start was delivered ends; IRQ.WAIT stalls. R165, R166, R167: an entry takes the most urgent request, saves the context and
goes to the handler that the vector table names; a return with no request to chain into gives back the interrupted code's place,
predicates, loop count, repeat, wait and priority. -/
def Obligations.WaitsAndHandlers : Prop :=
  (∀ (s : State) (n : Fin 4) (v : Word),
     let l := s.dev.lp n
     (Issues s n →
       (∀ c ∈ [(Instr.beamWaitl n v, s.dev.masterLines, LpWait.line v.toNat false),
           (.beamWaitd n v, s.dev.masterDots, .dot v.toNat false)], ∀ t, c.2.1 = some t →
         (t ≤ v.toNat → ∃ e, Acts c.1 s e ∧ Issued s.dev e n [] ∧ e.rb (Reg.lpStat n) 23 = true) ∧
         (v.toNat < t → ∃ e, Acts c.1 s e ∧ (e.lp n).wait = c.2.2 ∧ (e.lp n).pc = (l.pc + 1) % 8192 ∧ e.lpReady n = false)) ∧
       (∃ e, Acts (.irqWait n) s e ∧ (e.lp n).irqWait = true ∧ (e.lp n).pc = (l.pc + 1) % 8192 ∧ e.lpReady n = false)) ∧
     (s.dev.clocked = true → (∃ u, l.wait = .line u true ∨ l.wait = .dot u true) →
       Acts (.beamWaitWake n) s (s.dev.setLp n { l with wait := .none }))) ∧
  (∀ (s : State) (n : Fin 4) (x : Nat), s.dev.clocked = true →
     let d := s.dev
     let l := d.lp n
     (d.laddered (8 + n) = true → l.mode = .run → l.stalled = false → l.repFresh = false →
       (∀ q ∈ [0, 1], ∀ e ∈ (d.tq q).stalled, e.master ≠ 2 + n.val) → (l.get 104).getLsbD 0 = true → l.stack.length < 8 →
       d.lpRequest n l.pri = some x →
       ∃ e, Acts (.interruptEntry n) s e ∧ (e.lp n).cause = x ∧ (e.lp n).pri = d.runPri x ∧ (x < 256 → (e.pend x).count = 0) ∧
         (e.lp n).pc = d.peekN (11 + n) ((l.get 108).toNat % 32768 / 2048 * 2048 + 4 * x) 4 % 8192 ∧
         (e.lp n).stack = ⟨l.pc, l.preds, l.get 80, l.rep, l.hazTold, l.wait, l.cause, l.pri⟩ :: l.stack ∧
         (e.lp n).wait = .none ∧ (e.lp n).irqWait = false) ∧
     (∀ c rest, Issues s n → l.stack = c :: rest → d.lpRequest n c.pri = none →
       ∃ e, Acts (.irqRet n) s e ∧ (e.lp n).pc = c.pc ∧ (e.lp n).preds = c.preds ∧ (e.lp n).get 80 = c.loop ∧ (e.lp n).rep = c.rep ∧
         (e.lp n).wait = c.wait ∧ (e.lp n).cause = c.cause ∧ (e.lp n).pri = c.pri ∧ (e.lp n).stack = rest))

/-- R163, R164: TQ.DATA enters one entry, tagged and aimed as the TQ ports say, with its outcome in TQ.STAT, and steps TQ.ADDR; IO.RD and
IO.WR put an access behind the earlier ones; a read that completes gives IO.RES the register's value, or 0 where the access tables or
the address map refuse it, and a write that completes reaches its register or is dropped. -/
def Obligations.LpReachesOut : Prop :=
  ∀ (s : State) (n : Fin 4) (v : Word),
    let d := s.dev
    let l := d.lp n
    let p := b2n ((l.get 100).getLsbD 0)
    let t : TimedWrite := ⟨if (l.get 96).getLsbD 16 then (l.get 97).toNat % 65536 else (d.pipe p).nextF, (l.get 96).toNat % 65536,
      (l.get 98).toNat, v, 2 + n⟩
    (Issues s n → (d.twqEnter p t).2 < 4 →
      ∃ e, Acts (.tqData n v) s e ∧ e.twq = (d.twqEnter p t).1.twq ∧ (e.lp n).get 102 = BitVec.ofNat 32 (d.twqEnter p t).2 ∧
        (e.lp n).get 98 = l.get 98 + l.get 101 ∧ (e.lp n).pc = (l.pc + 1) % 8192) ∧
    (Issues s n → l.io = [] →
      (∃ e, Acts (.ioRd n v) s e ∧ (e.lp n).io = [.rd (v.toNat % 65536) true] ∧ (e.lp n).pc = (l.pc + 1) % 8192) ∧
      (∃ e, Acts (.ioWr n v) s e ∧ (e.lp n).io = [.wr (v.toNat % 65536) (l.get 73)] ∧ (e.lp n).pc = (l.pc + 1) % 8192)) ∧
    (∀ a rest, d.clocked = true → l.io = .rd a true :: rest → d.lpIoStalled n = false →
      ∃ e, Settles (.ioReadComplete n) s e ∧
        (d.admits (2 + n) (placeLp a) false = false → (e.lp n).get 72 = 0 ∧ (e.lp n).io = rest) ∧
        (d.admits (2 + n) (placeLp a) false = true →
          (e.lp n).get 72 = ((d.setLp n { l with io := rest }).busRead (2 + n) (placeLp a).key).1)) ∧
    (∀ a w rest, d.clocked = true → l.io = .wr a w :: rest → d.lpIoStalled n = false →
      let u := d.setLp n { l with io := rest }
      (d.admits (2 + n) (placeLp a) true = false →
        Settles (.postedWriteComplete n) s (u.violate (2 + n) 0 (placeLp a).target true (placeLp a).off)) ∧
      (d.admits (2 + n) (placeLp a) true = true →
        Settles (.postedWriteComplete n) s (u.busWrite (2 + n) (placeLp a).key w)))

/-- R169, R171, R172, R173, R170: RUN is refused in FAULT, with the clock stopped and while the debug port holds the halt, and else asks for
the start; clearing it returns to RESET; a halt stops and a release goes on; STEP issues one word; FCLR leaves FAULT for HALT at the
faulting word; LPn_PC and IMEM take writes only where the processor stands. -/
def Obligations.LpControl : Prop :=
  ∀ (s : State) (n : Fin 4),
    let d := s.dev
    let l := d.lp n
    (∀ src, WriteOk s src (Reg.lpCtl n) →
      (l.mode = .fault → Writes (.lpRun src n) s src (d.refuse (Reg.lpChk n) 1)) ∧
      (l.mode ≠ .fault → d.rb (Reg.lpCtl n) 0 = false → d.clocked = true → l.dbgHalt = true →
        Writes (.lpRun src n) s src (d.refuse (Reg.lpChk n) 0x46)) ∧
      (l.mode = .reset → d.rb (Reg.lpCtl n) 0 = false → d.rb (Reg.lpCtl n) 1 = false → d.clocked = true → l.dbgHalt = false →
        ∃ e, Writes (.lpRun src n) s src e ∧ e.rb (Reg.lpCtl n) 0 = true ∧ e.reg (Reg.lpChk n) = 0 ∧
          (d.ladder.pending = [] → d.ladder.used + 1 ≤ 15 → (e.lp n).mode = .run ∧ (e.lp n).pc = d.rf (Reg.lpBoot n) 12 0) ∧
          (d.ladder.pending ≠ [] → (e.lp n).starting = true ∧ 8 + n.val ∈ e.ladder.pending)) ∧
      (d.rb (Reg.lpCtl n) 0 = true → ∃ e, Writes (.lpReset src n) s src e ∧ (e.lp n) = { LpSt.init with dbgHalt := l.dbgHalt } ∧
        e.rb (Reg.lpCtl n) 0 = false ∧ (l.mode = .fault → e.reg (Reg.lpFault n) = 0)) ∧
      (l.mode = .run → ∃ e, Writes (.lpHalt src n) s src e ∧ (e.lp n).mode = .halt ∧ (e.lp n).pc = l.pc ∧ (e.lp n).wait = l.wait ∧
        e.rb (Reg.lpCtl n) 1 = true ∧ e.rb Reg.sysDetStat 5 = true) ∧
      (l.mode = .halt → l.dbgHalt = false → ∃ e, Writes (.lpResume src n) s src e ∧ (e.lp n).mode = .run ∧ (e.lp n).pc = l.pc ∧
        e.rb (Reg.lpCtl n) 1 = false) ∧
      (l.mode = .halt → ∃ e, Writes (.lpStep src n) s src e ∧ e.lp n = { l with mode := .run, stepping := true }) ∧
      (l.mode = .fault → ∃ e, Writes (.lpFaultClear src n) s src e ∧ e.lp n = { l with mode := .halt } ∧
        e.reg (Reg.lpFault n) = 0 ∧ e.rb (Reg.lpCtl n) 1 = true)) ∧
    (∀ src v, WriteOk s src (Reg.lpPc n) → l.halted = true →
      Writes (.lpPcWrite src n v) s src (d.setLp n { l with
        pc := fld v 12 0, rep := none, wait := .none, irqWait := false, repFresh := false })) ∧
    (∀ src i v, i < 8192 → WriteOk s src (0x910000 + 0x40000 * n + 4 * i) →
      (l.mode = .run → l.stepping = false →
        Writes (.imemWrite src n i v 15) s src (d.setRb (Reg.lpStat n) 22 true)) ∧
      (l.mode ≠ .run → d.flipArmed (7 + n) = false → ∃ e, Writes (.imemWrite src n i v 15) s src e ∧ e.peekN (7 + n) (4 * i) 4 = v.toNat)) ∧
    (d.power < 2 →
      (l.mode = .run → ∃ e, Acts (.debugHalt n) s e ∧ (e.lp n).mode = .halt ∧ (e.lp n).dbgHalt = true ∧ e.rb Reg.sysDetStat 5 = true) ∧
      (l.mode = .halt → d.rb (Reg.lpCtl n) 1 = false → ∃ e, Acts (.debugHaltRelease n) s e ∧ (e.lp n).mode = .run ∧
        (e.lp n).dbgHalt = false ∧ (e.lp n).pc = l.pc))

/-! ### The blit engine (10) -/

/-- R209, R207, R199, R201: enabling the engine or committing runs its check over the shadow set; a failure is reported and keeps the set, a
pass applies it, at once while the engine is idle; clearing EN ends a command that runs with reason 0x19. -/
def Obligations.BlitSwitches : Prop :=
  ∀ (s : State) (src : Src),
    let d := s.dev
    (WriteOk s src Reg.blCtl →
      (d.rb Reg.blCtl 0 = false → d.blCheck.1 ≠ 0 →
        Writes (.blEnable src) s src (d.refuse Reg.blChk (chkWord d.blCheck.1 8 d.blCheck.2))) ∧
      (d.rb Reg.blCtl 0 = false → d.blCheck.1 = 0 → ∃ e, Writes (.blEnable src) s src e ∧ e.rb Reg.blCtl 0 = true ∧
        e.reg Reg.blChk = 0 ∧ e.rf Reg.blStat 31 16 = 0 ∧ (∀ k ∈ blKeys, e.inForce k = d.reg k)) ∧
      (d.rb Reg.blCtl 0 = true → ∃ e, Writes (.blDisable src) s src e ∧ e.rb Reg.blCtl 0 = false ∧ e.blit.run = none ∧
        (∀ r, d.blit.run = some r → e.reg Reg.blFault &&& 0xFF = 0x19))) ∧
    (WriteOk s src Reg.blCommit → d.rb Reg.blCtl 0 = true → d.blit.run = none →
      (d.blCheck.1 ≠ 0 → ∃ e, Writes (.blCommit src) s src e ∧ e.live = d.live ∧
        e.reg Reg.blChk = chkWord d.blCheck.1 8 d.blCheck.2) ∧
      (d.blCheck.1 = 0 → ∃ e, Writes (.blCommit src) s src e ∧ e.reg Reg.blChk = 0 ∧ ∀ k ∈ blKeys, e.inForce k = d.reg k))

/-- R198, R199, R200, R202: the descriptor whose turn it is begins where the engine is idle: in register mode it is completed with reason
0x10, a refused one with its reason, one that writes nothing with RESULT 0, and any other runs. A command whose segments are all done
ends with RESULT 0. R196, R197, R203, in one segment: a fill of at most 64 pixels of one row gives every pixel of the effective
rectangle the colour, laid out as the format stores it, and changes no other byte of any memory. -/
def Obligations.BlitCommandsRun : Prop :=
  (∀ (s : State), s.dev.clocked = true → s.dev.memReady = true →
     let d := s.dev
     let row (op : Nat) (q : Option (Fin 68)) : Instr :=
       if op = 0 then .blitCopy q 0 else if op = 1 then .blitFill q 0 else if op = 2 then .blitColourKeyCopy q 0
       else .blitGlyphExpansion q 0
     (∀ (r : Fin 68) (id : Nat) (w : Desc), d.blitIdle = true → d.front r [0x10] = some (id, w) → d.blitTurn = some r.val →
       (blitOf w).op < 4 →
       let u := (d.takePassed r 1).setBlit { d.blit with last := r }
       let from' := some (r.val, id, w)
       (d.lb Reg.blCfg 0 = true → Settles (row (blitOf w).op (some r)) s (u.blitEnd from' 0x10 0)) ∧
       (d.lb Reg.blCfg 0 = false → d.blitRefusal (blitOf w) ≠ 0 →
         Settles (row (blitOf w).op (some r)) s (u.blitEnd from' (d.blitRefusal (blitOf w)) 0)) ∧
       (d.lb Reg.blCfg 0 = false → d.blitRefusal (blitOf w) = 0 → d.blitEmpty (blitOf w) = true →
         Settles (row (blitOf w).op (some r)) s (u.blitEnd from' 0 0)) ∧
       (d.lb Reg.blCfg 0 = false → d.blitRefusal (blitOf w) = 0 → d.blitEmpty (blitOf w) = false →
         ∃ e, Settles (row (blitOf w).op (some r)) s e ∧ e.blit.run = some ⟨from', blitOf w, 0⟩ ∧ e.rb Reg.blStat 0 = true ∧
           e.mem = d.mem)) ∧
     (∀ c : BlitCmd, d.blitIdle = true → d.blit.go = some c → c.op < 4 → d.blitRefusal c = 0 → d.blitEmpty c = false →
       ∃ e, Settles (row c.op none) s e ∧ e.blit.run = some ⟨none, c, 0⟩ ∧ e.blit.go = none ∧ e.mem = d.mem) ∧
     (∀ r : BlitRun, d.blit.run = some r → d.blitSegs r.cmd = r.done → r.from' = none → d.blit.commit = false →
       ∃ e, Settles .blitComplete s e ∧ e.blit.run = none ∧ e.rb Reg.blStat 0 = false ∧
         e.reg Reg.blRstat = 2 ||| (d.reg Reg.blRstat &&& 8) ∧ e.rb (Reg.icRaw 3) 0 = true)) ∧
  (∀ (s : State) (c : BlitCmd), s.dev.clocked = true → s.dev.memReady = true → s.dev.blitIdle = true → s.dev.blit.go = some c →
     let d := s.dev
     let t := surfaceOf d.inForce c.dst
     let n := min (c.dx + c.w) t.w - c.dx
     let nb := blitBytes t.fmt
     c.op = 1 → c.clipEn = 0 → d.blitRefusal c = 0 → 0 < n → n ≤ 64 → c.h = 1 → c.dy < t.h → t.fs = false → d.flipArmed 0 = false →
     (∀ a, t.at c.dx c.dy ≤ a → a < t.at c.dx c.dy + nb * n → d.mayTouch 7 0 a 1 true = true ∧ d.mayTouch 7 0 a 1 false = true) →
     ∃ e, Settles (.blitFill none 1) s e ∧ e.blit.run = some ⟨none, c, 1⟩ ∧
       (∀ i, i < n → e.peekN 0 (t.at (c.dx + i) c.dy) nb = c.cola % (if t.fmt = 3 then 16777216 else 2 ^ (8 * nb))) ∧
       ∀ id o, o < 2 ^ 40 → ¬ (id = 0 ∧ t.at c.dx c.dy ≤ o ∧ o < t.at c.dx c.dy + nb * n) → e.peek id o = d.peek id o)

/-- R203, R204: the segments of a command cover each pixel of its effective rectangle once; and where source and destination are the same
surface, no segment's source pixels lie among the destination pixels of an earlier segment, so that every read sees what was there
before the command. -/
def Obligations.OverlapIsSafe : Prop :=
  ∀ (d : Dev) (c : BlitCmd),
    let r := d.blitRect c
    let holds (i x y : Nat) : Prop := (d.blitSeg c i).1 = y ∧ (d.blitSeg c i).2.1 ≤ x ∧ x < (d.blitSeg c i).2.1 + (d.blitSeg c i).2.2
    (∀ x y, (r.1 ≤ x ∧ x < r.2.1 ∧ r.2.2.1 ≤ y ∧ y < r.2.2.2) ↔ ∃ i, i < d.blitSegs c ∧ holds i x y) ∧
    (∀ i j x y, i < d.blitSegs c → j < d.blitSegs c → holds i x y → holds j x y → i = j) ∧
    (c.usesSrc = true → (surfaceOf d.inForce c.src).same (surfaceOf d.inForce c.dst) = true →
      ∀ i j x y x' y', i < j → j < d.blitSegs c → holds i x y → holds j x' y' →
        ¬ (x = x' - c.dx + c.sx ∧ y = y' - c.dy + c.sy))

/-! ### Audio (11) -/

/-- R241, R210, R212, R232: enabling audio is refused where its check fails and else sets EN, applies the set and starts with sample 0;
clearing it is refused while the mix engine is enabled, and else stops every voice and empties the queue; the mix engine needs audio; a
lost master clock stops the ticks until it returns; the PLL that does not lock ends the enable; the delay lines of a valid page take no
writes. -/
def Obligations.AudioSwitches : Prop :=
  ∀ (s : State) (src : Src),
    let d := s.dev
    (WriteOk s src Reg.auCtl →
      (∀ hz, d.rb Reg.auCtl 0 = false → (d.auCheck true hz).1 ≠ 0 →
        Writes (.auEnable src hz) s src (d.refuse Reg.auChk (chkWord (d.auCheck true hz).1 8 (d.auCheck true hz).2))) ∧
      (∀ hz, d.rb Reg.auCtl 0 = false → (d.auCheck true hz).1 = 0 → ∃ e, Writes (.auEnable src hz) s src e ∧
        e.rb Reg.auCtl 0 = true ∧ e.reg Reg.auChk = 0 ∧ e.au.cnt = 0 ∧ e.au.voices = [] ∧ e.au.secs = [] ∧
        (∀ k ∈ auKeys, e.inForce k = d.reg k)) ∧
      (d.rb Reg.auCtl 0 = true → d.rb Reg.mxCtl 0 = true → Writes (.auDisable src) s src (d.refuse Reg.auChk 0x46)) ∧
      (d.rb Reg.auCtl 0 = true → d.rb Reg.mxCtl 0 = false → ∃ e, Writes (.auDisable src) s src e ∧ e.rb Reg.auCtl 0 = false ∧
        e.au.voices = [] ∧ e.au.queue = [] ∧ e.sent = d.sent)) ∧
    (WriteOk s src Reg.auCommit → d.rb Reg.auCtl 0 = true → Writes (.auCommit src) s src (d.setAu { d.au with commit := true })) ∧
    (WriteOk s src Reg.mxCtl →
      (d.rb Reg.mxCtl 0 = false → d.rb Reg.auCtl 0 = false → Writes (.mxEnable src) s src (d.refuse Reg.mxChk 0x45)) ∧
      (d.rb Reg.mxCtl 0 = false → d.rb Reg.auCtl 0 = true → ∃ e, Writes (.mxEnable src) s src e ∧ e.rb Reg.mxCtl 0 = true ∧
        e.reg Reg.mxChk = 0) ∧
      (d.rb Reg.mxCtl 0 = true → ∃ e, Writes (.mxDisable src) s src e ∧ e.rb Reg.mxCtl 0 = false ∧ e.au.retire = true)) ∧
    (∀ (l : Fin 64) (len : Bool) (v : Word), let k := if len then Reg.mxDlylen l else Reg.mxDlybase l
      let named (i : Nat) : Bool := d.rb Reg.mxStat (2 + i) && decide (((d.pageInfo i).dw ||| (d.pageInfo i).dr) / 2 ^ l.val % 2 = 1)
      WriteOk s src k →
      (named 0 = true ∨ named 1 = true → Writes (.delayLineWrite src l len v) s src (d.refuse Reg.mxChk 0x46)) ∧
      (named 0 = false → named 1 = false → ∃ e, Writes (.delayLineWrite src l len v) s src e ∧
        e.reg k = v &&& (if len then 0xFFFFFF else 0xFFFFFFF))) ∧
    (d.clocked = true → d.rb Reg.auCtl 0 = true →
      (d.lb Reg.auClk 0 = true → d.au.lost = false → ∃ e, Acts .mclkLost s e ∧ e.au.lost = true ∧ e.rb Reg.auStat 0 = false ∧
        e.rb Reg.auStat 1 = true ∧ e.auRuns = false ∧ e.rb (Reg.icRaw 6) 6 = true) ∧
      (d.au.lost = true → ∃ e, Acts .mclkRestored s e ∧ e.au = { d.au with lost := false } ∧ e.rb Reg.auStat 0 = true) ∧
      (d.laddered ladAudio = true → d.lb Reg.auClk 0 = false → d.au.cnt = 0 → d.rb Reg.auStat 0 = false →
        ∃ e, Acts .audioPllLockTimeout s e ∧ e.rb Reg.auCtl 0 = false ∧ e.reg Reg.auChk = 0x45))

/-- R215, R216, R217, R222, R235: the next command due takes effect on its voice, gain or section, or changes nothing and is completed with
its reason. -/
def Obligations.AudioCommandsApply : Prop :=
  ∀ (s : State) (c : AuCmd) (rest : List AuCmd), s.dev.clocked = true → s.dev.auRuns = true → s.dev.au.xf = none →
    s.dev.auDue s.dev.au.cnt = c :: rest →
    let d := s.dev
    let w := c.desc
    let u := d.setAu { d.au with queue := d.au.queue.filter (fun e => !(e.ring = c.ring && e.id = c.id)) }
    let n := d.au.cnt
    let refused (i : Instr) (r : Nat) : Prop := Settles i s (u.complete c.ring c.id (auComp w r n))
    (dOp w = 0x30 →
      (d.vstartCheck w ≠ 0 → refused .vstart (d.vstartCheck w)) ∧
      (d.vstartCheck w = 0 → ∃ e, Settles .vstart s e ∧ (e.voice (dN w 16 1)).on = true ∧
        (e.voice (dN w 16 1)).pos = dN w 48 4 * 65536 + dN w 52 2 ∧ (e.voice (dN w 16 1)).pitch = dN w 44 4 ∧
        (e.voice (dN w 16 1)).gl = ⟨0, (dN w 20 2 : Nat), 0, dN w 18 2⟩ ∧ (e.voice (dN w 16 1)).gr = ⟨0, (dN w 22 2 : Nat), 0, dN w 18 2⟩ ∧
        ((d.voice (dN w 16 1)).on = true → e.rb (Reg.auVend (dN w 16 1 / 32)) (dN w 16 1 % 32) = true) ∧
        (∀ v, v ≠ dN w 16 1 → e.voice v = d.voice v))) ∧
    (dOp w = 0x31 → dF w 16 15 10 = 0 → dN w 28 36 = 0 → dN w 24 4 ≤ 0x80000 →
      ((d.voice (dN w 16 1)).on = false → refused .vset 0x0E) ∧
      ((d.voice (dN w 16 1)).on = true → ∃ e, Settles .vset s e ∧
        (e.voice (dN w 16 1)).pitch = (if dF w 16 8 8 = 1 then dN w 24 4 else (d.voice (dN w 16 1)).pitch) ∧
        (e.voice (dN w 16 1)).gl = (if dF w 16 9 9 = 1 then (d.voice (dN w 16 1)).gl.change (dN w 20 2 : Nat) (dN w 18 2)
          else (d.voice (dN w 16 1)).gl) ∧
        (e.voice (dN w 16 1)).pos = (d.voice (dN w 16 1)).pos)) ∧
    (dOp w = 0x32 → dN w 17 1 = 0 → dN w 20 44 = 0 →
      ((d.voice (dN w 16 1)).on = false → refused .vstop 0x0E) ∧
      ((d.voice (dN w 16 1)).on = true → ∃ e, Settles .vstop s e ∧ (e.voice (dN w 16 1)).stop = some (n + dN w 18 2) ∧
        (e.voice (dN w 16 1)).gl = (d.voice (dN w 16 1)).gl.change 0 (dN w 18 2))) ∧
    (dOp w = 0x33 → dN w 17 1 = 0 → dN w 24 40 = 0 → ∃ e, Settles .gset s e ∧
      Tab.get (fun _ => Ramp.zero) e.au.gains (dN w 16 1) =
        (Tab.get (fun _ => Ramp.zero) d.au.gains (dN w 16 1)).change (signed 32 (dN w 20 4)) (dN w 18 2)) ∧
    (dOp w = 0x34 → dN w 16 1 < 128 → dF w 16 15 9 = 0 → dN w 18 2 = 0 → dN w 40 24 = 0 → ∃ e, Settles .bqset s e ∧
      Tab.get (fun _ => sectionInit) e.au.secs (dN w 16 1) =
        [signed 32 (dN w 20 4), signed 32 (dN w 24 4), signed 32 (dN w 28 4), signed 32 (dN w 32 4), signed 32 (dN w 36 4)] ++
          (if dF w 16 8 8 = 1 then [0, 0, 0, 0] else (Tab.get (fun _ => sectionInit) d.au.secs (dN w 16 1)).drop 5))

/-- R226, R234: a page load that passes the checks before its image begins and makes the page not valid; a load read with a wrong check is
refused with event 194, and one without makes the page valid. A swap with no valid page is refused with 0x08, and a hard cut makes the
new page the active one. -/
def Obligations.PagesLoadAndSwap : Prop :=
  ∀ (s : State), s.dev.clocked = true →
    let d := s.dev
    (∀ (r : Fin 68) (id : Nat) (w : Desc), d.front r [0x35] = some (id, w) → d.au.load = none → d.memReady = true →
      let i := ploadPage w
      (dN w 17 7 ≠ 0 → i < 2 → d.activePage ≠ some i → d.au.xf = none → ∃ e, Settles (.pload r) s e ∧ e.au = d.au ∧
        e.rb Reg.mxStat (2 + i) = false ∧ e.reg Reg.mxChk = 0x40 ∧ e.rb (Reg.icRaw 6) 2 = true) ∧
      (∀ n, n = 4 * bitsOf (d.peekN 0 (ploadAddr w + 4) 4) 14 0 → 64 ≤ n → ploadClean w = true → ploadAddr w % 4 = 0 →
        ploadAddr w + n ≤ d.dataCap → d.permits 10 0 (ploadAddr w) n false = true → d.activePage ≠ some i → d.au.xf = none →
        ∃ e, Settles (.pload r) s e ∧ e.au.load = some (r.val, id, w) ∧ e.rb Reg.mxStat (2 + i) = false)) ∧
    (∀ r id w, d.au.load = some (r, id, w) → ploadPage w < 2 →
      let img (k : Nat) : Nat := d.peekN 0 (ploadAddr w + 4 * k) 4
      ((d.imageCheck img).1 ≠ 0 → ∃ e, Settles .pageLoadComplete s e ∧ e.au.load = none ∧ e.rb Reg.mxStat (2 + ploadPage w) = false ∧
        e.reg Reg.mxChk = chkWord (d.imageCheck img).1 8 (d.imageCheck img).2 ∧ e.rb (Reg.icRaw 6) 2 = true) ∧
      ((d.imageCheck img).1 = 0 → ∃ e, Settles .pageLoadComplete s e ∧ e.au.load = none ∧ e.rb Reg.mxStat (2 + ploadPage w) = true ∧
        e.rf (Reg.mxPage (ploadPage w)) 13 0 = bitsOf (img 2) 13 0)) ∧
    (∀ c rest, d.auRuns = true → d.au.xf = none → d.auDue d.au.cnt = c :: rest → dOp c.desc = 0x36 → dN c.desc 16 48 = 0 →
      (d.rb Reg.mxStat 2 = false → d.rb Reg.mxStat 3 = false → d.rb Reg.mxStat 1 = false → ∃ e, Settles .pswap s e ∧
        e.reg Reg.mxChk = 8 ∧ e.rb (Reg.icRaw 6) 2 = true ∧ e.activePage = none) ∧
      (d.rf Reg.mxXfade 12 0 = 0 → (d.swapCheck 0).1 = 0 → ∃ e, Settles .pswap s e ∧ e.activePage = some d.swapPage ∧
        e.au.xf = none ∧ e.rb (Reg.icRaw 6) 1 = true ∧ e.au.wreg.all (fun t => t.1 / 512 ≠ d.swapPage) = true))

/-- R211, R213, R237, R239, R240: a sample tick counts, moves the graph's values one sample on towards the outputs, and raises event 192 at
each multiple of the block length; with no mix engine the graph's values are 0. A serial frame waits for the tick, the last whole frame
is the sample, and a tick with none or with two is a slip. R219, R220, R222, R228, R235: a voice's position stays inside its loop;
interpolation and a biquad's output stay in 24 bits; a section as audio enable leaves it passes its input through; and a gain change
over r samples reaches the value the rule gives after each of them, the target exactly after the last. -/
def Obligations.SampleTickAdvances : Prop :=
  (∀ (s : State), s.dev.clocked = true → s.dev.rb Reg.auCtl 0 = true →
     let d := s.dev
     (d.auRuns = true → d.au.commit = false → d.au.xf = none → d.au.retire = false → d.auDue d.au.cnt = [] → d.au.voices = [] →
       d.rb Reg.mxCtl 0 = false →
       ∃ e, Settles (.sampleTick [] []) s e ∧ e.au.cnt = d.au.cnt + 1 ∧ e.au.g1 = [] ∧ e.au.g2 = d.au.g1 ∧ e.rb Reg.auStat 0 = true ∧
         e.au.out = (if 2 ≤ d.au.cnt then (d.outputStage d.au.g2).1 else []) ∧
         (∀ m, m < 2 → Tab.get (fun _ => []) e.au.frames m = [] ∧
           (d.siOn m = true → Tab.get (fun _ => []) e.au.now m =
             ((Tab.get (fun _ => []) d.au.frames m).getLast?.getD (Tab.get (fun _ => []) d.au.now m))) ∧
           (d.siOn m = true → (Tab.get (fun _ => []) d.au.frames m).length ≠ 1 → e.rb Reg.auSistat m = true)) ∧
         (d.rf Reg.auBlktick 15 0 ≠ 0 → d.au.cnt % d.rf Reg.auBlktick 15 0 = 0 → e.rb (Reg.icRaw 6) 0 = true)) ∧
     (∀ (m : Fin 2) slots, d.lb (Reg.auSiCfg m) 0 = true →
       let frame := slots.take (serialSlots (d.inForce (Reg.auSiCfg m)))
       let fs := Tab.get (fun _ => []) d.au.frames m ++ [frame]
       Acts (.serialInputFrame m slots) s (d.setAu { d.au with frames := Tab.put (fun _ => []) d.au.frames m fs }))) ∧
  ((∀ q : VoiceSt, q.loop = true → q.loops < q.loope → q.nextPos / 65536 < q.loope) ∧
   (∀ herm f a b c e, -8388608 ≤ interpolate herm f a b c e ∧ interpolate herm f a b c e ≤ 8388607) ∧
   (∀ b c : Int, -8388608 ≤ b → b ≤ 8388607 → ∀ a e, interpolate false 0 a b c e = b ∧ interpolate true 0 a b c e = b) ∧
   (∀ c x, -8388608 ≤ (biquad c x).1 ∧ (biquad c x).1 ≤ 8388607 ∧ (biquad c x).2.1.length = 9) ∧
   (∀ x y1 y2 x1 x2 : Int, -8388608 ≤ x → x ≤ 8388607 →
     biquad [1073741824, 0, 0, 0, 0, x1, x2, y1, y2] x = (x, [1073741824, 0, 0, 0, 0, x, x1, x, y1], false)) ∧
   (∀ (g : Ramp) (g1 : Int) (r k : Nat), 0 < k →
     let h := Nat.repeat Ramp.step k (g.change g1 r)
     (k < r → h.val = g.val + Int.tdiv ((g1 - g.val) * k) r) ∧ (r ≤ k → h.val = g1)) ∧
   (∀ code : List Nat, staticCount (code ++ [0x4000000]) = staticCount code ∧ staticCount (code ++ [0]) = staticCount code + 1))

/-! ### The host interface (12) -/

/-- R270, R268, R248: the function's enable and a ring's enable are refused by the first check that fails; a passing one sets EN, the ring
empty; HI_COMMIT is taken at the next master frame start; disabling a ring discards what was not passed and leaves what was. -/
def Obligations.HostEnables : Prop :=
  ∀ (s : State) (src : Src),
    let d := s.dev
    let f := srcFn src
    (WriteOk s src (Reg.hiCtl f) → d.rb (Reg.hiCtl f) 0 = false →
      (d.hiCheck f ≠ 0 → Writes (.hiEnable src) s src (d.refuse (Reg.hiChk f) (chkWord (d.hiCheck f) 8 0x7F))) ∧
      (d.hiCheck f = 0 → ∃ e, Writes (.hiEnable src) s src e ∧ e.rb (Reg.hiCtl f) 0 = true ∧ e.reg (Reg.hiChk f) = 0 ∧
        e.rf (Reg.hiStat f) 31 16 = 0)) ∧
    (f = 0 → WriteOk s src (Reg.hiCommit 0) → Writes (.hiCommit src) s src (d.setFn 0 { d.fn 0 with commit := true })) ∧
    (∀ r : Fin 68, WriteOk s src (Reg.hiRingCfg r) →
      (d.ringEn r = false → d.ringCheck r ≠ 0 →
        Writes (.ringEnable src r) s src (d.refuse (Reg.hiChk (ringFn r)) (chkWord (d.ringCheck r) 8 (ringNo r)))) ∧
      (d.ringEn r = false → d.ringCheck r = 0 → ∃ e, Writes (.ringEnable src r) s src e ∧ e.ringEn r = true ∧
        e.ring r = RingSt.init ∧ e.reg (Reg.hiChk (ringFn r)) = 0) ∧
      (d.ringEn r = true → d.inGroup r = false → ∃ e, Writes (.ringDisable src r) s src e ∧ e.ringEn r = false ∧
        (e.ring r).fetched = [] ∧ (e.ring r).passed = (d.ring r).passed ∧ (e.ring r).head = (d.ring r).head ∧
        ((e.ring r).issue = (d.ring r).issue)))

/-- R249, R255, R263: a sample gives a ring its tail and completion-queue head; a tail more than SIZE ahead of HEAD stops the ring's
fetching with ERR and one refusal 0x21, and the old tail stands. R251, R253, R258, R260, R263: outside a scene group the front
descriptor of an enabled ring waits while the completion queue is full, behind its fence, for its deadline and for its engine; one that
breaks a rule of the header is refused with its reason; any other is passed, and HEAD counts both. -/
def Obligations.DescriptorsPass : Prop :=
  (∀ (d : Dev) (ws : List Word) (r : Fin 68), d.ringEn r = true → (d.ring r).err = false →
     let q := d.ring r
     let t := (ws.getD (ringNo r) 0).toNat
     let c := (ws.getD (64 + ringNo r) 0).toNat
     ((t + 2 ^ 32 - q.head) % 2 ^ 32 ≤ d.ringSize r → d.sampleRing ws r = d.setRing r { q with tail := t, cqHead := c }) ∧
     (d.ringSize r < (t + 2 ^ 32 - q.head) % 2 ^ 32 → ((d.sampleRing ws r).ring r).err = true ∧
       ((d.sampleRing ws r).ring r).tail = q.tail ∧ (d.sampleRing ws r).ringFetches r = false ∧
       ((d.sampleRing ws r).ring r).issue = q.issue ++ [(q.head, some ⟨0, 0, 0x2101, 0, 0, false⟩)])) ∧
  (∀ (d : Dev) (r : Fin 68) (w : Desc) (rest : List Desc), d.ringEn r = true → (d.ring r).stopped = false →
     (d.ring r).fetched = w :: rest → d.inGroup r = false →
     let q := d.ring r
     let took (e : Dev) : Prop := (e.ring r).fetched = rest ∧ (e.ring r).head = (q.head + 1) % 2 ^ 32
     (d.cqFull r = true → d.passOne r = none) ∧
     (dFence w = true → q.issue ≠ [] → d.passOne r = none) ∧
     (d.cqFull r = false → (dFence w = true → q.issue = []) →
       (d.hiRefusal r w ≠ 0 → ∃ e, d.passOne r = some e ∧ took e ∧ (e.ring r).passed = q.passed ∧
         (e.ring r).issue = q.issue ++ [(q.head, some (compOf w (BitVec.ofNat 32 (1 + d.hiRefusal r w * 256)) 0 0))]) ∧
       (d.hiRefusal r w = 0 → d.heldByDeadline r w = true ∨ d.engineTakes r = false → d.passOne r = none) ∧
       (d.hiRefusal r w = 0 → d.heldByDeadline r w = false → d.engineTakes r = true → d.ringType r ≠ 4 →
         ∃ e, d.passOne r = some e ∧ took e ∧ (e.ring r).passed = [(q.head, w)] ∧ (e.ring r).issue = q.issue ++ [(q.head, none)])))

/-- R243, R251, R255, R258, R262, R264: a poll asks for the doorbell page or is counted as skipped; the page's words are the sample; a
descriptor that arrives joins its ring; a completion with room is written, with its event; mail goes into the line processor's data
memory or is refused with 0x44. -/
def Obligations.RingTraffic : Prop :=
  ∀ (s : State), s.dev.clocked = true →
    let d := s.dev
    (d.time.pollDue = true → d.rb (Reg.hiCtl 0) 0 = true → d.rb (Reg.hiCtl 1) 0 = false →
      ((d.fn 0).bme = true → (d.fn 0).dbOut = false → d.link = true → ∃ e, Settles .doorbellPoll s e ∧ (e.fn 0).dbOut = true ∧
        e.time.pollDue = false ∧
        e.sent = d.sent ++ [.hostRead 0 ((d.reg (Reg.hiDbbaseLo 0)).toNat + (d.reg (Reg.hiDbbaseHi 0)).toNat * 2 ^ 32) 0x204]) ∧
      ((d.fn 0).bme = false ∨ (d.fn 0).dbOut = true → ∃ e, Settles .doorbellPoll s e ∧ e.sent = d.sent ∧
        e.rf (Reg.hiStat 0) 31 16 = min 65535 (d.rf (Reg.hiStat 0) 31 16 + 1))) ∧
    (∀ (f : Fin 2) ws, (d.fn f).dbOut = true →
      let u := d.setFn f { d.fn f with dbOut := false, eqHead := (ws.getD 128 0).toNat }
      Settles (.doorbellReadComplete f ws) s (((fnRings f).foldl (fun (d : Dev) r => d.sampleRing ws r) u).pumpAll)) ∧
    (∀ r : Fin 68,
      (∀ w, d.ringEn r = true → (d.ring r).stopped = false → (d.ring r).unread = false → (d.ring r).outstanding ≠ 0 →
        (d.ring r).fetched.length < 8 →
        Settles (.descriptorArrival r w) s ((d.setRing r { d.ring r with fetched := (d.ring r).fetched ++ [w] }).pump r)) ∧
      Acts (.deadlineRelease r) s (d.pump r) ∧
      (∀ id c rest, (d.ring r).issue = (id, some c) :: rest → r.val < 64 → d.cqFull r = false → d.link = true → (d.fn 0).bme = true →
        ∃ u : Dev, Settles (.completionWrite r) s (u.pump r) ∧ (u.ring r).issue = rest ∧
          (u.ring r).comps = ((d.ring r).comps + 1) % 2 ^ 32 ∧
          u.sent = d.sent ++ [.hostWrite 0 (d.addr64 (Reg.hiRingCqLo r) (Reg.hiRingCqHi r) + 16 * ((d.ring r).comps % d.ringSize r))
            (compBytes c ((d.ring r).comps / d.ringSize r % 2 = 0))] ∧
          (c.irq = true ∨ c.failed = true → u.rb (Reg.icRaw ((128 + r) / 32)) ((128 + r) % 32) = true)) ∧
      (∀ id w, d.front r [0x40] = some (id, w) → mboxOk w = true →
        let pl := placeFn0 (0x900000 + 0x40000 * mbLp w + 0x20000 + mbOff w)
        (d.permits 0 pl.target pl.off (mbLen w) true = false → Settles (.mbox r) s
          (((d.takePassed r 1).violate 0 0 pl.target true pl.off).complete r id (compOf w 0x4401 0 0))) ∧
        (d.permits 0 pl.target pl.off (mbLen w) true = true → d.flipArmed (11 + mbLp w) = false → ∃ e, Settles (.mbox r) s e ∧
          e.peekN (11 + mbLp w) (mbOff w) (mbLen w) = dN w 24 (mbLen w))))

/-- R265, R266, R267, R243, R436, R247: a failed read of the doorbell page raises event 504 and the sample stands; a failed descriptor read
stops its ring; a completion or an event queue that waits too long is recorded once; the loss of the link stops every ring and raises
event 7, as its return does; a configuration request is answered once the function is ready; an unmasked vector sends the message it
owes. -/
def Obligations.HostTrouble : Prop :=
  ∀ (s : State) (f : Fin 2) (r : Fin 68),
    let d := s.dev
    (d.clocked = true → (d.fn f).dbOut = true → ∃ e, Settles (.hostReadTimeout (.doorbell f)) s e ∧ (e.fn f).dbOut = false ∧
      e.rings = d.rings ∧ e.rb (Reg.hiStat f) 0 = true ∧ e.rb (Reg.icRaw 15) 24 = true) ∧
    (d.clocked = true → d.ringEn r = true → (d.ring r).stopped = false → (d.ring r).unread = false → (d.ring r).outstanding ≠ 0 →
      ∃ u : Dev, Settles (.hostReadTimeout (.descriptor r)) s (u.pump r) ∧ (u.ring r).err = true ∧ (u.ring r).unread = true ∧
        u.rb (Reg.hiStat (ringFn r)) 0 = true ∧ u.rb (Reg.icRaw 15) 24 = true) ∧
    (d.clocked = true → d.cqWaits r = true → (d.ring r).stalled = false → d.rf (Reg.hiStallto (ringFn r)) 7 0 ≠ 0 →
      ∃ e, Acts (.stallTimeout (.ring r)) s e ∧ (e.ring r).stalled = true ∧ e.rf (Reg.hiStat (ringFn r)) 7 1 = ringNo r ∧
        e.rb (Reg.icRaw 15) 24 = true) ∧
    (d.clocked = true → d.eqFull f = true → (d.fn f).eqStall = false → d.rf (Reg.hiStallto f) 7 0 ≠ 0 →
      ∃ e, Acts (.stallTimeout (.eventQueue f)) s e ∧ (e.fn f).eqStall = true ∧ e.rf (Reg.hiStat f) 7 1 = 0x7F ∧
        e.rb (Reg.icRaw 15) 24 = true) ∧
    (d.power ≠ 3 → d.link = true → d.ringEn r = true → ∃ e, Acts .pcieLinkDown s e ∧ e.link = false ∧ (e.ring r).stopped = true ∧
      e.rb (Reg.icRaw 0) 7 = true) ∧
    (d.power ≠ 3 → d.link = false → Acts .pcieLinkUp s ({ d with link := true }.raise 7)) ∧
    (∀ bme, d.clocked = true → d.link = true →
      (d.rb Reg.pwrStat f = false → Settles (.configurationRequest f bme) s (d.send (.config f false))) ∧
      (d.rb Reg.pwrStat f = true → ∃ e, Settles (.configurationRequest f bme) s e ∧ (e.fn f).bme = bme.getD (d.fn f).bme ∧
        e.sent = d.sent ++ [.config f true])) ∧
    (∀ v : Fin 64, WriteOk s (fnSrc f) (Reg.hiMsixT f (4 * v + 3)) → d.link = true → (d.fn f).bme = true →
      d.rb (Reg.hiMsixP f (v / 32)) (v % 32) = true → ∃ e, Writes (.msixUnmask f v) s (fnSrc f) e ∧
        e.rb (Reg.hiMsixT f (4 * v + 3)) 0 = false ∧ e.rb (Reg.hiMsixP f (v / 32)) (v % 32) = false ∧ e.sent = d.sent ++ [.msix f v])

/-! ### Local memory, codes and the asset store (13) -/

/-- R273, R296: MEM_CTL.EN asks for its start; trained memory is ready and reads 0 throughout, a failure on a channel or a density that
disagrees with SIZE ends the enable with 0x01 or 0x02; clearing EN is refused with 0x46 while a block that uses LPDDR5 is enabled; MR4's
highest code shows in MEM_STAT.TEMP. -/
def Obligations.LocalMemorySwitches : Prop :=
  ∀ (s : State) (src : Src),
    let d := s.dev
    (WriteOk s src Reg.memCtl →
      (d.rb Reg.memCtl 0 = false → ∃ e, Writes (.memEnable src) s src e ∧ e.rb Reg.memCtl 0 = true ∧ e.reg Reg.memChk = 0 ∧
        e.mem = d.mem ∧ e.syn = d.syn) ∧
      (d.rb Reg.memCtl 0 = true → d.memUsed = true → Writes (.memDisable src) s src (d.refuse Reg.memChk 0x46)) ∧
      (d.rb Reg.memCtl 0 = true → d.memUsed = false → ∃ e, Writes (.memDisable src) s src e ∧ e.rb Reg.memCtl 0 = false ∧
        e.memReady = false ∧ e.mem = d.mem)) ∧
    (d.clocked = true → d.rb Reg.memCtl 0 = true → d.laddered ladMem = true → d.memReady = false →
      (d.memc.held = [] → ∃ e, Settles (.memReady 0 false) s e ∧ e.memReady = true ∧ e.rf Reg.memStat 4 1 = 0 ∧
        (∀ off, off < 2 ^ 34 → e.peek 0 off = 0) ∧ (∀ id off, 1 ≤ id → e.peek id off = d.peek id off)) ∧
      (∀ (fail : BitVec 4) density, fail ≠ 0 → ∃ e, Settles (.memReady fail density) s e ∧ e.memReady = false ∧
        e.rb Reg.memCtl 0 = false ∧ e.reg Reg.memChk = 1 ∧ e.rf Reg.memStat 4 1 = fail.toNat ∧ e.rb (Reg.icRaw 0) 0 = true) ∧
      (∃ e, Settles (.memReady 0 true) s e ∧ e.memReady = false ∧ e.rb Reg.memCtl 0 = false ∧ e.reg Reg.memChk = 2 ∧
        e.rb (Reg.icRaw 0) 0 = true)) ∧
    (∀ code, d.clocked = true → d.memReady = true → Acts (.refresh code) s (d.setRf Reg.memStat 7 5 code.toNat))

/-- R274, R275, R279, R284: a word written reads back; one flipped bit is corrected wherever it lies, two are found uncorrectable, a
poisoned word reads uncorrectable; and an armed flip is applied once. -/
def Obligations.CodesCorrectOneBit : Prop :=
  ∀ (d : Dev) (id a v i j : Nat), id < 20 → v < 2 ^ (8 * wordBytes id) → i < 8 * wordBytes id → j < i →
    let wb := wordBytes id
    let mask := d.rf Reg.edcFlipDlo 31 0 + (if wb = 8 then d.rf Reg.edcFlipDhi 31 0 * 2 ^ 32 else 0)
    let check := d.rf Reg.edcFlipC 7 0
    let e := d.storeWord id a v false
    (d.flipArmed id = false → e.decodeWord a wb = .good v ∧ (d.storeWord id a v true).decodeWord a wb = .bad) ∧
    (d.flipArmed id = true → e.flipArmed id = false ∧
      (mask = 2 ^ i → check = 0 → e.decodeWord a wb = .corrected v i) ∧
      (∀ k, k < (if wb = 8 then 8 else 7) → mask = 0 → check = 2 ^ k → e.decodeWord a wb = .corrected v (8 * wb + k)) ∧
      (mask = 2 ^ i + 2 ^ j → check = 0 → e.decodeWord a wb = .bad)) ∧
    (∀ b, d.byte b = e.byte b ∨ (a ≤ b ∧ b < a + wb)) ∧ (∀ b, b ≠ a → e.synd b = d.synd b)

/-- R276, R279, R280 to R284: a corrected read counts in its memory's group and changes no memory, and passes the group's threshold by
starting again at 0 with the group's event; an uncorrectable one raises its memory's event and is recorded; a leak takes one from each
nonzero count; the scrubber writes a corrected word back, leaves an uncorrectable one, and counts its passes; a flip is armed but for
reserved memories, and by master 1 alone for the ledger SRAM. -/
def Obligations.ErrorsCountedAndScrubbed : Prop :=
  ∀ (s : State),
    let d := s.dev
    (∀ id m a v b, id < 20 → d.decodeWord a (wordBytes id) = .corrected v b →
      let g := memGroup id
      let n := min 65535 (d.rf (Reg.edcCnt g) 15 0 + 1)
      let e := d.noteRead id m a
      e.mem = d.mem ∧ e.syn = d.syn ∧
      (n ≤ d.rf (Reg.edcCnt g) 31 16 → e.rf (Reg.edcCnt g) 15 0 = n ∧ e.ic = d.ic) ∧
      (d.rf (Reg.edcCnt g) 31 16 < n → e.rf (Reg.edcCnt g) 15 0 = 0 ∧ e.rb (Reg.icRaw 8) (2 * g) = true) ∧
      (b < 72 → m < 16 → e.rf (Reg.edcLogSrc g) 4 0 = id ∧ e.rf (Reg.edcLogSrc g) 14 8 = b ∧ e.rf (Reg.edcLogSrc g) 19 16 = m)) ∧
    (∀ id m a, id < 20 → m < 16 → d.decodeWord a (wordBytes id) = .bad → let e := d.noteRead id m a
      e.mem = d.mem ∧ e.rb (Reg.icRaw (memEvent id / 32)) (memEvent id % 32) = true ∧ e.rf Reg.edcUe 4 0 = id ∧ e.rf Reg.edcUe 11 8 = m ∧
      e.rf Reg.edcUe 31 16 = min 65535 (d.rf Reg.edcUe 31 16 + 1)) ∧
    (d.clocked = true → d.rf Reg.edcLeak 15 0 ≠ 0 → (∀ g, g < 4 → d.rf (Reg.edcCnt g) 15 0 - 1 ≤ d.rf (Reg.edcCnt g) 31 16) →
      ∃ e, Acts .leakTick s e ∧ ∀ g, g < 4 → e.rf (Reg.edcCnt g) 15 0 = d.rf (Reg.edcCnt g) 15 0 - 1) ∧
    (d.clocked = true → d.rf Reg.edcScrub 15 0 ≠ 0 → d.memReady = true → d.permits 15 0 (64 * d.memc.scrubL) 64 false = true →
      d.flipArmed 0 = false →
      ∃ e, Acts (.scrubRead false) s e ∧
        (∀ i, i < 8 → let a := 64 * d.memc.scrubL + 8 * i
          (∀ v b, d.decodeWord a 8 = .corrected v b → e.decodeWord a 8 = .good v) ∧
          (d.decodeWord a 8 = .bad → e.decodeWord a 8 = .bad ∧ e.rb (Reg.icRaw 8) 1 = true)) ∧
        (64 * d.memc.scrubL + 64 < d.dataCap → e.memc.scrubL = d.memc.scrubL + 1) ∧
        (d.dataCap ≤ 64 * d.memc.scrubL + 64 → e.memc.scrubL = 0 ∧ e.rb (Reg.icRaw 8) 11 = true ∧
          e.rf Reg.edcScrubstat 15 0 = (d.rf Reg.edcScrubstat 15 0 + 1) % 65536)) ∧
    (d.clocked = true → d.rf Reg.edcScrub 31 16 ≠ 0 → d.memc.scrubS = 2097151 → ∃ e, Acts (.scrubRead true) s e ∧ e.memc.scrubS = 0 ∧
      e.rb (Reg.icRaw 8) 11 = true) ∧
    (∀ src v, WriteOk s src Reg.edcFlipSel → bit v 31 = true →
      (fld v 4 0 < 20 → fld v 4 0 ≠ 18 ∨ src = .custodian → ∃ e, Writes (.flipArm src v) s src e ∧ e.flipArmed (fld v 4 0) = true) ∧
      (20 ≤ fld v 4 0 → Writes (.flipArm src v) s src ((d.setRf Reg.edcFlipSel 15 8 0x40).raise 0)) ∧
      (fld v 4 0 = 18 → src ≠ .custodian → Writes (.flipArm src v) s src ((d.setRf Reg.edcFlipSel 15 8 0x43).raise 0)))

/-- R285, R290 to R296: the asset store's enable is refused by the first check that fails; an AREAD of one sector writes its bytes to DST
and no other byte of LPDDR5, and completes; the patrol reads a page and steps on; an erase and a program go to the block the remap table
names, and Read Status sets DONE or FAIL. -/
def Obligations.AssetStoreRuns : Prop :=
  ∀ (s : State) (src : Src),
    let d := s.dev
    (∀ (bad : Option (Fin 16)) n luns, WriteOk s src Reg.asCtl → d.rb Reg.asCtl 0 = false →
      let c := d.asCheck (bad.map (·.val)) n luns
      (c.1 ≠ 0 → Writes (.asEnable src bad n luns) s src (d.refuse Reg.asChk (chkWord c.1 8 c.2))) ∧
      (c.1 = 0 → ∃ e, Writes (.asEnable src bad n luns) s src e ∧ e.rb Reg.asCtl 0 = true ∧ e.reg Reg.asChk = 0)) ∧
    (∀ (r : Fin 68) id w bs corr, d.clocked = true → d.rb Reg.asCtl 0 = true → d.laddered ladAs = true → d.memReady = true →
      d.asset.run = none → d.assetTurn = some r.val → d.front r [0x50] = some (id, w) → arClean w = true →
      arSrc w % 8 = 0 → arDst w % 8 = 0 → arLen w % 8 = 0 → 0 < arLen w → arSrc w % 1024 + arLen w ≤ 1024 →
      d.mayTouch 11 0 (d.remapOff (arSrc w / d.blockBytes)) 4 false = true → d.badAt 0 (d.remapOff (arSrc w / d.blockBytes)) 4 = false →
      (∀ i, i < arLen w / 4 → d.mayTouch 11 0 (arDst w + 4 * i) 4 true = true) →
      d.flipArmed 0 = false → d.flipArmed 19 = false → corr ≤ 72 → List.length bs = 1024 →
      d.permits 11 3 (arSrc w) (arLen w) false = true →
      let ent := d.peekN 0 (d.remapOff (arSrc w / d.blockBytes)) 4
      bitsOf ent 31 31 = 1 → d.inPartition ent = false →
      ∃ e, Settles (.aread r [.decoded bs corr 0]) s e ∧
        (∀ i, i < arLen w → e.peek 0 (arDst w + i) = bs.getD (arSrc w % 1024 + i) 0) ∧
        (∀ o, o < 2 ^ 40 → ¬ (arDst w ≤ o ∧ o < arDst w + arLen w) → e.peek 0 o = d.peek 0 o) ∧
        ∃ q : AreadRun, e.asset.run = some q ∧ q.ring = r.val ∧ q.id = id ∧ q.desc = w ∧ q.done = arLen w ∧ q.lost = 0 ∧ q.bad = false ∧
          q.corr = corr) ∧
    (∀ q : AreadRun, d.clocked = true → d.asset.run = some q → q.done = arLen q.desc →
      Settles (.areadComplete []) s (d.areadEnd q (if q.bad then 6 else 0))) ∧
    (∀ l ent, d.clocked = true → d.rb Reg.asCtl 0 = true → d.laddered ladAs = true → d.rf Reg.asPatrol 15 0 ≠ 0 → d.memReady = true →
      d.asset.pcmd = none → d.asset.run = none → d.nextValid d.logicalBlocks (d.asset.patrol / d.blockPages) = some (l, ent) →
      ∃ e, Acts (.patrolRead []) s e ∧ e.mem = d.mem ∧
        e.asset.patrol = (l * d.blockPages + (if l = d.asset.patrol / d.blockPages then d.asset.patrol % d.blockPages else 0) + 1) %
          (d.logicalBlocks * d.blockPages)) ∧
    (∀ (lb : BitVec 20) (pg : BitVec 10), WriteOk s src Reg.asPcmd → d.rb Reg.asPstat 0 = false → d.rb Reg.asCtl 0 = true →
      pg.toNat < d.blockPages →
      let c := d.remap lb.toNat
      (c.1.1 ≠ 0 → ∃ e, (Writes (.blockErase src lb) s src e ∧ Writes (.pageProgram src lb pg) s src e) ∧ e.rf Reg.asPstat 15 8 = c.1.1 ∧
        e.sent = d.sent ∧ e.rb Reg.asPstat 0 = false) ∧
      (c.1.1 = 0 → (d.permits 11 3 (lb.toNat * d.blockBytes) d.blockBytes true = true → ∃ e, Writes (.blockErase src lb) s src e ∧ e.rb Reg.asPstat 0 = true ∧ e.mem = d.mem ∧
          e.sent = d.sent ++ [.flash 1 (flashAddr c.1.2 0) []]) ∧
        (d.mayTouch 11 0 (d.rf Reg.asPbuf 27 0 * 64) (1024 * d.pageSectors) false = true →
          d.permits 11 3 (lb.toNat * d.blockBytes + pg.toNat * 1024 * d.pageSectors) (1024 * d.pageSectors) true = true →
          ∃ e bs, Writes (.pageProgram src lb pg) s src e ∧ e.rb Reg.asPstat 0 = true ∧ e.mem = d.mem ∧
            e.sent = d.sent ++ [.flash 2 (flashAddr c.1.2 pg.toNat) (pageImage d.pageSectors bs)] ∧
            (d.badAt 0 (d.rf Reg.asPbuf 27 0 * 64) (1024 * d.pageSectors) = false →
              ∀ i, i < 1024 * d.pageSectors → bs.getD i 0 = d.peek 0 (d.rf Reg.asPbuf 27 0 * 64 + i))))) ∧
    (d.clocked = true → d.asset.pcmd ≠ none →
      (∃ e, Acts (.pcmdComplete true) s e ∧ e.rb Reg.asPstat 0 = false ∧ e.rb Reg.asPstat 1 = true ∧ e.rb Reg.asPstat 2 = d.rb Reg.asPstat 2) ∧
      (∃ e, Acts (.pcmdComplete false) s e ∧ e.rb Reg.asPstat 0 = false ∧ e.rb Reg.asPstat 1 = true ∧ e.rb Reg.asPstat 2 = true))

/-! ### The Flume (14) -/

/-- R306, R308, R309, R311: enabling or committing checks the chunk set; clearing EN is refused with 0x46 while a channel works; an idle
channel stops at STOP and runs again when it is cleared; a bus error stops every channel, ends every descriptor with 0x04, raises event
304 once and records the first fault; RESUME returns every stopped channel and clears the record. R302, R306: a descriptor that has
moved all its bytes, or found its mismatch, is completed with its DONE and OFFSET; a mismatch raises event 305, and a channel told to
stop enters STOPPED. -/
def Obligations.FlumeSwitches : Prop :=
  (∀ (s : State) (src : Src) (ch : Fin 32),
     let d := s.dev
     (WriteOk s src Reg.fmCtl →
       (d.rb Reg.fmCtl 0 = false → (d.fmSetCheck false).1 ≠ 0 → Writes (.fmEnable src) s src
         (d.refuse Reg.fmChk (chkWord (d.fmSetCheck false).1 8 (d.fmSetCheck false).2))) ∧
       (d.rb Reg.fmCtl 0 = false → (d.fmSetCheck false).1 = 0 → ∃ e, Writes (.fmEnable src) s src e ∧ e.rb Reg.fmCtl 0 = true ∧
         e.reg Reg.fmChk = 0 ∧ ∀ n, n < 32 → e.fmChunks n = d.rf (Reg.fmnCfg n) 4 0) ∧
       (d.rb Reg.fmCtl 0 = true → (∀ n, n < 32 → d.fm n = none) → ∃ e, Writes (.fmDisable src) s src e ∧ e.rb Reg.fmCtl 0 = false) ∧
       (d.rb Reg.fmCtl 0 = true → d.fm ch ≠ none → (∀ n, n < ch.val → d.fm n = none) →
         Writes (.fmDisable src) s src (d.refuse Reg.fmChk (chkWord 0x46 8 ch))) ∧
       (d.rb Reg.fmStat 0 = true → d.fmState ch = 2 → ∃ e, Writes (.resume src) s src e ∧ e.rb Reg.fmStat 0 = false ∧
         e.reg Reg.fmFault = 0 ∧ e.fmState ch = (if d.rb (Reg.fmnCtl ch) 0 then 1 else 0) ∧
         (d.rb (Reg.fmnCtl ch) 0 = true → e.rb (Reg.icRaw ((272 + ch) / 32)) ((272 + ch) % 32) = true))) ∧
     (WriteOk s src Reg.fmCommit → d.rb Reg.fmCtl 0 = true →
       ((d.fmSetCheck true).1 ≠ 0 → Writes (.fmCommit src) s src
         (d.refuse Reg.fmChk (chkWord (d.fmSetCheck true).1 8 (d.fmSetCheck true).2))) ∧
       ((d.fmSetCheck true).1 = 0 → ∃ e, Writes (.fmCommit src) s src e ∧ ∀ n, n < 32 → e.fmChunks n = d.rf (Reg.fmnCfg n) 4 0)) ∧
     (WriteOk s src (Reg.fmnCtl ch) →
       (d.fmState ch = 0 → d.fm ch = none → ∃ e, Writes (.channelStop src ch) s src e ∧ e.fmState ch = 1 ∧
         e.rb (Reg.fmnCtl ch) 0 = true ∧ e.rb (Reg.icRaw ((272 + ch) / 32)) ((272 + ch) % 32) = true) ∧
       (d.fmState ch = 0 → d.fm ch ≠ none → Writes (.channelStop src ch) s src (d.setRb (Reg.fmnCtl ch) 0 true)) ∧
       (d.fmState ch = 1 → ∃ e, Writes (.channelRun src ch) s src e ∧ e.fmState ch = 0 ∧ e.rb (Reg.fmnCtl ch) 0 = false)) ∧
     (∀ x : FlumeFault, d.clocked = true → x.cause ≠ 0 → d.rb Reg.fmStat 0 = false → d.fm ch ≠ none →
       ∃ e, Settles (.busError x) s e ∧ e.rb Reg.fmStat 0 = true ∧ (∀ n, n < 32 → e.fm n = none ∧ e.fmState n = 2) ∧
         e.rb (Reg.icRaw 9) 16 = true ∧ e.rf Reg.fmFault 2 0 = x.cause.toNat ∧ e.rf Reg.fmFault 4 3 = x.space.toNat ∧
         e.rb Reg.fmFault 5 = x.write ∧ e.rb Reg.fmFault 7 = (x.write && x.chan.isSome) ∧ e.rb Reg.fmFault 13 = false ∧
         e.reg Reg.fmFaddrLo = x.addr.truncate 32 ∧ e.mem = d.mem)) ∧
  (∀ (s : State) (ch : Fin 32) (q : FmRun), s.dev.clocked = true → s.dev.fm ch = some q → q.over = true →
     let d := s.dev
     ∃ e, Settles (.flumeDescriptorComplete ch []) s e ∧ e.fm ch = none ∧ e.rb (Reg.fmnStat ch) 3 = false ∧ e.mem = d.mem ∧
       (e.ring q.ring).issue = (d.ring q.ring).issue.map (fun x => if x.1 = q.id ∧ x.2 = none then (q.id, some (compOf q.desc
         (if q.mism.isSome then 2 else 0) (BitVec.ofNat 32 q.done) (BitVec.ofNat 32 (q.mism.getD 0xFFFFFFFF)))) else x) ∧
       (q.mism.isSome = true → e.rb (Reg.icRaw 9) 17 = true) ∧
       (d.rb (Reg.fmnCtl ch) 0 = true → e.fmState ch = 1 ∧ e.rb (Reg.icRaw ((272 + ch) / 32)) ((272 + ch) % 32) = true))

/-- R299, R300, R301, R305: a descriptor that fails a check ends with its reason, one of length 0 ends with RESULT 0; within one piece and
between local spaces a FILL gives the region the constant, a COPY gives it the source's bytes, both changing no byte elsewhere, and a
COMPARE counts the equal bytes up to the first difference. -/
def Obligations.FlumeDescriptorsMove : Prop :=
  ∀ (s : State) (r : Fin 68) (id : Nat) (w : Desc) (op : Nat), s.dev.clocked = true → s.dev.memReady = true → s.dev.rb Reg.fmCtl 0 = true →
    s.dev.laddered ladFlume = true → s.dev.ringType r = 3 → s.dev.fm (s.dev.ringUnit r) = none → s.dev.fmState (s.dev.ringUnit r) = 0 →
    s.dev.front r [op] = some (id, w) → 0x20 ≤ op → op ≤ 0x22 → s.dev.rb Reg.edcFlipSel 31 = false →
    let d := s.dev
    let n := d.ringUnit r
    let row (upTo : Nat) : Instr := if op = 0x20 then .copy r upTo [] else if op = 0x21 then .fill r upTo [] else .compare r upTo []
    let dm := fmMem (fmDspace w)
    let sm := fmMem (fmSspace w)
    let own := ringFn r
    let atOnce (c : Nat) : Prop := ∀ k, Settles (row k) s ((d.takePassed r 1).fmFinish n ⟨r, id, w, 0, none⟩ c)
    (d.fmCheck n w ≠ 0 → atOnce (d.fmCheck n w)) ∧ (d.fmCheck n w = 0 → fmLen w = 0 → atOnce 0) ∧
    (d.fmCheck n w = 0 → 0 < fmLen w → fmLen w + (if op = 0x21 then fmDst w else fmSrc w) % 2048 ≤ 2048 → fmDspace w ≠ 0 →
      (∀ i, i < fmLen w → d.fmMay own dm (fmDst w + i) 1 true = true ∧ d.fmMay own dm (fmDst w + i) 1 false = true) →
      (op ≠ 0x21 → fmSspace w ≠ 0 ∧ ∀ i, i < fmLen w → d.fmMay own sm (fmSrc w + i) 1 false = true ∧ d.badAt sm (fmSrc w + i) 1 = false) →
      (op = 0x21 → ∃ e, Settles (row (fmLen w)) s e ∧ e.fm n = some ⟨r, id, w, fmLen w, none⟩ ∧ e.rb (Reg.fmnStat n) 3 = true ∧
        (∀ i, i < fmLen w → e.peek dm (fmDst w + i) = BitVec.ofNat 8 (fmValue w / 2 ^ (8 * ((fmDst w + i) % 4)))) ∧
        (∀ m o, o < 2 ^ 40 → ¬ (m = dm ∧ fmDst w ≤ o ∧ o < fmDst w + fmLen w) → e.peek m o = d.peek m o)) ∧
      (op = 0x20 → ∃ e, Settles (row (fmLen w)) s e ∧ e.fm n = some ⟨r, id, w, fmLen w, none⟩ ∧
        (∀ i, i < fmLen w → e.peek dm (fmDst w + i) = d.peek sm (fmSrc w + i)) ∧
        (∀ m o, o < 2 ^ 40 → m ≠ 17 → ¬ (m = dm ∧ fmDst w ≤ o ∧ o < fmDst w + fmLen w) → e.peek m o = d.peek m o)) ∧
      (op = 0x22 → (∀ i, i < fmLen w → d.badAt dm (fmDst w + i) 1 = false) → ∃ e q, Settles (row (fmLen w)) s e ∧ e.fm n = some q ∧
        (∀ m o, m ≠ 17 → e.peek m o = d.peek m o) ∧ (∀ i, i < q.done → d.peek sm (fmSrc w + i) = d.peek dm (fmDst w + i)) ∧
        (q.mism = none → q.done = fmLen w) ∧
        (∀ o, q.mism = some o → o = q.done ∧ o < fmLen w ∧ d.peek sm (fmSrc w + o) ≠ d.peek dm (fmDst w + o))))

/-! ### Pins and the cabinet (15, 16) -/

/-- R313, R315, R316 to R323, R325: a filter output changes with its pin event; a function, an output level and an owner change for who may
change them; the pattern units' sets apply together or not at all; a non-match arms a unit and the next match fires it once. -/
def Obligations.PinsFollow : Prop :=
  ∀ (s : State) (src : Src) (k : Fin 128) (v : Word),
    let d := s.dev
    (∀ lv, d.power ≠ 3 → d.level k ≠ lv → ∃ e, Acts (.filterOutputChange k lv) s e ∧ e.level k = lv ∧
      (∀ j : Fin 128, j ≠ k → e.level j = d.level j) ∧
      (d.rb (Reg.pinkCfg k) (if lv then 14 else 15) = true → e.rb (Reg.icRaw ((320 + k) / 32)) ((320 + k) % 32) = true)) ∧
    (WriteOk s src (Reg.pinkFunc k) →
      (d.owns (masterOf src) k = false → Writes (.pinFunctionChange src k v) s src
        (d.violate (masterOf src) 0 22 true (Reg.pinkFunc k - 0x1100000))) ∧
      (d.owns (masterOf src) k = true → pinFuncOk k (fld v 2 0) = false →
        Writes (.pinFunctionChange src k v) s src (d.refuse Reg.pinChk (chkWord 0x40 8 k))) ∧
      (d.owns (masterOf src) k = true → pinFuncOk k (fld v 2 0) = true → ∃ e, Writes (.pinFunctionChange src k v) s src e ∧
        e.func k = fld v 2 0 ∧ e.level k = d.pinDefault k (fld v 2 0) ∧ Tab.get (fun _ => Drive.none) e.io.pads k = e.padOut k)) ∧
    (WriteOk s src (Reg.pinkGpio k) → d.owns (masterOf src) k = true → ∃ e, Writes (.gpioWrite src k v) s src e ∧
      (d.func k = 0 → bit v 1 = true → d.rb (Reg.pinkCfg k) 13 = false →
        Tab.get (fun _ => Drive.none) e.io.pads k = .level (bit v 0)) ∧
      (d.func k = 0 → bit v 1 = false → Tab.get (fun _ => Drive.none) e.io.pads k = .none)) ∧
    (WriteOk s .custodian (Reg.pinOwn k) →
      (d.rb (Reg.pinOwn k) 31 = false → fld v 2 0 < 6 →
        Writes (.pinOwnerWrite .custodian false k v) s .custodian (d.setReg (Reg.pinOwn k) (v &&& 0x80000007))) ∧
      (d.rb (Reg.pinOwn k) 31 = false → 6 ≤ fld v 2 0 →
        Writes (.pinOwnerWrite .custodian false k v) s .custodian (d.refuse Reg.pinChk (chkWord 0x40 8 k))) ∧
      (d.rb (Reg.pinOwn k) 31 = true → ∃ e, Writes (.pinOwnerWrite .custodian false k v) s .custodian e ∧
        e.pinOwner k = d.pinOwner k ∧ e.rb (Reg.icRaw 0) 1 = true)) ∧
    (WriteOk s src Reg.pinCommit →
      ((∀ u, u < 8 → d.patCheck u = 0) → ∃ e, Writes (.pinCommit src) s src e ∧ e.reg Reg.pinChk = 0 ∧ ∀ u, u < 8 →
        e.inForce (Reg.pinPatCfg u) = d.reg (Reg.pinPatCfg u) ∧ e.inForce (Reg.pinPatMask u) = d.reg (Reg.pinPatMask u) ∧
        e.inForce (Reg.pinPatVal u) = d.reg (Reg.pinPatVal u)) ∧
      (∀ u, u < 8 → d.patCheck u ≠ 0 → (∀ w, w < u → d.patCheck w = 0) →
        Writes (.pinCommit src) s src (d.refuse Reg.pinChk (chkWord (d.patCheck u) 8 u)))) ∧
    (∀ u, u < 8 → d.lb (Reg.pinPatCfg u) 0 = true → let e := d.patEdge u
      (d.patMatch u = false → e.rb (Reg.pinPatStat u) 0 = false ∧ e.rb (Reg.pinPatStat u) 1 = true) ∧
      (d.patMatch u = true → d.rb (Reg.pinPatStat u) 1 = false → e = d.setRb (Reg.pinPatStat u) 0 true) ∧
      (d.patMatch u = true → d.rb (Reg.pinPatStat u) 1 = true → e.rb (Reg.pinPatStat u) 1 = false ∧
        (d.lb (Reg.pinPatCfg u) 8 = true → e.rb (Reg.icRaw 14) u = true) ∧
        (d.lb (Reg.pinPatCfg u) 9 = true → d.pinOwner (32 + d.lf (Reg.pinPatCfg u) 21 16) ≠ d.patOwner u →
          e.rb (Reg.pinPatStat u) 2 = true ∧ e.io.drv = d.io.drv)))

/-- R339, R340, R341, R342: a request waits for the line tick; starts are made only while the load stays within DRV_BUDGET; a pulse goes
over to hold or off; an output on for MAXON is turned off and latched, with event 497. -/
def Obligations.CoilsKeepBudget : Prop :=
  ∀ (s : State) (src : Src) (o : Fin 64) (os : List Nat),
    let d := s.dev
    (WriteOk s src Reg.drvFire →
      (d.owns (masterOf src) (32 + o) = true →
        Writes (.drvFireStart src o) s src (d.setDrv { d.io.drv with starts := d.io.drv.starts ++ [o.val] }) ∧
        Writes (.drvFireStop src o) s src (d.setDrv { d.io.drv with stops := d.io.drv.stops ++ [o.val] })) ∧
      (d.owns (masterOf src) (32 + o) = false → Writes (.drvFireStart src o) s src (d.violate (masterOf src) 0 23 true 0x30020))) ∧
    ((d.drvOffer os).drvLoad ≤ max d.drvLoad (d.lf Reg.drvBudget 15 0)) ∧
    ((d.reflexStart o).drvLoad ≤ max d.drvLoad (d.lf Reg.drvBudget 15 0)) ∧
    (d.startable o = false → d.reflexStart o = d) ∧
    (d.clocked = true → d.startable o = true → d.drvPend ≠ [] → (d.reflexStart o).coil o = 3) ∧
    (d.clocked = true → d.startable o = true → d.drvPend = [] → d.drvLoad + d.lf (Reg.drvOutLim o) 15 0 ≤ d.lf Reg.drvBudget 15 0 →
      d.lf (Reg.drvOutCfg o) 31 16 ≠ 0 → (d.reflexStart o).coil o = 1) ∧
    (d.clocked = true → d.coil o = 1 → ∃ e, Acts (.pulseEnd o) s e ∧ e.coil o = (if d.holdOk o then 2 else 0)) ∧
    (d.clocked = true → d.coilOn o = true → d.lf (Reg.drvOutLim o) 31 16 ≠ 0 → ∃ e, Acts (.coilWatchdog o) s e ∧ e.coil o = 0 ∧
      e.rb (Reg.drvOutStat o) 2 = true ∧ e.rb (Reg.icRaw 15) 17 = true ∧ e.startable o = false)

/-- R327 to R329, R331 to R334, R336, R337: a quadrature step counts by its sign, one that comes too soon is rejected; a count is set by a
write; a conversion is shown and flagged outside its window; a pulse is accepted or rejected by its width and gap; a watcher trips. -/
def Obligations.InputsMeasured : Prop :=
  ∀ (s : State) (src : Src),
    let d := s.dev
    (∀ (e : Fin 8) v, WriteOk s src (Reg.encCnt e) → d.owns (masterOf src) (96 + 2 * e) = true →
      ∃ u, Writes (.encoderCountWrite src e v) s src u ∧ u.reg (Reg.encCnt e) = v) ∧
    (∀ e, e < 8 → d.ioOn sbEnc e = true → d.encPhase e ≠ (d.dec e).phase → (∀ x, (d.dec e).edge = some x → x.1 ≠ d.time.tclk) →
      let gap := d.lf (Reg.encCfg e) 31 16
      let up : Bool := decide (d.encPhase e = nextPhase (d.dec e).phase) != d.lb (Reg.encCfg e) 0
      let u := d.decChange e
      (u.dec e).phase = d.encPhase e ∧
      ((∀ l, (d.dec e).last = some l → gap ≤ d.time.tclk - l) →
        u.reg (Reg.encCnt e) = (if up then d.reg (Reg.encCnt e) + 1 else d.reg (Reg.encCnt e) - 1)) ∧
      (∀ l, (d.dec e).last = some l → d.time.tclk - l < gap → u.reg (Reg.encCnt e) = d.reg (Reg.encCnt e) ∧
        u.rb (Reg.encStat e) 2 = true ∧ u.rb (Reg.encStat e) 0 = true ∧
        ((d.dec e).told = false → u.rb (Reg.icRaw 14) (8 + e) = true))) ∧
    (∀ c (code : BitVec 12), d.clocked = true → d.adcChannel = some c → d.lf (Reg.adcChCfg c) 2 0 = 0 →
      let out := decide (code.toNat < d.lf (Reg.adcChWin c) 11 0) || decide (d.lf (Reg.adcChWin c) 27 16 < code.toNat)
      ∃ u, Acts (.adcConversion code) s u ∧ u.rf (Reg.adcChVal c) 11 0 = code.toNat ∧ u.rb (Reg.adcChVal c) 12 = out ∧
        u.io.adcNext = (c + 1) % 16 ∧
        (out = true → d.rb (Reg.adcChVal c) 12 = false → u.rb (Reg.icRaw 14) (16 + c) = true)) ∧
    (∀ hist k, 0 < k → k ≤ 4 → 2 ^ k ≤ List.length hist →
      adcMean hist k = ((hist.take (2 ^ k)).sum + 2 ^ (k - 1)) / 2 ^ k) ∧
    (∀ i b prev, i < 12 → d.watchFlag 1 i = false →
      let w := d.time.tclk - b
      let short := d.lf (Reg.cioCoinCfg i) 13 2 * 10000
      let long := d.lf (Reg.cioCoinCfg i) 25 14 * 10000
      let gap := d.lf (Reg.cioCoinGap i) 11 0 * 10000
      let u := d.coinJudge i b prev
      u.rb (Reg.icRaw 14) (coinEvent i - 448) = true ∧
      (short ≤ w → w ≤ long → (∀ f, prev = some f → gap ≤ b - f) → u.reg (Reg.cioCoinAcc i) = d.reg (Reg.cioCoinAcc i) + 1) ∧
      (w < short → u.reg (Reg.cioCoinAcc i) = d.reg (Reg.cioCoinAcc i) ∧ u.rf (Reg.cioCoinStat i) 9 8 = 1) ∧
      (short ≤ w → long < w → u.reg (Reg.cioCoinAcc i) = d.reg (Reg.cioCoinAcc i) ∧ u.rf (Reg.cioCoinStat i) 9 8 = 2) ∧
      (∀ f, prev = some f → short ≤ w → w ≤ long → b - f < gap → u.reg (Reg.cioCoinAcc i) = d.reg (Reg.cioCoinAcc i) ∧
        u.rf (Reg.cioCoinStat i) 9 8 = 3 ∧ u.rf (Reg.cioCoinStat i) 7 0 = min 255 (d.rf (Reg.cioCoinStat i) 7 0 + 1))) ∧
    (∀ i : Fin 12, d.clocked = true → d.ioOn sbCio i = true → (d.coin i).start ≠ none → (d.coin i).long = false →
      ∃ u, Acts (.pulseTooLong i) s u ∧ (u.coin i).long = true ∧ u.rf (Reg.cioCoinStat i) 9 8 = 2 ∧
        u.reg (Reg.cioCoinAcc i) = d.reg (Reg.cioCoinAcc i) ∧ u.rb (Reg.icRaw 14) (coinEvent i - 448) = true) ∧
    (∀ k : Fin 16, d.clocked = true → d.ioOn sbCio (16 + k) = true → d.rb Reg.cioTostat k = false →
      d.lb (Reg.cioTo k) 0 = false ∨ d.stuck k = true →
      Acts (.watcherTrip k) s ((d.setRb Reg.cioTostat k true).raise 504))

/-- R326, R343 to R349: an instance is enabled by its owner if its set passes its check, and the sets of running instances are committed
together; characters, SPI words and I2C bytes pass through their FIFOs and ports; an LED transfer ends with event 498. -/
def Obligations.PortsAndStringsRun : Prop :=
  ∀ (s : State) (src : Src),
    let d := s.dev
    (∀ (b : Fin 8) v i, WriteOk s src (Reg.ioCtl b) → (ioInstances b).filter (fun i => bit v i != d.ioOn b i) = [i] →
      let mine : Bool := match ioPin b i with | some k => d.owns (masterOf src) k | none => true
      let idx := if b = 3 then d.drvCheck.2 else i
      (mine = false → Writes (.ioEnable src b v) s src (d.ioReport b (0x43, idx))) ∧
      (mine = true → bit v i = true → d.ioCheck b i ≠ 0 → Writes (.ioEnable src b v) s src (d.ioReport b (d.ioCheck b i, idx))) ∧
      (mine = true → bit v i = true → d.ioCheck b i = 0 → ∃ e, Writes (.ioEnable src b v) s src e ∧ e.ioOn b i = true ∧
        e.reg (Reg.ioChk b) = 0 ∧ ∀ k ∈ ioKeys b i, e.inForce k = d.reg k) ∧
      (mine = true → bit v i = false → ∃ e, Writes (.ioEnable src b v) s src e ∧ e.ioOn b i = false)) ∧
    (∀ (b : Fin 8) i, WriteOk s src (Reg.ioCommit b) → i ∈ ioInstances b → d.ioOn b i = true →
      (b = 3 → Writes (.ioCommit src b) s src (d.setDrv { d.io.drv with arm := true })) ∧
      (b = 4 → ∃ e, Writes (.ioCommit src b) s src e ∧ (e.led i).arm = true) ∧
      (b ≠ 3 → b ≠ 4 → (∀ j ∈ ioInstances b, d.ioOn b j = true → d.ioCheck b j = 0 ∧ (5 ≤ b.val → d.portBusy b j = false)) →
        ∃ e, Writes (.ioCommit src b) s src e ∧ e.reg (Reg.ioChk b) = 0 ∧ ∀ k ∈ ioKeys b i, e.inForce k = d.reg k)) ∧
    (∀ (u : Fin 4) (b : Byte),
      let q := d.ua u
      (WriteOk s src (Reg.uaData u) → d.owns (masterOf src) (120 + 2 * u) = true →
        (q.tx.length < 64 → ∃ e, Writes (.uartTransmit src u b) s src e ∧
          (e.ua u).busy.toList ++ (e.ua u).tx = q.busy.toList ++ q.tx ++ [b] ∧ (e.ua u).rx = q.rx) ∧
        (64 ≤ q.tx.length → Writes (.uartTransmit src u b) s src d)) ∧
      (ReadOk s src (Reg.uaData u) →
        (∀ c p f rest, q.rx = (c, p, f) :: rest → Reads (.uartDataRead src u) s src
          (BitVec.ofNat 32 (c.toNat + 256 * b2n p + 512 * b2n f)) (d.setUa u { q with rx := rest })) ∧
        (q.rx = [] → Reads (.uartDataRead src u) s src 0x400 d)) ∧
      (∀ perr ferr, d.clocked = true → d.ioOn sbUa u = true →
        (q.rx.length < 64 → ∃ e, Acts (.uartReceive u b perr ferr) s e ∧ (e.ua u).rx = q.rx ++ [(b, perr, ferr)]) ∧
        (64 ≤ q.rx.length → ∃ e, Acts (.uartReceive u b perr ferr) s e ∧ (e.ua u).rx = q.rx ∧ e.rb (Reg.uaStat u) 15 = true)) ∧
      (d.clocked = true → q.busy = some b → ∃ e, Acts (.uartTxByteEnd u) s e ∧ e.sent = d.sent ++ [.uart u b] ∧
        (e.ua u).busy.toList ++ (e.ua u).tx = q.tx)) ∧
    (∀ (i : Fin 2) v,
      (WriteOk s src (Reg.spiCmd i) → d.ioOn sbSpi i = true → (d.spi i).cmd = none →
        (fld v 15 0 ≠ 0 → ∃ e, Writes (.spiCommand src i v) s src e ∧ (e.spi i).cmd = some (v ||| 0x80000000) ∧
          e.rb (Reg.spiStat i) 0 = true) ∧
        (fld v 15 0 = 0 → Writes (.spiCommand src i v) s src ((d.setRb (Reg.spiStat i) 1 true).raise 505))) ∧
      (∀ rx, d.clocked = true → (d.spi i).cmd = some v → ∃ e, Acts (.spiCommandEnd i rx) s e ∧ (e.spi i).cmd = none ∧
        (e.spi i).tx = (d.spi i).tx.drop (fld v 15 0) ∧ (e.spi i).rx = (d.spi i).rx ++ rx.take (fld v 15 0) ∧
        e.sent = d.sent ++ [.spi i ((d.spi i).tx.take (fld v 15 0))] ∧ e.rb (Reg.spiStat i) 1 = true ∧ e.rb (Reg.icRaw 15) 25 = true) ∧
      (WriteOk s src (Reg.i2cCmd i) → d.ioOn sbI2c i = true → d.i2c i = none →
        (∃ e, Writes (.i2cWrite src i v) s src e ∧ e.rb (Reg.i2cStat i) 0 = true ∧
          e.sent = d.sent ++ [.i2c i (fld v 6 0) false ((d.i2cBytes i).take (fld v 12 8 + 1))]) ∧
        (∃ e, Writes (.i2cRead src i v) s src e ∧ e.rb (Reg.i2cStat i) 0 = true ∧ e.sent = d.sent ++ [.i2c i (fld v 6 0) true []])) ∧
      (∀ rx, d.clocked = true → d.i2c i = some v →
        (∃ e, Acts (.i2cCommandEnd i .ok rx) s e ∧ e.i2c i = none ∧ e.rb (Reg.i2cStat i) 0 = false ∧ e.rb (Reg.i2cStat i) 1 = true ∧
          e.rb (Reg.icRaw 15) 25 = true ∧
          (bit v 7 = true → e.i2cBytes i = rx.take (fld v 12 8 + 1) ++ (d.i2cBytes i).drop (min rx.length (fld v 12 8 + 1))) ∧
          (bit v 7 = false → e.i2cBytes i = d.i2cBytes i)) ∧
        (∃ e, Acts (.clockStretchTimeout i) s e ∧ e.i2c i = none ∧ e.rb (Reg.i2cStat i) 4 = true ∧ e.rb (Reg.icRaw 15) 25 = true))) ∧
    (∀ k : Fin 8, d.clocked = true → d.rb (Reg.ledStat k) 0 = true →
      Acts (.ledTransferEnd k) s ((d.setRb (Reg.ledStat k) 0 false).raise 498))

/-! ### The ledger store (17) -/

/-- R350, R351, R352, R360: a line processor's pair stores, adds or adds saturating to its word, and steps on with INC; while a commit runs
its writes join the write queue, beyond its 256 entries they stall, and while the ledger is sealed they are dropped and counted; a read
returns what every earlier write leaves; a word that table 4 does not grant is a violation. -/
def Obligations.LedgerWordsChange : Prop :=
  ∀ (s : State) (m : Fin 4) (v : Word) (op : Nat),
    let d := s.dev
    let w := d.rf (Reg.lgLpaddr m) 14 0
    let row : Instr := if op = 0 then .ledgerStore m v else if op = 1 then .ledgerAdd m v else .ledgerSaturatingAdd m v
    let old := d.peekN 18 (4 * w) 4
    let stepped (e : Dev) : Prop :=
      e.rf (Reg.lgLpaddr m) 14 0 = (if d.rb (Reg.lgLpaddr m) 31 then (w + 1) % 32768 else w)
    (WriteOk s (.lp m) (Reg.lgLpdata m) → op < 3 → d.rf (Reg.lgLpaddr m) 17 16 = op →
      (d.lgMay (2 + m) w true = false → ∃ e, Writes row s (.lp m) e ∧ e.mem = d.mem ∧ e.lg = d.lg ∧ e.rb (Reg.icRaw 0) 1 = true ∧ stepped e) ∧
      (d.lgMay (2 + m) w true = true → d.rb Reg.lgStat 2 = true → ∃ e, Writes row s (.lp m) e ∧ e.mem = d.mem ∧ e.lg = d.lg ∧
        e.rf Reg.lgStat 31 16 = min 65535 (d.rf Reg.lgStat 31 16 + 1) ∧ stepped e) ∧
      (d.lgMay (2 + m) w true = true → d.rb Reg.lgStat 2 = false → d.lg.run = none → d.flipArmed 18 = false →
        ∃ e, Writes row s (.lp m) e ∧ stepped e ∧
          e.peekN 18 (4 * w) 4 = (if op = 0 then v.toNat else if op = 1 then (old + v.toNat) % 2 ^ 32 else min (old + v.toNat) (2 ^ 32 - 1)) ∧
          (∀ id o, o < 2 ^ 40 → ¬ (id = 18 ∧ 4 * w ≤ o ∧ o < 4 * w + 4) → e.peek id o = d.peek id o)) ∧
      (d.lgMay (2 + m) w true = true → d.rb Reg.lgStat 2 = false → d.lg.run ≠ none →
        ∃ e, Writes row s (.lp m) e ∧ e.mem = d.mem ∧ stepped e ∧
          (d.lg.queue.length < 256 → e.lg.queue = d.lg.queue ++ [⟨2 + m, w, op, v⟩] ∧ e.lg.stalled = d.lg.stalled) ∧
          (256 ≤ d.lg.queue.length → e.lg.queue = d.lg.queue ∧ e.lg.stalled = d.lg.stalled ++ [⟨2 + m, w, op, v⟩]))) ∧
    (ReadOk s (.lp m) (Reg.lgLpdata m) →
      (d.lgMay (2 + m) w false = true → ∃ e, Reads (.ledgerPairRead m) s (.lp m) (d.lgValue (2 + m) w) e ∧ e.mem = d.mem ∧ stepped e) ∧
      (d.lgMay (2 + m) w false = false → ∃ e, Reads (.ledgerPairRead m) s (.lp m) 0 e ∧ e.mem = d.mem ∧ e.rb (Reg.icRaw 0) 1 = true)) ∧
    (∀ x rest, d.clocked = true → d.lg.stalled = x :: rest → d.lg.run = none → d.rb Reg.lgStat 2 = false → d.flipArmed 18 = false →
      x.word < 32768 → ∃ e, Acts .ledgerQueueStallRelease s e ∧ e.lg.stalled = rest ∧ e.lg.queue = d.lg.queue ∧
        e.peekN 18 (4 * x.word) 4 = lgResult x.op (d.peekN 18 (4 * x.word) 4) x.data.toNat % 2 ^ 32)

/-- R355 to R359: a commit that fails step 1 or the hold-up check ends with its reason and event 503 and touches no flash; one that passes
erases its target block, and when its pages are programmed the sequence number and the slot move on with event 502; one that fails in
flash or in time leaves them, with event 503; the check alone commits nothing. R356: the target of a commit is a block of the partition
and, while a slot of it is valid, never the newest valid slot's. -/
def Obligations.LedgerCommits : Prop :=
  (∀ (s : State) (r : Fin 68) (id : Nat) (w : Desc) (code : BitVec 12), s.dev.clocked = true →
     let d := s.dev
     let u := d.takePassed r 1
     let volt := holdupVolt code.toNat (d.lf Reg.lgHdiv 15 0)
     let ok := holdupOk volt (d.lf Reg.lgHcap 19 0) (d.lf Reg.lgHvmin 15 0) (d.lf Reg.lgHpwr 19 0)
     let issued (e : Dev) (k id : Nat) (c : Comp) : Prop :=
       (e.ring k).issue = (d.ring k).issue.map (fun x => if x.1 = id ∧ x.2 = none then (id, some c) else x)
     (d.front r [0x60] = some (id, w) → d.lg.run = none → lgClean w = true →
       let block := if d.lgPresent then d.lgTarget else 0
       (d.lgStep1 ≠ 0 → Settles (.commit r code) s (u.lgFailed (some (r.val, id, w)) d.lgStep1 0 block 0)) ∧
       (d.lgStep1 = 0 → ok = false → volt < 65536 → ∃ e, Settles (.commit r code) s e ∧ e.lg = d.lg ∧ e.sent = d.sent ∧ e.rb (Reg.icRaw 15) 23 = true ∧
         e.rf Reg.lgLast 7 0 = 0x48 ∧ e.rb Reg.lgHlast 12 = false ∧ e.rf Reg.lgHlast 31 16 = volt ∧
         issued e r id (lgComp w 0x48 code.toNat block 0 volt)) ∧
       (d.lgStep1 = 0 → ok = true → volt < 65536 → ∃ e, Settles (.commit r code) s e ∧ e.rb Reg.lgHlast 12 = true ∧ e.mem = d.mem ∧
         e.sent = d.sent ++ [.flash 1 (flashAddr (d.lgTarget * 64) 0) []] ∧
         e.lg = { d.lg with run := some ⟨some (r.val, id, w), d.lgTarget, d.lgNextSeq, d.beam, code.toNat, volt⟩ })) ∧
     (d.front r [0x61] = some (id, w) → lgClean w = true → volt < 65536 → ∃ e, Settles (.hcheck r code) s e ∧ e.lg = d.lg ∧ e.sent = d.sent ∧
       e.mem = d.mem ∧ e.rb Reg.lgHlast 12 = ok ∧ issued e r id (lgComp w (if ok then 0 else 0x48) code.toNat 0 0 volt)) ∧
     (∀ q : LgRun, d.lg.run = some q → d.lg.emerg = false → d.lg.apply = false → d.lg.queue = [] →
       ((∀ i, i < d.lgPages → d.lgPageBad i = false) → ∃ e, Settles (.ledgerCommitComplete code) s e ∧ e.lg.run = none ∧ e.lg.skip = 0 ∧
         e.reg Reg.lgSeq = BitVec.ofNat 32 q.seq ∧ e.rf Reg.lgSlot 3 0 = q.block % 16 ∧ e.rb Reg.lgStat 1 = false ∧
         e.rb (Reg.icRaw 15) 22 = true ∧ e.mem = d.mem ∧ (∃ body, e.sent = d.sent ++ body) ∧
         (∀ k id w, q.from' = some (k, id, w) → issued e k id (lgComp w 0 q.code (q.block % 16) q.seq q.volt))) ∧
       (∀ late : Bool, ∃ e, Settles (if late then .commitTimeout code else .commitFlashFailure code) s e ∧ e.lg.run = none ∧
         e.lg.skip = d.lg.skip + 1 ∧ e.reg Reg.lgSeq = d.reg Reg.lgSeq ∧ e.reg Reg.lgSlot = d.reg Reg.lgSlot ∧
         e.rf Reg.lgLast 7 0 = (if late then 5 else 4) ∧ e.rb (Reg.icRaw 15) 23 = true ∧ e.sent = d.sent ∧ e.mem = d.mem))) ∧
  (∀ d : Dev, d.lgPresent = true → d.lgTarget ∈ d.lgBlocks ∧
     (d.rf Reg.lgSeq 31 0 ≠ 0 → d.rf Reg.lgSlot 3 0 ∈ d.lgBlocks → d.lgTarget ≠ d.rf Reg.lgSlot 3 0))

/-- R360 to R362: a fall of PFAIL_N seals the ledger with event 5 and commits a dirty SRAM, at once or after the commit that runs; UNSEAL
opens it while PFAIL_N is high; restore fills the SRAM from the newest valid slot before function 1 is ready; the LG set is checked and
applied. -/
def Obligations.LedgerSealsAndRestores : Prop :=
  ∀ (s : State) (src : Src) (code : BitVec 12) (slots : List SlotImage),
    let d := s.dev
    (d.power < 2 → d.frozen = false → d.rb Reg.lgStat 3 = true →
      ∃ e, Acts (.pfail code) s e ∧ e.rb Reg.lgStat 3 = false ∧ e.rb Reg.lgStat 2 = true ∧ e.rb (Reg.icRaw 0) 5 = true ∧ e.mem = d.mem ∧
        (d.rb Reg.lgCtl 0 = false ∨ d.rb Reg.lgStat 1 = false → e.lg = d.lg) ∧
        (d.rb Reg.lgCtl 0 = true → d.rb Reg.lgStat 1 = true → d.lg.run ≠ none → e.lg = { d.lg with emerg := true }) ∧
        (d.rb Reg.lgCtl 0 = true → d.rb Reg.lgStat 1 = true → d.lg.run = none → d.lgStep1 = 0 →
          (e.lg.run ≠ none → (∀ q, e.lg.run = some q → q.from' = none ∧ q.block = d.lgTarget)) ∧
          (e.lg.run = none → e.rf Reg.lgLast 7 0 = 0x48 ∧ e.rb Reg.lgLast 8 = true ∧ e.rb (Reg.icRaw 15) 23 = true))) ∧
    (d.power ≠ 3 → Acts .pfailNRise s (d.setRb Reg.lgStat 3 true)) ∧
    (WriteOk s src Reg.lgCtl →
      (d.rb Reg.lgStat 3 = true → Writes (.unseal src) s src (d.setRb Reg.lgStat 2 false)) ∧
      (d.rb Reg.lgStat 3 = false → Writes (.unseal src) s src d) ∧
      (d.rb Reg.lgCtl 0 = false → d.lgCheck ≠ 0 → Writes (.lgEnable src) s src (d.refuse Reg.lgChk (BitVec.ofNat 32 d.lgCheck))) ∧
      (d.rb Reg.lgCtl 0 = false → d.lgCheck = 0 → d.lg.run = none → ∃ e, Writes (.lgEnable src) s src e ∧ e.rb Reg.lgCtl 0 = true ∧
        e.reg Reg.lgChk = 0 ∧ ∀ k ∈ lgKeys, e.inForce k = d.reg k)) ∧
    (WriteOk s src Reg.lgCommit → d.rb Reg.lgCtl 0 = true →
      (d.lgCheck ≠ 0 → Writes (.lgCommit src) s src (d.refuse Reg.lgChk (BitVec.ofNat 32 d.lgCheck))) ∧
      (d.lgCheck = 0 → d.lg.run = none → ∃ e, Writes (.lgCommit src) s src e ∧ ∀ k ∈ lgKeys, e.inForce k = d.reg k) ∧
      (d.lgCheck = 0 → d.lg.run ≠ none → ∃ e, Writes (.lgCommit src) s src e ∧ e.lg.apply = true ∧ e.live = d.live)) ∧
    (d.clocked = true → d.fnReady 0 = true → d.fnReady 1 = false → d.flipArmed 18 = false →
      (d.ledgerPresent = false → ∃ e, Acts (.ledgerRestore slots) s e ∧ e.fnReady 1 = true ∧ e.rf Reg.lgStat 5 4 = 2 ∧ e.mem = d.mem) ∧
      (d.ledgerPresent = true → newestSlot slots = none → ∃ e, Acts (.ledgerRestore slots) s e ∧ e.fnReady 1 = true ∧ e.mem = d.mem) ∧
      (∀ x, d.ledgerPresent = true → newestSlot slots = some x → x ∈ slots ∧ x.valid = true ∧
        ∃ e, Acts (.ledgerRestore slots) s e ∧ e.fnReady 1 = true ∧ e.rf Reg.lgStat 5 4 = 1 ∧ e.reg Reg.lgSeq = x.seq ∧
          ∀ i, i < 131072 → e.peek 18 i = x.data.getD i 0))

/-! ### Gwyn Link (18) -/

/-- R365, R366, R369, R373, R375, R377: the Link's enable and commit are checked; a candidate sends its claim, yields to a lower one and
becomes master by its own; training numbers the slaves, and the master takes the longest slot that fits the line, or fails; RESYNC
trains the ring again, has a slave adopt the header's frame, or restarts election after two masters met. -/
def Obligations.LinkElectsAndTrains : Prop :=
  ∀ (s : State) (src : Src),
    let d := s.dev
    (WriteOk s src Reg.glCtl →
      (d.rb Reg.glCtl 0 = false → d.glCheck false ≠ 0 → Writes (.glEnable src) s src (d.refuse Reg.glChk (BitVec.ofNat 32 (d.glCheck false)))) ∧
      (d.rb Reg.glCtl 0 = false → d.glCheck false = 0 → ∃ e, Writes (.glEnable src) s src e ∧ e.rb Reg.glCtl 0 = true ∧ e.reg Reg.glChk = 0 ∧
        e.inForce Reg.glCfg = d.reg Reg.glCfg) ∧
      (d.rb Reg.glCtl 0 = true → ∃ e, Writes (.glDisable src) s src e ∧ e.rb Reg.glCtl 0 = false ∧ e.glState = 0 ∧ e.glMaster = false ∧
        e.inSched = false ∧ e.sent = d.sent ++ [.link 4 []]) ∧
      (d.rb Reg.glCtl 0 = true → d.glState ≠ 0 →
        (d.gl.conflict = true → ∃ e, Writes (.resync src) s src e ∧ e.glState = 1 ∧ e.glMaster = false ∧ e.gl.conflict = false) ∧
        (d.gl.conflict = false → d.glMaster = true → ∃ e, Writes (.resync src) s src e ∧ e.glState = 2 ∧ e.inSched = false ∧
          e.sent = d.sent ++ [.link 1 [0]]) ∧
        (d.gl.conflict = false → d.glMaster = false → d.glState = 3 → Writes (.resync src) s src (d.setGl { d.gl with adopt := true })))) ∧
    (WriteOk s src Reg.glCommit → d.rb Reg.glCtl 0 = true → Writes (.glCommit src) s src (d.setGl { d.gl with commit := true })) ∧
    (d.clocked = true →
      (d.glState = 1 → d.lb Reg.glCfg 0 = true → d.gl.silent = false → Acts .claimSend s (d.send (.link 0 [d.lf Reg.glCfg 15 8]))) ∧
      (∀ id : BitVec 8, d.glState ≠ 0 →
        (d.lb Reg.glCfg 0 = false → Acts (.claim id) s (d.send (.link 0 [id.toNat]))) ∧
        (d.lb Reg.glCfg 0 = true → id.toNat < d.lf Reg.glCfg 15 8 →
          Acts (.claim id) s ((d.setGl { d.gl with silent := true }).send (.link 0 [id.toNat]))) ∧
        (d.lb Reg.glCfg 0 = true → d.lf Reg.glCfg 15 8 < id.toNat → Acts (.claim id) s d) ∧
        (d.lb Reg.glCfg 0 = true → id.toNat = d.lf Reg.glCfg 15 8 → d.glState = 1 → ∃ e, Acts (.claim id) s e ∧ e.glMaster = true ∧
          e.glNode = 0 ∧ e.glState = 2 ∧ e.sent = d.sent ++ [.link 1 [0]])) ∧
      (∀ count rtt, d.glState ≠ 0 → d.glMaster = false → count < 15 → ∃ e, Acts (.trainingSet count rtt) s e ∧ e.glNode = count + 1 ∧
        e.glState = 2 ∧ e.inSched = false ∧ e.sent = d.sent ++ [.link 1 [count + 1]]) ∧
      (∀ count rtt p, d.glState = 2 → d.glMaster = true → d.gl.ready = false → d.glPeriod = some p →
        (16 ≤ count → Acts (.trainingSet count rtt) s (d.glFail 2)) ∧
        (count < 16 → 1000 + rtt + 8 * (11 + (count + 1) * 10) > p → ∃ e, Acts (.trainingSet count rtt) s e ∧ e.glState = 4 ∧
          e.reg Reg.glChk = 1 ∧ e.sent = d.sent) ∧
        (∀ c, count < 16 → c < 4 → 1000 + rtt + 8 * (11 + (count + 1) * (8 * (c + 1) + 2)) ≤ p →
          (c = 3 ∨ p < 1000 + rtt + 8 * (11 + (count + 1) * (8 * (c + 2) + 2))) →
          ∃ e, Acts (.trainingSet count rtt) s e ∧ e.gl.ready = true ∧ e.glNodes = count + 1 ∧ e.glSlotBytes = 8 * (c + 1) ∧
            e.sent = d.sent ++ [.link 2 [count, rtt, c]])) ∧
      (∀ (nm1 : Fin 16) (rtt : BitVec 16) (c : BitVec 2), d.glState = 2 → d.glMaster = false →
        ∃ e, Acts (.configurationSet nm1 rtt c) s e ∧ e.glState = 3 ∧ e.glNodes = nm1 + 1 ∧ e.glSlotBytes = 8 * (c.toNat + 1) ∧
          e.rf Reg.glRing 15 0 = rtt.toNat) ∧
      (d.glState = 2 → d.glMaster = true → d.gl.ready = false → Acts .trainingTimeout s (d.glFail 2)))

/-- R364, R367, R368, R372, R375: the master sends one packet in a line, with its frame and line and a good header; a slave forwards a
packet with a bad header unchanged and overwrites its own slot alone in a good one; a master that meets another's header halts; a
message is sent, refused or dropped by its length and by BUSY; a message of one fragment enters the queue of 16, or is counted as
dropped. -/
def Obligations.LinkCarriesPackets : Prop :=
  ∀ (s : State) (src : Src) (p : Packet),
    let d := s.dev
    (d.clocked = true → d.glState = 3 → d.glMaster = true → d.gl.due = true → ∃ e q, Acts .linePacketSend s e ∧ e.gl.due = false ∧
      e.sent = d.sent ++ [.link 3 (Packet.chars q)] ∧ q.good = true ∧ q.frame = BitVec.ofNat 16 d.time.frame ∧
      q.line = BitVec.ofNat 16 d.time.line ∧ q.slots.length = d.glNodes ∧ q.slots.head? = some d.gl.own) ∧
    (d.clocked = true → d.glState ≠ 0 → d.glMaster = false →
      (p.good = false → Acts (.linePacket p) s (d.send (.link 3 p.chars))) ∧
      (p.good = true → d.glState = 3 → d.glTimed = true → d.inSched = true → d.gl.adopt = false → p.frame.toNat = d.time.frame →
        ∃ e, Acts (.linePacket p) s e ∧ e.gl.got = true ∧ e.gl.miss = 0 ∧ e.inSched = true ∧
          e.sent = d.sent ++ [.link 3 ({ p with slots := p.slots.set d.glNode d.gl.own } : Packet).chars]) ∧
      (p.good = true → d.glState = 3 → d.glTimed = true → d.inSched = true → d.gl.adopt = false → p.frame.toNat ≠ d.time.frame →
        ∃ e, Acts (.linePacket p) s e ∧ e.inSched = false ∧ e.rb Reg.glStat 20 = true ∧ e.sent = d.sent ++ [.link 3 p.chars])) ∧
    (d.clocked = true → d.glState = 3 → d.glMaster = true → p.good = true → p.mid.toNat ≠ d.lf Reg.glCfg 15 8 →
      ∃ e, Acts (.linePacket p) s e ∧ e.glState = 4 ∧ e.gl.conflict = true ∧ e.rb Reg.glStat 19 = true ∧
        e.sent = d.sent ++ [.link 3 p.chars]) ∧
    (WriteOk s src Reg.glTxctl → ∀ len : BitVec 7,
      (d.gl.tx ≠ none → ∃ e, Writes (.messageSend src len) s src e ∧ e.gl = d.gl ∧ e.rb Reg.glStat 15 = true) ∧
      (d.gl.tx = none → len = 0 ∨ 64 < len.toNat → ∃ e, Writes (.messageSend src len) s src e ∧ e.gl = d.gl ∧ e.reg Reg.glChk = 0x40 ∧
        e.rb (Reg.icRaw 0) 0 = true) ∧
      (d.gl.tx = none → 0 < len.toNat → len.toNat ≤ 64 → ∃ e bs, Writes (.messageSend src len) s src e ∧ e.gl.tx = some (bs, false) ∧
        bs.length = len.toNat ∧ ∀ i, i < len.toNat → bs.getD i 0 = BitVec.ofNat 8 ((d.reg (Reg.glTxdata (i / 4))).toNat / 2 ^ (8 * (i % 4))))) ∧
    (WriteOk s src Reg.glRxctl → Writes (.messagePop src) s src (d.setGl { d.gl with rx := d.gl.rx.drop 1 })) ∧
    (∀ set n a, n < d.glNodes → LinkSlot.good (set.getD n LinkSlot.none) = true → let x := set.getD n LinkSlot.none
      x.mlen ≠ 0 → x.first = true → x.last = true →
      (d.gl.rx.length < 16 → ∃ e, Dev.glFragment set (a, d) n = (true, e) ∧ e.gl.rx = d.gl.rx ++ [(n, x.data)]) ∧
      (16 ≤ d.gl.rx.length → ∃ e, Dev.glFragment set (a, d) n = (a, e) ∧ e.gl.rx = d.gl.rx ∧
        e.rf Reg.glStat 31 24 = min 255 (d.rf Reg.glStat 31 24 + 1)))

/-! ### Timers (19) -/

/-- R378 to R383, R385, R389: a mask starts and stops the timers whose pins its writer owns; a stopped timer is loaded and a running one
refuses it; a count wraps to 0; a new compare value is judged against the count, and a match disarms or moves on, acts on the output and
raises the event; the reads copy a consistent value. R378, R392: a running timer counts one at each TCLK edge, and 128 SLCK edges add
exactly 390,625 and leave the accumulator as it was. -/
def Obligations.TimersCount : Prop :=
  (∀ (s : State) (src : Src) (t : Fin 16) (k : Fin 4) (v : Word),
     let d := s.dev
     let q := d.tmr t
     let mine (n : Nat) : Bool := bit v n && d.owns (masterOf src) (48 + n)
     (WriteOk s src Reg.tmrGo → ∃ e, Writes (.tmrGo src v) s src e ∧
       (∀ n, n < 16 → e.tmr n = d.tmr n ∧ e.tmrOn n = (d.tmrOn n || (mine n && d.rb (Reg.tmrCfg n) 0))) ∧
       (∀ n, n < 16 → bit v n = true → mine n = false → e.rf Reg.tmrChk 7 0 = 0x43 ∧ e.rb (Reg.icRaw 0) 0 = true)) ∧
     (WriteOk s src Reg.tmrHalt → ∃ e, Writes (.tmrHalt src v) s src e ∧
       (∀ n, n < 16 → e.tmr n = d.tmr n ∧ e.tmrOn n = (d.tmrOn n && !mine n))) ∧
     (WriteOk s src (Reg.tmrCntLo t) → d.owns (masterOf src) (48 + t) = true →
       (d.tmrOn t = false → ∃ e, Writes (.countLoad src t v) s src e ∧ e.tmr t = { q with cnt := v.toNat + q.cntHi * 2 ^ 32 }) ∧
       (d.tmrOn t = true → ∃ e, Writes (.countLoad src t v) s src e ∧ e.tmr t = q ∧ e.reg Reg.tmrChk = chkWord 0x46 8 t ∧
         e.rb (Reg.icRaw 0) 0 = true)) ∧
     (ReadOk s src (Reg.tmrCntLo t) → ∃ e, Reads (.countRead src t) s src (BitVec.ofNat 32 q.cnt) e ∧ e.tmr t = q ∧
       e.reg (Reg.tmrCntHi t) = BitVec.ofNat 32 (q.cnt / 2 ^ 32)) ∧
     (d.power ≠ 3 → d.counting = true → d.tmrOn t = true → q.cnt < 2 ^ 48 → 2 ^ 48 ≤ q.cnt + d.edgeStep → ∃ e, Acts (.countWrap t) s e ∧
       (e.tmr t).cnt = q.cnt + d.edgeStep - 2 ^ 48 ∧ e.rb (Reg.tmrStat t) 15 = true ∧
       (d.rb (Reg.tmrCfg t) 5 = true → e.rb (Reg.icRaw 15) t = true)) ∧
     (WriteOk s src (Reg.tmrCmpLo t k) → d.owns (masterOf src) (48 + t) = true →
       let V := v.toNat + Tab.get (fun _ => 0) q.vHi k * 2 ^ 32
       V < 2 ^ 48 → q.cnt < 2 ^ 48 →
       let dist := (V + 2 ^ 48 - q.cnt) % 2 ^ 48
       (0 < dist → dist < 2 ^ 47 → ∃ e, Writes (.compareArm src t k v) s src e ∧ (e.tmr t).val k = V ∧ e.rb (Reg.tmrStat t) (8 + k) = true ∧
         e.rb (Reg.tmrStat t) (4 + k) = d.rb (Reg.tmrStat t) (4 + k)) ∧
       (2 ^ 47 ≤ dist → d.rb (Reg.tmrCmpCfg t k) 3 = false → ∃ e, Writes (.compareArm src t k v) s src e ∧ (e.tmr t).val k = V ∧
         e.rb (Reg.tmrStat t) (8 + k) = true ∧ e.rb (Reg.tmrStat t) (4 + k) = true) ∧
       (dist = 0 → d.rb (Reg.tmrCmpCfg t k) 4 = false → ∃ e, Writes (.compareArm src t k v) s src e ∧ e.rb (Reg.tmrStat t) (8 + k) = false ∧
         (d.rb (Reg.tmrCmpCfg t k) 2 = true → e.rb (Reg.tmrStat t) k = true ∧ e.rb (Reg.icRaw 15) t = true))) ∧
     (d.power ≠ 3 → d.cmpDue t k = true →
       let step := (d.reg (Reg.tmrCmpStep t k)).toNat
       let act := fld (d.reg (Reg.tmrCmpCfg t k)) 1 0
       ∃ e, Acts (.compareMatch t k) s e ∧ (e.tmr t).cnt = q.cnt ∧
         (d.rb (Reg.tmrCmpCfg t k) 4 = true → step ≠ 0 → (e.tmr t).val k = (q.val k + step) % 2 ^ 48 ∧ e.rb (Reg.tmrStat t) (8 + k) = true) ∧
         (d.rb (Reg.tmrCmpCfg t k) 4 = false ∨ step = 0 → e.rb (Reg.tmrStat t) (8 + k) = false) ∧
         e.rb (Reg.tmrStat t) 16 = (if act = 1 then true else if act = 2 then false else if act = 3 then !d.rb (Reg.tmrStat t) 16
           else d.rb (Reg.tmrStat t) 16) ∧
         (d.rb (Reg.tmrCmpCfg t k) 2 = true → e.rb (Reg.tmrStat t) k = true ∧ e.rb (Reg.icRaw 15) t = true)) ∧
     (WriteOk s src (Reg.tmrCmpCfg t k) → d.owns (masterOf src) (48 + t) = true →
       Writes (.compareDisarm src t k) s src (d.setRb (Reg.tmrStat t) (8 + k) false)) ∧
     (ReadOk s src (Reg.tmrCaprLo t) → ∃ e, Reads (.capturePairRead src t) s src (BitVec.ofNat 32 q.capr) e ∧ e.tmr t = q ∧
       e.reg (Reg.tmrCaprHi t) = BitVec.ofNat 32 (q.capr / 2 ^ 32) ∧ e.reg (Reg.tmrCapfLo t) = BitVec.ofNat 32 q.capf ∧
       e.reg (Reg.tmrCapfHi t) = BitVec.ofNat 32 (q.capf / 2 ^ 32) ∧ e.rb (Reg.tmrStat t) 12 = false ∧ e.rb (Reg.tmrStat t) 13 = false)) ∧
  (∀ (d : Dev) (n : Nat), n < 16 →
     (d.tmrOn n = true → ((d.tmrAll 1).tmr n).cnt = ((d.tmr n).cnt + 1) % 2 ^ 48) ∧
     (d.tmrOn n = false → (d.tmrAll 1).tmr n = d.tmr n) ∧
     (d.tmrOn n = true → d.io.acc < 128 → (d.tmr n).cnt < 2 ^ 48 →
       (((List.range 128).foldl (fun d _ => d.slckEdge) d).tmr n).cnt = ((d.tmr n).cnt + 390625) % 2 ^ 48 ∧ ((List.range 128).foldl (fun d _ => d.slckEdge) d).io.acc = d.io.acc))

/-! ### Interrupts (20) -/

/-- R395 to R397, R400 to R404, R406 to R408: a raise sets its raw bit and, enabled, counts; a source is written, refused or locked; the
priorities commit together; a Weir group releases at its time or for an idle target; the entry of the most urgent source is written,
which takes it and moves its round-robin pointer. R400, R401: the source chosen for a target is one presented to it with the lowest
PRIO; a source aimed at two ready targets goes to the other one once the first has taken it. -/
def Obligations.EventsDelivered : Prop :=
  (∀ (s : State) (src : Src) (n : Fin 512) (v : Word),
     let d := s.dev
     ((d.raise n).rb (Reg.icRaw (n / 32)) (n % 32) = true ∧ (d.rb (Reg.icSrc n) 0 = false → (d.raise n).ic = d.ic) ∧
       (d.rb (Reg.icSrc n) 0 = true → ((d.raise n).pend n).count = min 65535 ((d.pend n).count + 1))) ∧
     (WriteOk s src (Reg.icSrc n) →
       (eventReserved n = true → Writes (.sourceWrite src n v) s src d) ∧
       (eventReserved n = false → d.srcLocked n = true → src ≠ .custodian →
         Writes (.sourceWrite src n v) s src (d.violate (masterOf src) 0 8 true (0x1000 + 4 * n))) ∧
       (eventReserved n = false → d.srcLocked n = false ∨ src = .custodian → d.srcCheck (masterOf src) n v ≠ 0 →
         Writes (.sourceWrite src n v) s src (d.refuse Reg.icChk (chkWord (d.srcCheck (masterOf src) n v) 8 n))) ∧
       (eventReserved n = false → d.srcLocked n = false ∨ src = .custodian → d.srcCheck (masterOf src) n v = 0 →
         ∃ e, Writes (.sourceWrite src n v) s src e ∧ e.reg (Reg.icSrc n) = v ∧ (bit v 0 = false → (e.pend n).count = 0) ∧
           ∀ m, m ≠ n.val → (e.pend m).count = (d.pend m).count)) ∧
     (WriteOk s src Reg.icCommit →
       (tiersOk d.shadowTiers = false → Writes (.icCommit src) s src (d.refuse Reg.icChk 0x41)) ∧
       (tiersOk d.shadowTiers = true → d.lpHolds = true → Writes (.icCommit src) s src (d.refuse Reg.icChk 0x46)) ∧
       (tiersOk d.shadowTiers = true → d.lpHolds = false → ∃ e, Writes (.icCommit src) s src e ∧
         ∀ k ∈ [Reg.icCfg, Reg.icTier0, Reg.icTier1], e.inForce k = d.reg k)) ∧
     (∀ w : Fin 32, d.clocked = true → (d.weir w).hc ≠ 0 → d.rf (Reg.icWeir w) 31 16 ≠ 0 → ∃ e, Acts (.weirTimeout w) s e ∧ (e.weir w).hc = 0 ∧
       ∀ m, (d.pend m).count ≠ 0 → srcGroup (d.reg (Reg.icSrc m)) = w → (e.pend m).elig = true ∧ (e.pend m).count = (d.pend m).count) ∧
     (∀ t : Fin 6, d.clocked = true → d.idle t = true → ∃ e, Acts (.weirBypass t) s e ∧
       ∀ m, (d.pend m).count ≠ 0 → srcTgt (d.reg (Reg.icSrc m)) t = true → (e.pend m).elig = true) ∧
     (∀ (f : Fin 2) m, d.clocked = true → d.eventNext f = some m →
       let p := d.pend m
       let c := (d.fn f).eqCount
       ∃ e out, Acts (.eventEntryWrite f) s e ∧ (e.pend m).count = 0 ∧ e.rr m = f + 1 ∧ (e.fn f).eqCount = (c + 1) % 2 ^ 32 ∧
         e.sent = d.sent ++ [.hostWrite f (d.addr64 (Reg.hiEqbaseLo f) (Reg.hiEqbaseHi f) + 16 * (c % d.eqSize f))
           (eventBytes (decide (c / d.eqSize f % 2 = 0)) m p.beam p.count)] ++ out)) ∧
  (∀ (d : Dev) (t : Nat), d.compat = false →
     (∀ x ∈ d.ic.pend, x.2.count ≠ 0 → x.2.shown = some t → ∃ n, d.next t = some n ∧
       srcPrio (d.reg (Reg.icSrc n)) ≤ srcPrio (d.reg (Reg.icSrc x.1)) ∧ ∃ y ∈ d.ic.pend, y.1 = n ∧ y.2.shown = some t) ∧
     (∀ n a b, a < 6 → b < 6 → a ≠ b → d.ready a = true → d.ready b = true →
       (∀ m, m < 6 → srcTgt (d.reg (Reg.icSrc n)) m = (decide (m = a) || decide (m = b))) →
       (d.take n a).pickTarget n = some b ∧ (d.take n b).pickTarget n = some a))

/-! ### Access tables and the ways in (21, 12) -/

/-- R413, R414, R416, R417: PT_CUST and PT_LOCK only gain bits, by master 1; a table write against custody or a lock, or by another master,
is a violation of target 7, one that does not fit its target is dropped with 0x01, another takes effect; the first violation after VALID
was cleared is recorded and each later one counts, with event 1; and clearing VALID clears MORE and CNT. -/
def Obligations.AccessTablesDecide : Prop :=
  ∀ (s : State) (src : Src) (t o : Nat) (v : Word), t < 27 → o = 0 ∨ (0x80 ≤ o ∧ o < 0x100 ∧ o % 4 = 0) →
    let d := s.dev
    let k := 0x200000 + 0x100 * t + o
    let a := if src = .custodian then 0x4000 + 0x100 * t + o else k
    (d.serves src = true → (∀ n, src ≠ .lp n) →
      ((src = .debug ∨ (src = .game ∧ d.rb Reg.ptCust t = true) ∨ d.rb Reg.ptLock t = true) →
        Writes (.tableWrite src a v) s src (d.violate (masterOf src) 0 7 true (0x100 * t + o))) ∧
      (src ≠ .debug → (src = .game → d.rb Reg.ptCust t = false) → d.rb Reg.ptLock t = false →
        (d.tableOk t o v = false → Writes (.tableWrite src a v) s src (d.refuse Reg.ptChk (chkWord 1 8 t))) ∧
        (d.tableOk t o v = true → ∃ e, Writes (.tableWrite src a v) s src e ∧ e.reg k = (if o = 0 then v &&& 0xFFFF else v) ∧
          e.rf Reg.ptChk 7 0 = 0 ∧ SameRegs [k, Reg.ptChk] d e ∧ e.mem = d.mem))) ∧
    (d.serves .custodian = true →
      (∃ e, Writes (.custodySet .custodian v) s .custodian e ∧ e.reg Reg.ptCust = d.reg Reg.ptCust ||| (v &&& 0x7FFFFFF) ∧
        SameRegs [Reg.ptCust] d e) ∧
      (∃ e, Writes (.lockSet .custodian v) s .custodian e ∧ e.reg Reg.ptLock = d.reg Reg.ptLock ||| (v &&& 0x7FFFFFF) ∧
        SameRegs [Reg.ptLock] d e)) ∧
    (WriteOk s src Reg.ptVlog → ∃ e, Writes (.violationLogClear src) s src e ∧ e.rf Reg.ptVlog 31 14 = 0 ∧
      e.rf Reg.ptVlog 13 0 = d.rf Reg.ptVlog 13 0 ∧ SameRegs [Reg.ptVlog] d e) ∧
    (∀ m own tg wr addr, m < 16 → own < 16 → tg < 32 →
      let e := d.violate m own tg wr addr
      e.rb (Reg.icRaw 0) 1 = true ∧ e.mem = d.mem ∧ e.rb Reg.ptVlog 14 = true ∧
      (d.rb Reg.ptVlog 14 = false → e.rf Reg.ptVlog 3 0 = m ∧ e.rf Reg.ptVlog 7 4 = own ∧ e.rf Reg.ptVlog 12 8 = tg ∧
        e.rb Reg.ptVlog 13 = wr ∧ e.rb Reg.ptVlog 15 = false ∧ e.rf Reg.ptVlog 31 16 = 0 ∧
        e.reg Reg.ptVaddrLo = BitVec.ofNat 32 addr) ∧
      (d.rb Reg.ptVlog 14 = true → e.rb Reg.ptVlog 15 = true ∧ e.rf Reg.ptVlog 31 16 = min 65535 (d.rf Reg.ptVlog 31 16 + 1) ∧
        e.rf Reg.ptVlog 13 0 = d.rf Reg.ptVlog 13 0 ∧ e.reg Reg.ptVaddrLo = d.reg Reg.ptVaddrLo))

/-- R7 to R9, R14, R41, R245, R246, R413, R438: a register write that is admitted acts by its access codes, one without its four bytes
changes nothing, and one that is not is a violation; a BAR0 access is the register access it carries; a write through BAR2 or BAR4 lands
in its memory and a read answers what stands there; the debug port does likewise; and a timeout or a freed entry ends or issues the
access that waited. -/
def Obligations.AccessesReachMemory : Prop :=
  ∀ (s : State) (src : Src) (a : Nat) (v : Word) (be : BitVec 4),
    let d := s.dev
    let pl := placeOf src a
    let free (m : Nat) := d.memc.waiting.any (fun h => h.master = m) = false
    (d.serves src = true →
      (d.admits (masterOf src) pl true = false →
        Writes (.registerWrite src a v be) s src (d.violate (masterOf src) 0 pl.target true pl.off)) ∧
      (d.admits (masterOf src) pl true = true → be ≠ 15 → Writes (.registerWrite src a v be) s src d) ∧
      (∀ r, d.admits (masterOf src) pl true = true → pl.key / 0x100000 = 1 → pl.key ≠ Reg.pwrState → regDesc pl.key = some r →
        ∃ e, Writes (.registerWrite src a v 15) s src e ∧ e.reg pl.key = accessWrite r (d.reg pl.key) v ∧ SameRegs [pl.key] d e ∧
          e.mem = d.mem)) ∧
    (∀ f : Fin 2, exec (.barWrite f .bar0 a v be) s = exec (.registerWrite (fnSrc f) a v be) s) ∧
    (∀ f : Fin 2, let m := f.val
      d.serves (fnSrc f) = true → d.badRead (fnSrc f) a = false →
      let pl := placeOf (fnSrc f) a
      (d.admits m pl false = true → Reads (.barRead f .bar0 a) s (fnSrc f) (d.busRead m pl.key).1 (d.busRead m pl.key).2) ∧
      (d.admits m pl false = false → Reads (.barRead f .bar0 a) s (fnSrc f) 0 (d.violate m 0 pl.target false pl.off))) ∧
    (∀ (b : Bar) (id off : Nat), (b = .bar2 ∧ id = 0 ∧ off = d.bar2Byte a ∧ a < 268435456 ∧ d.memReady = true ∧ free 0) ∨
        (b = .bar4 ∧ id = 6 ∧ off = a / 4 * 4 ∧ a < 67108864) → off + 4 ≤ d.memBytes id → d.serves .game = true →
      (d.mayWrite 0 id off 4 = true → be ≠ 0 → d.badAt id off 4 = false → d.flipArmed id = false →
        ∃ e, Writes (.barWrite 0 b a v be) s .game e ∧
          (∀ i, i < 4 → e.peek id (off + i) = if be.getLsbD i then BitVec.ofNat 8 (v.toNat / 2 ^ (8 * i)) else d.peek id (off + i)) ∧
          ∀ j x, x < 2 ^ 40 → j ≠ id ∨ x < off ∨ off + 4 ≤ x → e.peek j x = d.peek j x) ∧
      (d.mayTouch 0 id off 4 false = false → Writes (.barWrite 0 b a v 15) s .game (d.violate 0 0 (memTarget id) true off)) ∧
      (d.mayTouch 0 id off 4 false = true → d.badAt id off 4 = false →
        Reads (.barRead 0 b a) s .game (BitVec.ofNat 32 (d.peekN id off 4)) (d.noteReads id 0 off 4))) ∧
    (d.power < 2 →
      (∀ sp, ∃ e, Settles (.debugAccess true sp a v) s e ∧ e.rb Reg.sysDetStat 5 = true) ∧
      (∀ wr, ∃ e, Settles (.debugAccess wr .ledgerSram a v) s e ∧ e.mem = d.mem ∧ e.rb (Reg.icRaw 0) 1 = true) ∧
      (a / 4 * 4 + 4 ≤ d.memBytes 6 → d.mayWrite 13 6 (a / 4 * 4) 4 = true → d.badAt 6 (a / 4 * 4) 4 = false → d.flipArmed 6 = false →
        ∃ e, Settles (.debugAccess true .frameStore a v) s e ∧ e.peekN 6 (a / 4 * 4) 4 = v.toNat)) ∧
    (∀ m : Fin 16, d.clocked = true → ∀ h, d.memc.waiting.find? (fun h => h.master = m.val) = some h → d.fabricFull = false →
      d.memReady = false → ∃ e, Acts (.fabricStallRelease m) s e ∧ e.memc.held = d.memc.held ++ [h] ∧ e.memc.waiting = d.memc.waiting.erase h) ∧
    (∀ (n : Fin 4) b keep rest, d.clocked = true → (d.lp n).io = .rd b keep :: rest →
      ∃ e, Settles (.fabricTimeout (.lpRead n)) s e ∧ (e.lp n).io = rest ∧ e.rb (Reg.icRaw 0) 2 = true ∧
        (keep = true → (e.lp n).get 72 = 0)) ∧
    (∀ m : Fin 16, d.clocked = true → ∃ e, Settles (.fabricTimeout (.other m)) s e ∧ e.rb (Reg.icRaw 0) 2 = true ∧ e.mem = d.mem)

/-! ### Power, clocks, reset and start-up (22) -/

/-- R426, R427: at a slot's start the pending starts are granted in rising order while their weights fit 1.5 A, the rest stay in their
order; an enable is granted at once when nothing is pending and it fits, and else becomes pending, which raises event 6 and is logged
once in a slot. -/
def Obligations.LadderGrantsInOrder : Prop :=
  ∀ (s : State),
    let d := s.dev
    (d.clocked = true → d.ladder.pending.Nodup → ∃ e granted, Acts .ladderSlot s e ∧
      d.ladder.pending = granted ++ e.ladder.pending ∧ e.ladder.used = (granted.map ladderWeight).sum ∧ e.ladder.used ≤ 15 ∧
      (∀ i rest, e.ladder.pending = i :: rest → 15 < e.ladder.used + ladderWeight i) ∧
      (∀ i ∈ granted, i ∈ e.ladder.running) ∧ (∀ i ∈ d.ladder.running, i ∈ e.ladder.running) ∧ e.mem = d.mem) ∧
    (∀ i, i < 16 → let e := d.ask i
      (d.ladder.pending = [] → d.ladder.used + ladderWeight i ≤ 15 → e.laddered i = true ∧ e.ladder.pending = [] ∧
        e.ladder.used = d.ladder.used + ladderWeight i ∧ e.ic = d.ic) ∧
      (d.ladder.pending ≠ [] ∨ 15 < d.ladder.used + ladderWeight i → e.ladder.pending = insertStart i d.ladder.pending ∧
        e.ladder.running = d.ladder.running ∧
        (d.ladder.told = true → e.ic = d.ic ∧ e.regs = d.regs) ∧
        (d.ladder.told = false → e.rb (Reg.icRaw 0) 6 = true ∧ e.rf Reg.pwrLadlog 3 0 = i ∧
          e.rf Reg.pwrLadlog 31 16 = min 65535 (d.rf Reg.pwrLadlog 31 16 + 1))))

/-- R430 to R433: every write of PWR_STATE takes WAKETO; DIM waits for the master frame start, RUN from DIM puts the ports and pipes that
ran on the ladder, HOLD is refused with 0x45 or 0x46 or waits for the line processors, OFF waits 10 µs; HOLD stops ports and coils,
keeps memory and marks determinism broken; and a wake enabled in PWR_WAKE enters the state WAKETO names, with its cause and every engine
that ran on the ladder. -/
def Obligations.PowerStatesFollow : Prop :=
  ∀ (s : State) (src : Src) (w : Bool),
    let d := s.dev
    let d1 := d.setRb Reg.pwrState 8 w
    (WriteOk s src Reg.pwrState →
      (d.power = 0 → Writes (.run src w) s src d1 ∧
        ∃ e, Writes (.dim src w) s src e ∧ e.pwr.dimReq = true ∧ e.power = 0 ∧ e.rb Reg.pwrState 8 = w ∧ e.reg Reg.pwrChk = 0) ∧
      (d.power = 1 → Writes (.dim src w) s src d1 ∧
        ∃ e, Writes (.run src w) s src e ∧ e.power = 0 ∧ e.rb Reg.pwrState 8 = w ∧ e.reg Reg.pwrChk = 0 ∧
          ∀ i, 2 ≤ i → i < 7 → d.laddered i = true → i ∈ e.ladder.pending) ∧
      (d.rb Reg.clkStat 16 = false → Writes (.hold src w) s src (d1.refuse Reg.pwrChk 0x45)) ∧
      (d.rb Reg.clkStat 16 = true → d.mayHold = false → Writes (.hold src w) s src (d1.refuse Reg.pwrChk 0x46)) ∧
      (d.rb Reg.clkStat 16 = true → d.mayHold = true → ∃ e, Writes (.hold src w) s src e ∧ e.pwr.holdReq = true ∧ e.power = d.power ∧
        e.rb Reg.pwrState 8 = w ∧ e.reg Reg.pwrChk = 0) ∧
      (d.lg.run.isSome = true → Writes (.off src w) s src (d1.refuse Reg.pwrChk 0x46)) ∧
      (d.lg.run = none → ∃ e, Writes (.off src w) s src e ∧ e.pwr.offReq = true ∧ e.rb Reg.pwrRstcause 5 = true ∧
        e.rb Reg.pwrState 8 = w ∧ e.reg Reg.pwrChk = 0)) ∧
    (d.pwr.dimReq = true → d.power = 0 → let e := d.enterDim
      e.power = 1 ∧ e.mem = d.mem ∧ (∀ x, x < 3 → d.soEn x = true → (e.port x).run = false ∧ e.soEn x = true) ∧
      ∀ p, p < 2 → (d.feed p).isSome = true → (e.tq p).entries = [] ∧ (e.gate p).pend = [] ∧ (e.gate p).env = (d.gate p).env) ∧
    (d.clocked = true → d.pwr.holdReq = true → ∃ e, Acts .holdEntry s e ∧ e.power = 2 ∧ e.pwr.holdReq = false ∧ e.mem = d.mem ∧
      e.rb Reg.sysDetStat 6 = true ∧ e.rf Reg.clkStat 7 0 = 0 ∧ e.io.drv.charges = [] ∧
      ∀ x, x < 3 → d.soEn x = true → (e.port x).run = false ∧ e.soEn x = true) ∧
    (∀ c, d.power = 2 →
      (d.rb Reg.pwrWake (wakeBit c) = false ∨ d.wakeStands c = false → Acts (.wake c) s d) ∧
      (d.rb Reg.pwrWake (wakeBit c) = true → d.wakeStands c = true → ∃ e, Settles (.wake c) s e ∧ e.power = b2n (d.rb Reg.pwrState 8) ∧
        e.reg Reg.pwrWakesrc = BitVec.ofNat 32 (2 ^ wakeBit c) ∧ e.mem = d.mem ∧
        ∀ i, i < 16 → d.laddered i = true → (d.rb Reg.pwrState 8 = false ∨ i < 2 ∨ 7 ≤ i) → i ∈ e.ladder.pending)) ∧
    (d.power ≠ 3 → d.pwr.offReq = true → ∃ e, Acts .coreEnFall s e ∧ e.power = 3 ∧ e.pwr.coreEn = false ∧
      e.sent = d.sent ++ [.coreEn false] ∧ e.reg Reg.pwrRstcause = d.reg Reg.pwrRstcause ∧ e.reg Reg.pwrCfg = d.reg Reg.pwrCfg ∧
      e.mem = [] ∧ e.syn = [])

/-- R66, R87, R121, R150, R169, R353, R434: a power-on reset restores every register and clears memory; another reset that reaches the core
adds its cause and keeps PWR_CFG and, while the core had power, the frame store; PERST# of scope 1 resets the host interface alone. -/
def Obligations.ResetsRestore : Prop :=
  ∀ (s : State),
    let d := s.dev
    let cold (k : Nat) := k ≠ Reg.pwrCfg ∧ k ≠ Reg.pwrRstcause ∧ k ≠ Reg.lgStat
    let core (e : Dev) (cause : Word) := e.reg Reg.pwrRstcause = (d.reg Reg.pwrRstcause ||| cause) ∧
      e.reg Reg.pwrCfg = d.reg Reg.pwrCfg ∧ (∀ k, cold k → e.reg k = resetWord k) ∧
      (∀ id off, id < 20 → id ≠ 6 → off < 2 ^ 40 → e.peek id off = 0)
    (∃ e, Acts .powerOnReset s e ∧ (∀ k, e.reg k = resetWord k) ∧ e.reg Reg.pwrRstcause = 1 ∧ ∀ id off, e.peek id off = 0) ∧
    (d.power ≠ 3 → ∀ c cause, (c, cause) ∈ [(Instr.sysRstN, (4 : Word)), (.debugReset, 4)] ∨
        (c = .perst ∧ cause = 8 ∧ d.rb Reg.pwrCfg 0 = false) ∨ (c = .pllLockLost 0 true ∧ cause = 2 ∧ d.rb Reg.clkStat 0 = true) →
      ∃ e, Acts c s e ∧ core e cause ∧ e.sent = d.sent ∧ ∀ off, off < 2 ^ 40 → e.peek 6 off = d.peek 6 off) ∧
    (d.power = 3 → ∀ c cause, (c, cause) ∈ [(Instr.corePowerOn, (2 : Word)), (.sysRstN, 6), (.debugReset, 6), (.perst, 10)] →
      ∃ e, Acts c s e ∧ core e cause ∧ e.sent = d.sent ++ [.coreEn true] ∧ ∀ off, off < 2 ^ 40 → e.peek 6 off = 0) ∧
    (d.power < 2 → d.rb Reg.pwrCfg 0 = true → ∃ e, Acts .perst s e ∧ e.rb Reg.pwrRstcause 3 = true ∧ e.link = false ∧ e.rings = [] ∧
      (∀ k, hiRegister k = true → e.reg k = resetWord k) ∧ e.mem = d.mem ∧ e.ladder = d.ladder)

/-- R428, R429, R435 to R437, R439: the straps are sampled at a reset's release; function 0 becomes ready with the PLLs locked; a lost PLL
sets its LOST bit; the sensor's reading is stored, and warns and trips at its thresholds; a trip turns the coils off and ends in OFF; a
freeze stops the clocks with the coils off and memory kept, and a thaw starts them again. -/
def Obligations.DeviceStartsAndFreezes : Prop :=
  ∀ (s : State),
    let d := s.dev
    (∀ straps, d.power ≠ 3 → d.pwr.released = false → ∃ e, Acts (.resetRelease straps) s e ∧ e.pwr.released = true ∧
      e.rf Reg.pwrStrap 3 0 = straps.toNat ∧ e.rb Reg.pwrStrap 4 = decide (straps.toNat % 4 = 3) ∧ SameRegs [Reg.pwrStrap] d e) ∧
    (d.clocked = true → d.pwr.released = true → d.fnReady 0 = false → ∃ e, Acts .f0Ready s e ∧ e.fnReady 0 = true ∧
      e.fnReady 1 = d.fnReady 1 ∧ (∀ i ∈ [0, 2, 7], e.rb Reg.clkStat i = true)) ∧
    (∀ (i : Fin 8) relock, i ≠ 0 → d.power ≠ 3 → d.rb Reg.clkStat i = true → ∃ e, Acts (.pllLockLost i relock) s e ∧
      e.rb Reg.clkStat (8 + i) = true ∧ e.rb Reg.clkStat i = relock ∧ SameRegs [Reg.clkStat] d e) ∧
    (d.power ≠ 3 → Acts .slckRunning s (d.setRb Reg.clkStat 16 true)) ∧
    (∀ t : BitVec 12, d.power ≠ 3 → ∃ e, Acts (.temperatureReading t) s e ∧ e.rf Reg.pwrTemp 11 0 = t.toNat ∧
      (4 * (d.rf Reg.pwrTherm 7 0 : Int) < t.toInt → d.pwr.warned = false → e.rb (Reg.icRaw 0) 3 = true ∧ e.pwr.warned = true) ∧
      (t.toInt ≤ 4 * (d.rf Reg.pwrTherm 7 0 : Int) - 20 → e.pwr.warned = false) ∧
      (460 ≤ t.toInt → d.pwr.tripping = false → e.rb (Reg.icRaw 0) 4 = true ∧ e.pwr.tripping = true) ∧
      (460 ≤ t.toInt → d.pwr.tripping = false → d.rf Reg.pwrTherm 15 8 = 0 → d.pwr.offReq = false →
        e.pwr.offReq = true ∧ e.rb Reg.pwrRstcause 4 = true)) ∧
    (d.power ≠ 3 → d.pwr.tripping = true → d.pwr.offReq = false → ∃ e, Acts .thermalTrip s e ∧ e.pwr.offReq = true ∧
      e.rb Reg.pwrRstcause 4 = true ∧ e.io.drv.charges = [] ∧ ∀ x, x < 3 → d.soEn x = true → (e.port x).run = false) ∧
    (d.power < 2 → d.frozen = false → ∃ e, Acts .freeze s e ∧ e.frozen = true ∧ e.clocked = false ∧ e.rb Reg.sysDetStat 5 = true ∧
      e.mem = d.mem ∧ e.io.drv.charges = []) ∧
    (d.power < 2 → d.frozen = true → ∃ e, Settles .thaw s e ∧ e.frozen = false ∧ e.clocked = true ∧ e.mem = d.mem ∧ e.lps = d.lps)
end

