-- ==== Sys2Proof/Laws/Tab.lean ====
section
/-! SUPPORT. The sparse table: what a read after a write gives, and that every operation keeps the canonical form. -/

namespace Sys2Proof

variable {α : Type}

/-- A table listing nothing is canonical. -/
@[simp] theorem Tab.wf_nil [DecidableEq α] (dflt : Nat → α) : Tab.wf dflt ([] : Tab α) = true := rfl

/-- A table listing nothing reads the default everywhere. -/
@[simp] theorem Tab.get_nil (dflt : Nat → α) (i : Nat) : Tab.get dflt ([] : Tab α) i = dflt i := rfl

/-- Every index listed is above j. -/
def Tab.Above (j : Nat) (t : Tab α) : Prop := ∀ e ∈ t, j < e.1

/-- The canonical form, said of a table's head and rest. -/
theorem Tab.wf_cons [DecidableEq α] (dflt : Nat → α) (i : Nat) (a : α) (t : Tab α) :
    Tab.wf dflt ((i, a) :: t) = true ↔ a ≠ dflt i ∧ Tab.Above i t ∧ Tab.wf dflt t = true := by
  induction t generalizing i a with
  | nil => simp [Tab.wf, Tab.Above]
  | cons e t ih =>
    obtain ⟨j, b⟩ := e
    have hj := ih j b
    constructor
    · intro h
      simp only [Tab.wf, Bool.and_eq_true, decide_eq_true_eq] at h
      obtain ⟨⟨ha, hij⟩, hrest⟩ := h
      have hw : Tab.wf dflt ((j, b) :: t) = true := by simp only [Tab.wf, Bool.and_eq_true, decide_eq_true_eq]; exact hrest
      refine ⟨ha, ?_, hw⟩
      intro e he
      rcases List.mem_cons.mp he with rfl | he
      · exact hij
      · exact Nat.lt_trans hij ((hj.mp hw).2.1 e he)
    · rintro ⟨ha, hab, hw⟩
      simp only [Tab.wf, Bool.and_eq_true, decide_eq_true_eq] at hw ⊢
      exact ⟨⟨ha, hab (j, b) (List.mem_cons_self ..)⟩, hw⟩

/-- Filtering a table's indices keeps its form: an entry that stays keeps its value and its place. -/
theorem Tab.wf_filter [DecidableEq α] (dflt : Nat → α) (p : Nat × α → Bool) (t : Tab α) (h : Tab.wf dflt t = true) :
    Tab.wf dflt (t.filter p) = true := by
  induction t with
  | nil => rfl
  | cons e t ih =>
    obtain ⟨i, a⟩ := e
    obtain ⟨ha, hab, hw⟩ := (Tab.wf_cons dflt i a t).mp h
    by_cases hp : p (i, a)
    · rw [List.filter_cons_of_pos hp]
      exact (Tab.wf_cons dflt i a _).mpr ⟨ha, fun e he => hab e ((List.mem_filter.mp he).1), ih hw⟩
    · rw [List.filter_cons_of_neg hp]
      exact ih hw

/-- Erasing an index keeps the canonical form. -/
theorem Tab.wf_erase [DecidableEq α] (dflt : Nat → α) (t : Tab α) (i : Nat) (h : Tab.wf dflt t = true) :
    Tab.wf dflt (Tab.erase t i) = true := Tab.wf_filter dflt _ t h

/-- An erased index is not listed. -/
theorem Tab.erase_absent (t : Tab α) (i : Nat) : ∀ e ∈ Tab.erase t i, e.1 ≠ i := by
  intro e he
  simpa using (List.mem_filter.mp he).2

/-- What an insertion lists: the new entry and those of before. -/
theorem Tab.mem_insert (t : Tab α) (i : Nat) (a : α) (e : Nat × α) (h : e ∈ Tab.insert t i a) : e = (i, a) ∨ e ∈ t := by
  induction t with
  | nil => simpa [Tab.insert] using h
  | cons f t ih =>
    obtain ⟨j, b⟩ := f
    simp only [Tab.insert] at h
    split at h
    · simpa using h
    · rcases List.mem_cons.mp h with rfl | h
      · exact .inr (List.mem_cons_self ..)
      · exact (ih h).imp id (List.mem_cons_of_mem _)

/-- Inserting a value that is not the default at an index not listed keeps the canonical form. -/
theorem Tab.wf_insert [DecidableEq α] (dflt : Nat → α) (t : Tab α) (i : Nat) (a : α) (h : Tab.wf dflt t = true)
    (hn : ∀ e ∈ t, e.1 ≠ i) (ha : a ≠ dflt i) : Tab.wf dflt (Tab.insert t i a) = true := by
  induction t with
  | nil => simp [Tab.insert, Tab.wf, ha]
  | cons f t ih =>
    obtain ⟨j, b⟩ := f
    obtain ⟨hb, hab, hw⟩ := (Tab.wf_cons dflt j b t).mp h
    have hji : j ≠ i := hn (j, b) (List.mem_cons_self ..)
    simp only [Tab.insert]
    split
    next hij =>
      refine (Tab.wf_cons dflt i a _).mpr ⟨ha, ?_, h⟩
      intro e he
      rcases List.mem_cons.mp he with rfl | he
      · exact hij
      · exact Nat.lt_trans hij (hab e he)
    next hij =>
      refine (Tab.wf_cons dflt j b _).mpr ⟨hb, ?_, ih hw (fun e he => hn e (List.mem_cons_of_mem _ he))⟩
      intro e he
      rcases Tab.mem_insert t i a e he with rfl | he
      · exact Nat.lt_of_le_of_ne (Nat.le_of_not_lt hij) hji
      · exact hab e he

/-- A write keeps the canonical form. -/
theorem Tab.wf_put [DecidableEq α] (dflt : Nat → α) (t : Tab α) (i : Nat) (a : α) (h : Tab.wf dflt t = true) :
    Tab.wf dflt (Tab.put dflt t i a) = true := by
  unfold Tab.put
  split
  · exact Tab.wf_erase dflt t i h
  next ha => exact Tab.wf_insert dflt _ i a (Tab.wf_erase dflt t i h) (Tab.erase_absent t i) ha

/-- A read at an index not listed gives the default. -/
theorem Tab.get_absent (dflt : Nat → α) (t : Tab α) (i : Nat) (h : ∀ e ∈ t, e.1 ≠ i) : Tab.get dflt t i = dflt i := by
  induction t with
  | nil => rfl
  | cons f t ih =>
    obtain ⟨j, b⟩ := f
    have hj : j ≠ i := h (j, b) (List.mem_cons_self ..)
    simp only [Tab.get, hj, if_false]
    exact ih (fun e he => h e (List.mem_cons_of_mem _ he))

/-- Erasing one index leaves a read at another alone. -/
theorem Tab.get_erase_ne (dflt : Nat → α) (t : Tab α) (i j : Nat) (h : j ≠ i) :
    Tab.get dflt (Tab.erase t i) j = Tab.get dflt t j := by
  induction t with
  | nil => rfl
  | cons f t ih =>
    obtain ⟨k, b⟩ := f
    by_cases hk : k = i
    · have he : Tab.erase ((k, b) :: t) i = Tab.erase t i := by simp [Tab.erase, hk]
      have hkj : k ≠ j := fun e => h (e ▸ hk)
      rw [he, ih]
      simp [Tab.get, hkj]
    · have he : Tab.erase ((k, b) :: t) i = (k, b) :: Tab.erase t i := by simp [Tab.erase, hk]
      rw [he]
      simp only [Tab.get, ih]

/-- A read of an inserted table at the inserted index. -/
theorem Tab.get_insert_same (dflt : Nat → α) (t : Tab α) (i : Nat) (a : α) (hn : ∀ e ∈ t, e.1 ≠ i) :
    Tab.get dflt (Tab.insert t i a) i = a := by
  induction t with
  | nil => simp [Tab.insert, Tab.get]
  | cons f t ih =>
    obtain ⟨j, b⟩ := f
    have hj : j ≠ i := hn (j, b) (List.mem_cons_self ..)
    simp only [Tab.insert]
    split
    · simp [Tab.get]
    · simp only [Tab.get, hj, if_false]
      exact ih (fun e he => hn e (List.mem_cons_of_mem _ he))

/-- A read of an inserted table at any other index. -/
theorem Tab.get_insert_ne (dflt : Nat → α) (t : Tab α) (i j : Nat) (a : α) (h : j ≠ i) :
    Tab.get dflt (Tab.insert t i a) j = Tab.get dflt t j := by
  have hi : i ≠ j := fun e => h e.symm
  induction t with
  | nil => simp [Tab.insert, Tab.get, hi]
  | cons f t ih =>
    obtain ⟨k, b⟩ := f
    simp only [Tab.insert]
    split
    · simp [Tab.get, hi]
    · simp only [Tab.get, ih]

/-- A read after a write to the same index gives the value written. -/
@[simp] theorem Tab.get_put_same [DecidableEq α] (dflt : Nat → α) (t : Tab α) (i : Nat) (a : α) :
    Tab.get dflt (Tab.put dflt t i a) i = a := by
  unfold Tab.put
  split
  next h => rw [Tab.get_absent dflt _ i (Tab.erase_absent t i), h]
  · exact Tab.get_insert_same dflt _ i a (Tab.erase_absent t i)

/-- A write leaves every other index alone. -/
theorem Tab.get_put_ne [DecidableEq α] (dflt : Nat → α) (t : Tab α) (i j : Nat) (a : α) (h : j ≠ i) :
    Tab.get dflt (Tab.put dflt t i a) j = Tab.get dflt t j := by
  unfold Tab.put
  split
  · exact Tab.get_erase_ne dflt t i j h
  · rw [Tab.get_insert_ne dflt _ i j a h, Tab.get_erase_ne dflt t i j h]

/-- A read after a write, in one form. -/
theorem Tab.get_put [DecidableEq α] (dflt : Nat → α) (t : Tab α) (i j : Nat) (a : α) :
    Tab.get dflt (Tab.put dflt t i a) j = if j = i then a else Tab.get dflt t j := by
  by_cases h : j = i
  · subst h; simp
  · simp [h, Tab.get_put_ne dflt t i j a h]

end Sys2Proof
end

