-- ==== Sys2Proof/Laws/State.lean ====
section
/-! SUPPORT. The device's named updates: what each one changes, and, field by field, that it changes nothing else. -/

namespace Sys2Proof.Machine

open Sys2Proof

/-! ### What each update writes -/

@[simp] theorem Dev.reg_setReg_same (d : Dev) (a : Nat) (v : Word) : (d.setReg a v).reg a = v := by
  simp [Dev.reg, Dev.setReg]

theorem Dev.reg_setReg_ne (d : Dev) (a b : Nat) (v : Word) (h : b ≠ a) : (d.setReg a v).reg b = d.reg b := by
  simp [Dev.reg, Dev.setReg, Tab.get_put_ne _ _ _ _ _ h]

theorem Dev.reg_setReg (d : Dev) (a b : Nat) (v : Word) : (d.setReg a v).reg b = if b = a then v else d.reg b := by
  simp [Dev.reg, Dev.setReg, Tab.get_put]

theorem Dev.setReg_wf (d : Dev) (a : Nat) (v : Word) (h : Tab.wf resetWord d.regs = true) :
    Tab.wf resetWord (d.setReg a v).regs = true := Tab.wf_put _ _ _ _ h

@[simp] theorem Dev.tq_setTq_same (d : Dev) (i : Nat) (q : TwqSt) : (d.setTq i q).tq i = q := by
  simp [Dev.tq, Dev.setTq]

theorem Dev.tq_setTq_ne (d : Dev) (i j : Nat) (q : TwqSt) (h : j ≠ i) : (d.setTq i q).tq j = d.tq j := by
  simp [Dev.tq, Dev.setTq, Tab.get_put_ne _ _ _ _ _ h]

@[simp] theorem Dev.pipe_setPipe_same (d : Dev) (i : Nat) (q : PipeSt) : (d.setPipe i q).pipe i = q := by
  simp [Dev.pipe, Dev.setPipe]

theorem Dev.pipe_setPipe_ne (d : Dev) (i j : Nat) (q : PipeSt) (h : j ≠ i) : (d.setPipe i q).pipe j = d.pipe j := by
  simp [Dev.pipe, Dev.setPipe, Tab.get_put_ne _ _ _ _ _ h]

@[simp] theorem Dev.port_setPort_same (d : Dev) (i : Nat) (q : PortSt) : (d.setPort i q).port i = q := by
  simp [Dev.port, Dev.setPort]

theorem Dev.port_setPort_ne (d : Dev) (i j : Nat) (q : PortSt) (h : j ≠ i) : (d.setPort i q).port j = d.port j := by
  simp [Dev.port, Dev.setPort, Tab.get_put_ne _ _ _ _ _ h]

@[simp] theorem Dev.lp_setLp_same (d : Dev) (i : Nat) (q : LpSt) : (d.setLp i q).lp i = q := by
  simp [Dev.lp, Dev.setLp]

theorem Dev.lp_setLp_ne (d : Dev) (i j : Nat) (q : LpSt) (h : j ≠ i) : (d.setLp i q).lp j = d.lp j := by
  simp [Dev.lp, Dev.setLp, Tab.get_put_ne _ _ _ _ _ h]

@[simp] theorem Dev.fn_setFn_same (d : Dev) (i : Nat) (q : HostSt) : (d.setFn i q).fn i = q := by
  simp [Dev.fn, Dev.setFn]

theorem Dev.fn_setFn_ne (d : Dev) (i j : Nat) (q : HostSt) (h : j ≠ i) : (d.setFn i q).fn j = d.fn j := by
  simp [Dev.fn, Dev.setFn, Tab.get_put_ne _ _ _ _ _ h]

@[simp] theorem Dev.ring_setRing_same (d : Dev) (i : Nat) (q : RingSt) : (d.setRing i q).ring i = q := by
  simp [Dev.ring, Dev.setRing]

theorem Dev.ring_setRing_ne (d : Dev) (i j : Nat) (q : RingSt) (h : j ≠ i) : (d.setRing i q).ring j = d.ring j := by
  simp [Dev.ring, Dev.setRing, Tab.get_put_ne _ _ _ _ _ h]

@[simp] theorem Dev.gate_setGate_same (d : Dev) (i : Nat) (q : HgSt) : (d.setGate i q).gate i = q := by
  simp [Dev.gate, Dev.setGate]

theorem Dev.gate_setGate_ne (d : Dev) (i j : Nat) (q : HgSt) (h : j ≠ i) : (d.setGate i q).gate j = d.gate j := by
  simp [Dev.gate, Dev.setGate, Tab.get_put_ne _ _ _ _ _ h]

/-! ### What each update leaves alone -/

@[simp] theorem Dev.setReg_live (d : Dev) (a : Nat) (v : Word) : (d.setReg a v).live = d.live := rfl
@[simp] theorem Dev.setReg_scan (d : Dev) (a : Nat) (v : Word) : (d.setReg a v).scan = d.scan := rfl
@[simp] theorem Dev.setReg_mem (d : Dev) (a : Nat) (v : Word) : (d.setReg a v).mem = d.mem := rfl
@[simp] theorem Dev.setReg_syn (d : Dev) (a : Nat) (v : Word) : (d.setReg a v).syn = d.syn := rfl
@[simp] theorem Dev.setReg_sent (d : Dev) (a : Nat) (v : Word) : (d.setReg a v).sent = d.sent := rfl
@[simp] theorem Dev.setReg_freeCtr (d : Dev) (a : Nat) (v : Word) : (d.setReg a v).freeCtr = d.freeCtr := rfl
@[simp] theorem Dev.setReg_time (d : Dev) (a : Nat) (v : Word) : (d.setReg a v).time = d.time := rfl
@[simp] theorem Dev.setReg_twq (d : Dev) (a : Nat) (v : Word) : (d.setReg a v).twq = d.twq := rfl
@[simp] theorem Dev.setReg_ic (d : Dev) (a : Nat) (v : Word) : (d.setReg a v).ic = d.ic := rfl
@[simp] theorem Dev.setReg_host (d : Dev) (a : Nat) (v : Word) : (d.setReg a v).host = d.host := rfl
@[simp] theorem Dev.setReg_rings (d : Dev) (a : Nat) (v : Word) : (d.setReg a v).rings = d.rings := rfl
@[simp] theorem Dev.setReg_link (d : Dev) (a : Nat) (v : Word) : (d.setReg a v).link = d.link := rfl
@[simp] theorem Dev.setReg_hg (d : Dev) (a : Nat) (v : Word) : (d.setReg a v).hg = d.hg := rfl
@[simp] theorem Dev.setReg_ladder (d : Dev) (a : Nat) (v : Word) : (d.setReg a v).ladder = d.ladder := rfl
@[simp] theorem Dev.setReg_pwr (d : Dev) (a : Nat) (v : Word) : (d.setReg a v).pwr = d.pwr := rfl
@[simp] theorem Dev.setReg_memc (d : Dev) (a : Nat) (v : Word) : (d.setReg a v).memc = d.memc := rfl
@[simp] theorem Dev.setReg_pipes (d : Dev) (a : Nat) (v : Word) : (d.setReg a v).pipes = d.pipes := rfl
@[simp] theorem Dev.setReg_ports (d : Dev) (a : Nat) (v : Word) : (d.setReg a v).ports = d.ports := rfl
@[simp] theorem Dev.setReg_lps (d : Dev) (a : Nat) (v : Word) : (d.setReg a v).lps = d.lps := rfl
@[simp] theorem Dev.setReg_io (d : Dev) (a : Nat) (v : Word) : (d.setReg a v).io = d.io := rfl
@[simp] theorem Dev.setReg_blit (d : Dev) (a : Nat) (v : Word) : (d.setReg a v).blit = d.blit := rfl
@[simp] theorem Dev.setReg_au (d : Dev) (a : Nat) (v : Word) : (d.setReg a v).au = d.au := rfl
@[simp] theorem Dev.setReg_asset (d : Dev) (a : Nat) (v : Word) : (d.setReg a v).asset = d.asset := rfl
@[simp] theorem Dev.setReg_flume (d : Dev) (a : Nat) (v : Word) : (d.setReg a v).flume = d.flume := rfl
@[simp] theorem Dev.setReg_lg (d : Dev) (a : Nat) (v : Word) : (d.setReg a v).lg = d.lg := rfl
@[simp] theorem Dev.setReg_gl (d : Dev) (a : Nat) (v : Word) : (d.setReg a v).gl = d.gl := rfl

@[simp] theorem Dev.setRf_live (d : Dev) (a hi lo v : Nat) : (d.setRf a hi lo v).live = d.live := rfl
@[simp] theorem Dev.setRf_scan (d : Dev) (a hi lo v : Nat) : (d.setRf a hi lo v).scan = d.scan := rfl
@[simp] theorem Dev.setRf_mem (d : Dev) (a hi lo v : Nat) : (d.setRf a hi lo v).mem = d.mem := rfl
@[simp] theorem Dev.setRf_syn (d : Dev) (a hi lo v : Nat) : (d.setRf a hi lo v).syn = d.syn := rfl
@[simp] theorem Dev.setRf_sent (d : Dev) (a hi lo v : Nat) : (d.setRf a hi lo v).sent = d.sent := rfl
@[simp] theorem Dev.setRf_freeCtr (d : Dev) (a hi lo v : Nat) : (d.setRf a hi lo v).freeCtr = d.freeCtr := rfl
@[simp] theorem Dev.setRf_time (d : Dev) (a hi lo v : Nat) : (d.setRf a hi lo v).time = d.time := rfl
@[simp] theorem Dev.setRf_twq (d : Dev) (a hi lo v : Nat) : (d.setRf a hi lo v).twq = d.twq := rfl
@[simp] theorem Dev.setRf_ic (d : Dev) (a hi lo v : Nat) : (d.setRf a hi lo v).ic = d.ic := rfl
@[simp] theorem Dev.setRf_host (d : Dev) (a hi lo v : Nat) : (d.setRf a hi lo v).host = d.host := rfl
@[simp] theorem Dev.setRf_rings (d : Dev) (a hi lo v : Nat) : (d.setRf a hi lo v).rings = d.rings := rfl
@[simp] theorem Dev.setRf_link (d : Dev) (a hi lo v : Nat) : (d.setRf a hi lo v).link = d.link := rfl
@[simp] theorem Dev.setRf_hg (d : Dev) (a hi lo v : Nat) : (d.setRf a hi lo v).hg = d.hg := rfl
@[simp] theorem Dev.setRf_ladder (d : Dev) (a hi lo v : Nat) : (d.setRf a hi lo v).ladder = d.ladder := rfl
@[simp] theorem Dev.setRf_pwr (d : Dev) (a hi lo v : Nat) : (d.setRf a hi lo v).pwr = d.pwr := rfl
@[simp] theorem Dev.setRf_memc (d : Dev) (a hi lo v : Nat) : (d.setRf a hi lo v).memc = d.memc := rfl
@[simp] theorem Dev.setRf_pipes (d : Dev) (a hi lo v : Nat) : (d.setRf a hi lo v).pipes = d.pipes := rfl
@[simp] theorem Dev.setRf_ports (d : Dev) (a hi lo v : Nat) : (d.setRf a hi lo v).ports = d.ports := rfl
@[simp] theorem Dev.setRf_lps (d : Dev) (a hi lo v : Nat) : (d.setRf a hi lo v).lps = d.lps := rfl
@[simp] theorem Dev.setRf_io (d : Dev) (a hi lo v : Nat) : (d.setRf a hi lo v).io = d.io := rfl
@[simp] theorem Dev.setRf_blit (d : Dev) (a hi lo v : Nat) : (d.setRf a hi lo v).blit = d.blit := rfl
@[simp] theorem Dev.setRf_au (d : Dev) (a hi lo v : Nat) : (d.setRf a hi lo v).au = d.au := rfl
@[simp] theorem Dev.setRf_asset (d : Dev) (a hi lo v : Nat) : (d.setRf a hi lo v).asset = d.asset := rfl
@[simp] theorem Dev.setRf_flume (d : Dev) (a hi lo v : Nat) : (d.setRf a hi lo v).flume = d.flume := rfl
@[simp] theorem Dev.setRf_lg (d : Dev) (a hi lo v : Nat) : (d.setRf a hi lo v).lg = d.lg := rfl
@[simp] theorem Dev.setRf_gl (d : Dev) (a hi lo v : Nat) : (d.setRf a hi lo v).gl = d.gl := rfl

@[simp] theorem Dev.setRb_live (d : Dev) (a i : Nat) (b : Bool) : (d.setRb a i b).live = d.live := rfl
@[simp] theorem Dev.setRb_scan (d : Dev) (a i : Nat) (b : Bool) : (d.setRb a i b).scan = d.scan := rfl
@[simp] theorem Dev.setRb_mem (d : Dev) (a i : Nat) (b : Bool) : (d.setRb a i b).mem = d.mem := rfl
@[simp] theorem Dev.setRb_syn (d : Dev) (a i : Nat) (b : Bool) : (d.setRb a i b).syn = d.syn := rfl
@[simp] theorem Dev.setRb_sent (d : Dev) (a i : Nat) (b : Bool) : (d.setRb a i b).sent = d.sent := rfl
@[simp] theorem Dev.setRb_freeCtr (d : Dev) (a i : Nat) (b : Bool) : (d.setRb a i b).freeCtr = d.freeCtr := rfl
@[simp] theorem Dev.setRb_time (d : Dev) (a i : Nat) (b : Bool) : (d.setRb a i b).time = d.time := rfl
@[simp] theorem Dev.setRb_twq (d : Dev) (a i : Nat) (b : Bool) : (d.setRb a i b).twq = d.twq := rfl
@[simp] theorem Dev.setRb_ic (d : Dev) (a i : Nat) (b : Bool) : (d.setRb a i b).ic = d.ic := rfl
@[simp] theorem Dev.setRb_host (d : Dev) (a i : Nat) (b : Bool) : (d.setRb a i b).host = d.host := rfl
@[simp] theorem Dev.setRb_rings (d : Dev) (a i : Nat) (b : Bool) : (d.setRb a i b).rings = d.rings := rfl
@[simp] theorem Dev.setRb_link (d : Dev) (a i : Nat) (b : Bool) : (d.setRb a i b).link = d.link := rfl
@[simp] theorem Dev.setRb_hg (d : Dev) (a i : Nat) (b : Bool) : (d.setRb a i b).hg = d.hg := rfl
@[simp] theorem Dev.setRb_ladder (d : Dev) (a i : Nat) (b : Bool) : (d.setRb a i b).ladder = d.ladder := rfl
@[simp] theorem Dev.setRb_pwr (d : Dev) (a i : Nat) (b : Bool) : (d.setRb a i b).pwr = d.pwr := rfl
@[simp] theorem Dev.setRb_memc (d : Dev) (a i : Nat) (b : Bool) : (d.setRb a i b).memc = d.memc := rfl
@[simp] theorem Dev.setRb_pipes (d : Dev) (a i : Nat) (b : Bool) : (d.setRb a i b).pipes = d.pipes := rfl
@[simp] theorem Dev.setRb_ports (d : Dev) (a i : Nat) (b : Bool) : (d.setRb a i b).ports = d.ports := rfl
@[simp] theorem Dev.setRb_lps (d : Dev) (a i : Nat) (b : Bool) : (d.setRb a i b).lps = d.lps := rfl
@[simp] theorem Dev.setRb_io (d : Dev) (a i : Nat) (b : Bool) : (d.setRb a i b).io = d.io := rfl
@[simp] theorem Dev.setRb_blit (d : Dev) (a i : Nat) (b : Bool) : (d.setRb a i b).blit = d.blit := rfl
@[simp] theorem Dev.setRb_au (d : Dev) (a i : Nat) (b : Bool) : (d.setRb a i b).au = d.au := rfl
@[simp] theorem Dev.setRb_asset (d : Dev) (a i : Nat) (b : Bool) : (d.setRb a i b).asset = d.asset := rfl
@[simp] theorem Dev.setRb_flume (d : Dev) (a i : Nat) (b : Bool) : (d.setRb a i b).flume = d.flume := rfl
@[simp] theorem Dev.setRb_lg (d : Dev) (a i : Nat) (b : Bool) : (d.setRb a i b).lg = d.lg := rfl
@[simp] theorem Dev.setRb_gl (d : Dev) (a i : Nat) (b : Bool) : (d.setRb a i b).gl = d.gl := rfl

@[simp] theorem Dev.apply_regs (d : Dev) (ks : List Nat) : (d.apply ks).regs = d.regs := rfl
@[simp] theorem Dev.apply_scan (d : Dev) (ks : List Nat) : (d.apply ks).scan = d.scan := rfl
@[simp] theorem Dev.apply_mem (d : Dev) (ks : List Nat) : (d.apply ks).mem = d.mem := rfl
@[simp] theorem Dev.apply_syn (d : Dev) (ks : List Nat) : (d.apply ks).syn = d.syn := rfl
@[simp] theorem Dev.apply_sent (d : Dev) (ks : List Nat) : (d.apply ks).sent = d.sent := rfl
@[simp] theorem Dev.apply_freeCtr (d : Dev) (ks : List Nat) : (d.apply ks).freeCtr = d.freeCtr := rfl
@[simp] theorem Dev.apply_time (d : Dev) (ks : List Nat) : (d.apply ks).time = d.time := rfl
@[simp] theorem Dev.apply_twq (d : Dev) (ks : List Nat) : (d.apply ks).twq = d.twq := rfl
@[simp] theorem Dev.apply_ic (d : Dev) (ks : List Nat) : (d.apply ks).ic = d.ic := rfl
@[simp] theorem Dev.apply_host (d : Dev) (ks : List Nat) : (d.apply ks).host = d.host := rfl
@[simp] theorem Dev.apply_rings (d : Dev) (ks : List Nat) : (d.apply ks).rings = d.rings := rfl
@[simp] theorem Dev.apply_link (d : Dev) (ks : List Nat) : (d.apply ks).link = d.link := rfl
@[simp] theorem Dev.apply_hg (d : Dev) (ks : List Nat) : (d.apply ks).hg = d.hg := rfl
@[simp] theorem Dev.apply_ladder (d : Dev) (ks : List Nat) : (d.apply ks).ladder = d.ladder := rfl
@[simp] theorem Dev.apply_pwr (d : Dev) (ks : List Nat) : (d.apply ks).pwr = d.pwr := rfl
@[simp] theorem Dev.apply_memc (d : Dev) (ks : List Nat) : (d.apply ks).memc = d.memc := rfl
@[simp] theorem Dev.apply_pipes (d : Dev) (ks : List Nat) : (d.apply ks).pipes = d.pipes := rfl
@[simp] theorem Dev.apply_ports (d : Dev) (ks : List Nat) : (d.apply ks).ports = d.ports := rfl
@[simp] theorem Dev.apply_lps (d : Dev) (ks : List Nat) : (d.apply ks).lps = d.lps := rfl
@[simp] theorem Dev.apply_io (d : Dev) (ks : List Nat) : (d.apply ks).io = d.io := rfl
@[simp] theorem Dev.apply_blit (d : Dev) (ks : List Nat) : (d.apply ks).blit = d.blit := rfl
@[simp] theorem Dev.apply_au (d : Dev) (ks : List Nat) : (d.apply ks).au = d.au := rfl
@[simp] theorem Dev.apply_asset (d : Dev) (ks : List Nat) : (d.apply ks).asset = d.asset := rfl
@[simp] theorem Dev.apply_flume (d : Dev) (ks : List Nat) : (d.apply ks).flume = d.flume := rfl
@[simp] theorem Dev.apply_lg (d : Dev) (ks : List Nat) : (d.apply ks).lg = d.lg := rfl
@[simp] theorem Dev.apply_gl (d : Dev) (ks : List Nat) : (d.apply ks).gl = d.gl := rfl

@[simp] theorem Dev.send_regs (d : Dev) (x : Sent) : (d.send x).regs = d.regs := rfl
@[simp] theorem Dev.send_live (d : Dev) (x : Sent) : (d.send x).live = d.live := rfl
@[simp] theorem Dev.send_scan (d : Dev) (x : Sent) : (d.send x).scan = d.scan := rfl
@[simp] theorem Dev.send_mem (d : Dev) (x : Sent) : (d.send x).mem = d.mem := rfl
@[simp] theorem Dev.send_syn (d : Dev) (x : Sent) : (d.send x).syn = d.syn := rfl
@[simp] theorem Dev.send_freeCtr (d : Dev) (x : Sent) : (d.send x).freeCtr = d.freeCtr := rfl
@[simp] theorem Dev.send_time (d : Dev) (x : Sent) : (d.send x).time = d.time := rfl
@[simp] theorem Dev.send_twq (d : Dev) (x : Sent) : (d.send x).twq = d.twq := rfl
@[simp] theorem Dev.send_ic (d : Dev) (x : Sent) : (d.send x).ic = d.ic := rfl
@[simp] theorem Dev.send_host (d : Dev) (x : Sent) : (d.send x).host = d.host := rfl
@[simp] theorem Dev.send_rings (d : Dev) (x : Sent) : (d.send x).rings = d.rings := rfl
@[simp] theorem Dev.send_link (d : Dev) (x : Sent) : (d.send x).link = d.link := rfl
@[simp] theorem Dev.send_hg (d : Dev) (x : Sent) : (d.send x).hg = d.hg := rfl
@[simp] theorem Dev.send_ladder (d : Dev) (x : Sent) : (d.send x).ladder = d.ladder := rfl
@[simp] theorem Dev.send_pwr (d : Dev) (x : Sent) : (d.send x).pwr = d.pwr := rfl
@[simp] theorem Dev.send_memc (d : Dev) (x : Sent) : (d.send x).memc = d.memc := rfl
@[simp] theorem Dev.send_pipes (d : Dev) (x : Sent) : (d.send x).pipes = d.pipes := rfl
@[simp] theorem Dev.send_ports (d : Dev) (x : Sent) : (d.send x).ports = d.ports := rfl
@[simp] theorem Dev.send_lps (d : Dev) (x : Sent) : (d.send x).lps = d.lps := rfl
@[simp] theorem Dev.send_io (d : Dev) (x : Sent) : (d.send x).io = d.io := rfl
@[simp] theorem Dev.send_blit (d : Dev) (x : Sent) : (d.send x).blit = d.blit := rfl
@[simp] theorem Dev.send_au (d : Dev) (x : Sent) : (d.send x).au = d.au := rfl
@[simp] theorem Dev.send_asset (d : Dev) (x : Sent) : (d.send x).asset = d.asset := rfl
@[simp] theorem Dev.send_flume (d : Dev) (x : Sent) : (d.send x).flume = d.flume := rfl
@[simp] theorem Dev.send_lg (d : Dev) (x : Sent) : (d.send x).lg = d.lg := rfl
@[simp] theorem Dev.send_gl (d : Dev) (x : Sent) : (d.send x).gl = d.gl := rfl

@[simp] theorem Dev.setTq_regs (d : Dev) (p : Nat) (q : TwqSt) : (d.setTq p q).regs = d.regs := rfl
@[simp] theorem Dev.setTq_live (d : Dev) (p : Nat) (q : TwqSt) : (d.setTq p q).live = d.live := rfl
@[simp] theorem Dev.setTq_scan (d : Dev) (p : Nat) (q : TwqSt) : (d.setTq p q).scan = d.scan := rfl
@[simp] theorem Dev.setTq_mem (d : Dev) (p : Nat) (q : TwqSt) : (d.setTq p q).mem = d.mem := rfl
@[simp] theorem Dev.setTq_syn (d : Dev) (p : Nat) (q : TwqSt) : (d.setTq p q).syn = d.syn := rfl
@[simp] theorem Dev.setTq_sent (d : Dev) (p : Nat) (q : TwqSt) : (d.setTq p q).sent = d.sent := rfl
@[simp] theorem Dev.setTq_freeCtr (d : Dev) (p : Nat) (q : TwqSt) : (d.setTq p q).freeCtr = d.freeCtr := rfl
@[simp] theorem Dev.setTq_time (d : Dev) (p : Nat) (q : TwqSt) : (d.setTq p q).time = d.time := rfl
@[simp] theorem Dev.setTq_ic (d : Dev) (p : Nat) (q : TwqSt) : (d.setTq p q).ic = d.ic := rfl
@[simp] theorem Dev.setTq_host (d : Dev) (p : Nat) (q : TwqSt) : (d.setTq p q).host = d.host := rfl
@[simp] theorem Dev.setTq_rings (d : Dev) (p : Nat) (q : TwqSt) : (d.setTq p q).rings = d.rings := rfl
@[simp] theorem Dev.setTq_link (d : Dev) (p : Nat) (q : TwqSt) : (d.setTq p q).link = d.link := rfl
@[simp] theorem Dev.setTq_hg (d : Dev) (p : Nat) (q : TwqSt) : (d.setTq p q).hg = d.hg := rfl
@[simp] theorem Dev.setTq_ladder (d : Dev) (p : Nat) (q : TwqSt) : (d.setTq p q).ladder = d.ladder := rfl
@[simp] theorem Dev.setTq_pwr (d : Dev) (p : Nat) (q : TwqSt) : (d.setTq p q).pwr = d.pwr := rfl
@[simp] theorem Dev.setTq_memc (d : Dev) (p : Nat) (q : TwqSt) : (d.setTq p q).memc = d.memc := rfl
@[simp] theorem Dev.setTq_pipes (d : Dev) (p : Nat) (q : TwqSt) : (d.setTq p q).pipes = d.pipes := rfl
@[simp] theorem Dev.setTq_ports (d : Dev) (p : Nat) (q : TwqSt) : (d.setTq p q).ports = d.ports := rfl
@[simp] theorem Dev.setTq_lps (d : Dev) (p : Nat) (q : TwqSt) : (d.setTq p q).lps = d.lps := rfl
@[simp] theorem Dev.setTq_io (d : Dev) (p : Nat) (q : TwqSt) : (d.setTq p q).io = d.io := rfl
@[simp] theorem Dev.setTq_blit (d : Dev) (p : Nat) (q : TwqSt) : (d.setTq p q).blit = d.blit := rfl
@[simp] theorem Dev.setTq_au (d : Dev) (p : Nat) (q : TwqSt) : (d.setTq p q).au = d.au := rfl
@[simp] theorem Dev.setTq_asset (d : Dev) (p : Nat) (q : TwqSt) : (d.setTq p q).asset = d.asset := rfl
@[simp] theorem Dev.setTq_flume (d : Dev) (p : Nat) (q : TwqSt) : (d.setTq p q).flume = d.flume := rfl
@[simp] theorem Dev.setTq_lg (d : Dev) (p : Nat) (q : TwqSt) : (d.setTq p q).lg = d.lg := rfl
@[simp] theorem Dev.setTq_gl (d : Dev) (p : Nat) (q : TwqSt) : (d.setTq p q).gl = d.gl := rfl

@[simp] theorem Dev.setPipe_regs (d : Dev) (p : Nat) (q : PipeSt) : (d.setPipe p q).regs = d.regs := rfl
@[simp] theorem Dev.setPipe_live (d : Dev) (p : Nat) (q : PipeSt) : (d.setPipe p q).live = d.live := rfl
@[simp] theorem Dev.setPipe_scan (d : Dev) (p : Nat) (q : PipeSt) : (d.setPipe p q).scan = d.scan := rfl
@[simp] theorem Dev.setPipe_mem (d : Dev) (p : Nat) (q : PipeSt) : (d.setPipe p q).mem = d.mem := rfl
@[simp] theorem Dev.setPipe_syn (d : Dev) (p : Nat) (q : PipeSt) : (d.setPipe p q).syn = d.syn := rfl
@[simp] theorem Dev.setPipe_sent (d : Dev) (p : Nat) (q : PipeSt) : (d.setPipe p q).sent = d.sent := rfl
@[simp] theorem Dev.setPipe_freeCtr (d : Dev) (p : Nat) (q : PipeSt) : (d.setPipe p q).freeCtr = d.freeCtr := rfl
@[simp] theorem Dev.setPipe_time (d : Dev) (p : Nat) (q : PipeSt) : (d.setPipe p q).time = d.time := rfl
@[simp] theorem Dev.setPipe_twq (d : Dev) (p : Nat) (q : PipeSt) : (d.setPipe p q).twq = d.twq := rfl
@[simp] theorem Dev.setPipe_ic (d : Dev) (p : Nat) (q : PipeSt) : (d.setPipe p q).ic = d.ic := rfl
@[simp] theorem Dev.setPipe_host (d : Dev) (p : Nat) (q : PipeSt) : (d.setPipe p q).host = d.host := rfl
@[simp] theorem Dev.setPipe_rings (d : Dev) (p : Nat) (q : PipeSt) : (d.setPipe p q).rings = d.rings := rfl
@[simp] theorem Dev.setPipe_link (d : Dev) (p : Nat) (q : PipeSt) : (d.setPipe p q).link = d.link := rfl
@[simp] theorem Dev.setPipe_hg (d : Dev) (p : Nat) (q : PipeSt) : (d.setPipe p q).hg = d.hg := rfl
@[simp] theorem Dev.setPipe_ladder (d : Dev) (p : Nat) (q : PipeSt) : (d.setPipe p q).ladder = d.ladder := rfl
@[simp] theorem Dev.setPipe_pwr (d : Dev) (p : Nat) (q : PipeSt) : (d.setPipe p q).pwr = d.pwr := rfl
@[simp] theorem Dev.setPipe_memc (d : Dev) (p : Nat) (q : PipeSt) : (d.setPipe p q).memc = d.memc := rfl
@[simp] theorem Dev.setPipe_ports (d : Dev) (p : Nat) (q : PipeSt) : (d.setPipe p q).ports = d.ports := rfl
@[simp] theorem Dev.setPipe_lps (d : Dev) (p : Nat) (q : PipeSt) : (d.setPipe p q).lps = d.lps := rfl
@[simp] theorem Dev.setPipe_io (d : Dev) (p : Nat) (q : PipeSt) : (d.setPipe p q).io = d.io := rfl
@[simp] theorem Dev.setPipe_blit (d : Dev) (p : Nat) (q : PipeSt) : (d.setPipe p q).blit = d.blit := rfl
@[simp] theorem Dev.setPipe_au (d : Dev) (p : Nat) (q : PipeSt) : (d.setPipe p q).au = d.au := rfl
@[simp] theorem Dev.setPipe_asset (d : Dev) (p : Nat) (q : PipeSt) : (d.setPipe p q).asset = d.asset := rfl
@[simp] theorem Dev.setPipe_flume (d : Dev) (p : Nat) (q : PipeSt) : (d.setPipe p q).flume = d.flume := rfl
@[simp] theorem Dev.setPipe_lg (d : Dev) (p : Nat) (q : PipeSt) : (d.setPipe p q).lg = d.lg := rfl
@[simp] theorem Dev.setPipe_gl (d : Dev) (p : Nat) (q : PipeSt) : (d.setPipe p q).gl = d.gl := rfl

@[simp] theorem Dev.setPort_regs (d : Dev) (x : Nat) (q : PortSt) : (d.setPort x q).regs = d.regs := rfl
@[simp] theorem Dev.setPort_live (d : Dev) (x : Nat) (q : PortSt) : (d.setPort x q).live = d.live := rfl
@[simp] theorem Dev.setPort_scan (d : Dev) (x : Nat) (q : PortSt) : (d.setPort x q).scan = d.scan := rfl
@[simp] theorem Dev.setPort_mem (d : Dev) (x : Nat) (q : PortSt) : (d.setPort x q).mem = d.mem := rfl
@[simp] theorem Dev.setPort_syn (d : Dev) (x : Nat) (q : PortSt) : (d.setPort x q).syn = d.syn := rfl
@[simp] theorem Dev.setPort_sent (d : Dev) (x : Nat) (q : PortSt) : (d.setPort x q).sent = d.sent := rfl
@[simp] theorem Dev.setPort_freeCtr (d : Dev) (x : Nat) (q : PortSt) : (d.setPort x q).freeCtr = d.freeCtr := rfl
@[simp] theorem Dev.setPort_time (d : Dev) (x : Nat) (q : PortSt) : (d.setPort x q).time = d.time := rfl
@[simp] theorem Dev.setPort_twq (d : Dev) (x : Nat) (q : PortSt) : (d.setPort x q).twq = d.twq := rfl
@[simp] theorem Dev.setPort_ic (d : Dev) (x : Nat) (q : PortSt) : (d.setPort x q).ic = d.ic := rfl
@[simp] theorem Dev.setPort_host (d : Dev) (x : Nat) (q : PortSt) : (d.setPort x q).host = d.host := rfl
@[simp] theorem Dev.setPort_rings (d : Dev) (x : Nat) (q : PortSt) : (d.setPort x q).rings = d.rings := rfl
@[simp] theorem Dev.setPort_link (d : Dev) (x : Nat) (q : PortSt) : (d.setPort x q).link = d.link := rfl
@[simp] theorem Dev.setPort_hg (d : Dev) (x : Nat) (q : PortSt) : (d.setPort x q).hg = d.hg := rfl
@[simp] theorem Dev.setPort_ladder (d : Dev) (x : Nat) (q : PortSt) : (d.setPort x q).ladder = d.ladder := rfl
@[simp] theorem Dev.setPort_pwr (d : Dev) (x : Nat) (q : PortSt) : (d.setPort x q).pwr = d.pwr := rfl
@[simp] theorem Dev.setPort_memc (d : Dev) (x : Nat) (q : PortSt) : (d.setPort x q).memc = d.memc := rfl
@[simp] theorem Dev.setPort_pipes (d : Dev) (x : Nat) (q : PortSt) : (d.setPort x q).pipes = d.pipes := rfl
@[simp] theorem Dev.setPort_lps (d : Dev) (x : Nat) (q : PortSt) : (d.setPort x q).lps = d.lps := rfl
@[simp] theorem Dev.setPort_io (d : Dev) (x : Nat) (q : PortSt) : (d.setPort x q).io = d.io := rfl
@[simp] theorem Dev.setPort_blit (d : Dev) (x : Nat) (q : PortSt) : (d.setPort x q).blit = d.blit := rfl
@[simp] theorem Dev.setPort_au (d : Dev) (x : Nat) (q : PortSt) : (d.setPort x q).au = d.au := rfl
@[simp] theorem Dev.setPort_asset (d : Dev) (x : Nat) (q : PortSt) : (d.setPort x q).asset = d.asset := rfl
@[simp] theorem Dev.setPort_flume (d : Dev) (x : Nat) (q : PortSt) : (d.setPort x q).flume = d.flume := rfl
@[simp] theorem Dev.setPort_lg (d : Dev) (x : Nat) (q : PortSt) : (d.setPort x q).lg = d.lg := rfl
@[simp] theorem Dev.setPort_gl (d : Dev) (x : Nat) (q : PortSt) : (d.setPort x q).gl = d.gl := rfl

@[simp] theorem Dev.setLp_regs (d : Dev) (n : Nat) (q : LpSt) : (d.setLp n q).regs = d.regs := rfl
@[simp] theorem Dev.setLp_live (d : Dev) (n : Nat) (q : LpSt) : (d.setLp n q).live = d.live := rfl
@[simp] theorem Dev.setLp_scan (d : Dev) (n : Nat) (q : LpSt) : (d.setLp n q).scan = d.scan := rfl
@[simp] theorem Dev.setLp_mem (d : Dev) (n : Nat) (q : LpSt) : (d.setLp n q).mem = d.mem := rfl
@[simp] theorem Dev.setLp_syn (d : Dev) (n : Nat) (q : LpSt) : (d.setLp n q).syn = d.syn := rfl
@[simp] theorem Dev.setLp_sent (d : Dev) (n : Nat) (q : LpSt) : (d.setLp n q).sent = d.sent := rfl
@[simp] theorem Dev.setLp_freeCtr (d : Dev) (n : Nat) (q : LpSt) : (d.setLp n q).freeCtr = d.freeCtr := rfl
@[simp] theorem Dev.setLp_time (d : Dev) (n : Nat) (q : LpSt) : (d.setLp n q).time = d.time := rfl
@[simp] theorem Dev.setLp_twq (d : Dev) (n : Nat) (q : LpSt) : (d.setLp n q).twq = d.twq := rfl
@[simp] theorem Dev.setLp_ic (d : Dev) (n : Nat) (q : LpSt) : (d.setLp n q).ic = d.ic := rfl
@[simp] theorem Dev.setLp_host (d : Dev) (n : Nat) (q : LpSt) : (d.setLp n q).host = d.host := rfl
@[simp] theorem Dev.setLp_rings (d : Dev) (n : Nat) (q : LpSt) : (d.setLp n q).rings = d.rings := rfl
@[simp] theorem Dev.setLp_link (d : Dev) (n : Nat) (q : LpSt) : (d.setLp n q).link = d.link := rfl
@[simp] theorem Dev.setLp_hg (d : Dev) (n : Nat) (q : LpSt) : (d.setLp n q).hg = d.hg := rfl
@[simp] theorem Dev.setLp_ladder (d : Dev) (n : Nat) (q : LpSt) : (d.setLp n q).ladder = d.ladder := rfl
@[simp] theorem Dev.setLp_pwr (d : Dev) (n : Nat) (q : LpSt) : (d.setLp n q).pwr = d.pwr := rfl
@[simp] theorem Dev.setLp_memc (d : Dev) (n : Nat) (q : LpSt) : (d.setLp n q).memc = d.memc := rfl
@[simp] theorem Dev.setLp_pipes (d : Dev) (n : Nat) (q : LpSt) : (d.setLp n q).pipes = d.pipes := rfl
@[simp] theorem Dev.setLp_ports (d : Dev) (n : Nat) (q : LpSt) : (d.setLp n q).ports = d.ports := rfl
@[simp] theorem Dev.setLp_io (d : Dev) (n : Nat) (q : LpSt) : (d.setLp n q).io = d.io := rfl
@[simp] theorem Dev.setLp_blit (d : Dev) (n : Nat) (q : LpSt) : (d.setLp n q).blit = d.blit := rfl
@[simp] theorem Dev.setLp_au (d : Dev) (n : Nat) (q : LpSt) : (d.setLp n q).au = d.au := rfl
@[simp] theorem Dev.setLp_asset (d : Dev) (n : Nat) (q : LpSt) : (d.setLp n q).asset = d.asset := rfl
@[simp] theorem Dev.setLp_flume (d : Dev) (n : Nat) (q : LpSt) : (d.setLp n q).flume = d.flume := rfl
@[simp] theorem Dev.setLp_lg (d : Dev) (n : Nat) (q : LpSt) : (d.setLp n q).lg = d.lg := rfl
@[simp] theorem Dev.setLp_gl (d : Dev) (n : Nat) (q : LpSt) : (d.setLp n q).gl = d.gl := rfl

@[simp] theorem Dev.setFn_regs (d : Dev) (f : Nat) (q : HostSt) : (d.setFn f q).regs = d.regs := rfl
@[simp] theorem Dev.setFn_live (d : Dev) (f : Nat) (q : HostSt) : (d.setFn f q).live = d.live := rfl
@[simp] theorem Dev.setFn_scan (d : Dev) (f : Nat) (q : HostSt) : (d.setFn f q).scan = d.scan := rfl
@[simp] theorem Dev.setFn_mem (d : Dev) (f : Nat) (q : HostSt) : (d.setFn f q).mem = d.mem := rfl
@[simp] theorem Dev.setFn_syn (d : Dev) (f : Nat) (q : HostSt) : (d.setFn f q).syn = d.syn := rfl
@[simp] theorem Dev.setFn_sent (d : Dev) (f : Nat) (q : HostSt) : (d.setFn f q).sent = d.sent := rfl
@[simp] theorem Dev.setFn_freeCtr (d : Dev) (f : Nat) (q : HostSt) : (d.setFn f q).freeCtr = d.freeCtr := rfl
@[simp] theorem Dev.setFn_time (d : Dev) (f : Nat) (q : HostSt) : (d.setFn f q).time = d.time := rfl
@[simp] theorem Dev.setFn_twq (d : Dev) (f : Nat) (q : HostSt) : (d.setFn f q).twq = d.twq := rfl
@[simp] theorem Dev.setFn_ic (d : Dev) (f : Nat) (q : HostSt) : (d.setFn f q).ic = d.ic := rfl
@[simp] theorem Dev.setFn_rings (d : Dev) (f : Nat) (q : HostSt) : (d.setFn f q).rings = d.rings := rfl
@[simp] theorem Dev.setFn_link (d : Dev) (f : Nat) (q : HostSt) : (d.setFn f q).link = d.link := rfl
@[simp] theorem Dev.setFn_hg (d : Dev) (f : Nat) (q : HostSt) : (d.setFn f q).hg = d.hg := rfl
@[simp] theorem Dev.setFn_ladder (d : Dev) (f : Nat) (q : HostSt) : (d.setFn f q).ladder = d.ladder := rfl
@[simp] theorem Dev.setFn_pwr (d : Dev) (f : Nat) (q : HostSt) : (d.setFn f q).pwr = d.pwr := rfl
@[simp] theorem Dev.setFn_memc (d : Dev) (f : Nat) (q : HostSt) : (d.setFn f q).memc = d.memc := rfl
@[simp] theorem Dev.setFn_pipes (d : Dev) (f : Nat) (q : HostSt) : (d.setFn f q).pipes = d.pipes := rfl
@[simp] theorem Dev.setFn_ports (d : Dev) (f : Nat) (q : HostSt) : (d.setFn f q).ports = d.ports := rfl
@[simp] theorem Dev.setFn_lps (d : Dev) (f : Nat) (q : HostSt) : (d.setFn f q).lps = d.lps := rfl
@[simp] theorem Dev.setFn_io (d : Dev) (f : Nat) (q : HostSt) : (d.setFn f q).io = d.io := rfl
@[simp] theorem Dev.setFn_blit (d : Dev) (f : Nat) (q : HostSt) : (d.setFn f q).blit = d.blit := rfl
@[simp] theorem Dev.setFn_au (d : Dev) (f : Nat) (q : HostSt) : (d.setFn f q).au = d.au := rfl
@[simp] theorem Dev.setFn_asset (d : Dev) (f : Nat) (q : HostSt) : (d.setFn f q).asset = d.asset := rfl
@[simp] theorem Dev.setFn_flume (d : Dev) (f : Nat) (q : HostSt) : (d.setFn f q).flume = d.flume := rfl
@[simp] theorem Dev.setFn_lg (d : Dev) (f : Nat) (q : HostSt) : (d.setFn f q).lg = d.lg := rfl
@[simp] theorem Dev.setFn_gl (d : Dev) (f : Nat) (q : HostSt) : (d.setFn f q).gl = d.gl := rfl

@[simp] theorem Dev.setRing_regs (d : Dev) (r : Nat) (q : RingSt) : (d.setRing r q).regs = d.regs := rfl
@[simp] theorem Dev.setRing_live (d : Dev) (r : Nat) (q : RingSt) : (d.setRing r q).live = d.live := rfl
@[simp] theorem Dev.setRing_scan (d : Dev) (r : Nat) (q : RingSt) : (d.setRing r q).scan = d.scan := rfl
@[simp] theorem Dev.setRing_mem (d : Dev) (r : Nat) (q : RingSt) : (d.setRing r q).mem = d.mem := rfl
@[simp] theorem Dev.setRing_syn (d : Dev) (r : Nat) (q : RingSt) : (d.setRing r q).syn = d.syn := rfl
@[simp] theorem Dev.setRing_sent (d : Dev) (r : Nat) (q : RingSt) : (d.setRing r q).sent = d.sent := rfl
@[simp] theorem Dev.setRing_freeCtr (d : Dev) (r : Nat) (q : RingSt) : (d.setRing r q).freeCtr = d.freeCtr := rfl
@[simp] theorem Dev.setRing_time (d : Dev) (r : Nat) (q : RingSt) : (d.setRing r q).time = d.time := rfl
@[simp] theorem Dev.setRing_twq (d : Dev) (r : Nat) (q : RingSt) : (d.setRing r q).twq = d.twq := rfl
@[simp] theorem Dev.setRing_ic (d : Dev) (r : Nat) (q : RingSt) : (d.setRing r q).ic = d.ic := rfl
@[simp] theorem Dev.setRing_host (d : Dev) (r : Nat) (q : RingSt) : (d.setRing r q).host = d.host := rfl
@[simp] theorem Dev.setRing_link (d : Dev) (r : Nat) (q : RingSt) : (d.setRing r q).link = d.link := rfl
@[simp] theorem Dev.setRing_hg (d : Dev) (r : Nat) (q : RingSt) : (d.setRing r q).hg = d.hg := rfl
@[simp] theorem Dev.setRing_ladder (d : Dev) (r : Nat) (q : RingSt) : (d.setRing r q).ladder = d.ladder := rfl
@[simp] theorem Dev.setRing_pwr (d : Dev) (r : Nat) (q : RingSt) : (d.setRing r q).pwr = d.pwr := rfl
@[simp] theorem Dev.setRing_memc (d : Dev) (r : Nat) (q : RingSt) : (d.setRing r q).memc = d.memc := rfl
@[simp] theorem Dev.setRing_pipes (d : Dev) (r : Nat) (q : RingSt) : (d.setRing r q).pipes = d.pipes := rfl
@[simp] theorem Dev.setRing_ports (d : Dev) (r : Nat) (q : RingSt) : (d.setRing r q).ports = d.ports := rfl
@[simp] theorem Dev.setRing_lps (d : Dev) (r : Nat) (q : RingSt) : (d.setRing r q).lps = d.lps := rfl
@[simp] theorem Dev.setRing_io (d : Dev) (r : Nat) (q : RingSt) : (d.setRing r q).io = d.io := rfl
@[simp] theorem Dev.setRing_blit (d : Dev) (r : Nat) (q : RingSt) : (d.setRing r q).blit = d.blit := rfl
@[simp] theorem Dev.setRing_au (d : Dev) (r : Nat) (q : RingSt) : (d.setRing r q).au = d.au := rfl
@[simp] theorem Dev.setRing_asset (d : Dev) (r : Nat) (q : RingSt) : (d.setRing r q).asset = d.asset := rfl
@[simp] theorem Dev.setRing_flume (d : Dev) (r : Nat) (q : RingSt) : (d.setRing r q).flume = d.flume := rfl
@[simp] theorem Dev.setRing_lg (d : Dev) (r : Nat) (q : RingSt) : (d.setRing r q).lg = d.lg := rfl
@[simp] theorem Dev.setRing_gl (d : Dev) (r : Nat) (q : RingSt) : (d.setRing r q).gl = d.gl := rfl

@[simp] theorem Dev.setGate_regs (d : Dev) (p : Nat) (q : HgSt) : (d.setGate p q).regs = d.regs := rfl
@[simp] theorem Dev.setGate_live (d : Dev) (p : Nat) (q : HgSt) : (d.setGate p q).live = d.live := rfl
@[simp] theorem Dev.setGate_scan (d : Dev) (p : Nat) (q : HgSt) : (d.setGate p q).scan = d.scan := rfl
@[simp] theorem Dev.setGate_mem (d : Dev) (p : Nat) (q : HgSt) : (d.setGate p q).mem = d.mem := rfl
@[simp] theorem Dev.setGate_syn (d : Dev) (p : Nat) (q : HgSt) : (d.setGate p q).syn = d.syn := rfl
@[simp] theorem Dev.setGate_sent (d : Dev) (p : Nat) (q : HgSt) : (d.setGate p q).sent = d.sent := rfl
@[simp] theorem Dev.setGate_freeCtr (d : Dev) (p : Nat) (q : HgSt) : (d.setGate p q).freeCtr = d.freeCtr := rfl
@[simp] theorem Dev.setGate_time (d : Dev) (p : Nat) (q : HgSt) : (d.setGate p q).time = d.time := rfl
@[simp] theorem Dev.setGate_twq (d : Dev) (p : Nat) (q : HgSt) : (d.setGate p q).twq = d.twq := rfl
@[simp] theorem Dev.setGate_ic (d : Dev) (p : Nat) (q : HgSt) : (d.setGate p q).ic = d.ic := rfl
@[simp] theorem Dev.setGate_host (d : Dev) (p : Nat) (q : HgSt) : (d.setGate p q).host = d.host := rfl
@[simp] theorem Dev.setGate_rings (d : Dev) (p : Nat) (q : HgSt) : (d.setGate p q).rings = d.rings := rfl
@[simp] theorem Dev.setGate_link (d : Dev) (p : Nat) (q : HgSt) : (d.setGate p q).link = d.link := rfl
@[simp] theorem Dev.setGate_ladder (d : Dev) (p : Nat) (q : HgSt) : (d.setGate p q).ladder = d.ladder := rfl
@[simp] theorem Dev.setGate_pwr (d : Dev) (p : Nat) (q : HgSt) : (d.setGate p q).pwr = d.pwr := rfl
@[simp] theorem Dev.setGate_memc (d : Dev) (p : Nat) (q : HgSt) : (d.setGate p q).memc = d.memc := rfl
@[simp] theorem Dev.setGate_pipes (d : Dev) (p : Nat) (q : HgSt) : (d.setGate p q).pipes = d.pipes := rfl
@[simp] theorem Dev.setGate_ports (d : Dev) (p : Nat) (q : HgSt) : (d.setGate p q).ports = d.ports := rfl
@[simp] theorem Dev.setGate_lps (d : Dev) (p : Nat) (q : HgSt) : (d.setGate p q).lps = d.lps := rfl
@[simp] theorem Dev.setGate_io (d : Dev) (p : Nat) (q : HgSt) : (d.setGate p q).io = d.io := rfl
@[simp] theorem Dev.setGate_blit (d : Dev) (p : Nat) (q : HgSt) : (d.setGate p q).blit = d.blit := rfl
@[simp] theorem Dev.setGate_au (d : Dev) (p : Nat) (q : HgSt) : (d.setGate p q).au = d.au := rfl
@[simp] theorem Dev.setGate_asset (d : Dev) (p : Nat) (q : HgSt) : (d.setGate p q).asset = d.asset := rfl
@[simp] theorem Dev.setGate_flume (d : Dev) (p : Nat) (q : HgSt) : (d.setGate p q).flume = d.flume := rfl
@[simp] theorem Dev.setGate_lg (d : Dev) (p : Nat) (q : HgSt) : (d.setGate p q).lg = d.lg := rfl
@[simp] theorem Dev.setGate_gl (d : Dev) (p : Nat) (q : HgSt) : (d.setGate p q).gl = d.gl := rfl

@[simp] theorem Dev.apply_reg (d : Dev) (ks : List Nat) (k : Nat) : (d.apply ks).reg k = d.reg k := rfl
@[simp] theorem Dev.send_reg (d : Dev) (x : Sent) (k : Nat) : (d.send x).reg k = d.reg k := rfl
@[simp] theorem Dev.setTq_reg (d : Dev) (p : Nat) (q : TwqSt) (k : Nat) : (d.setTq p q).reg k = d.reg k := rfl
@[simp] theorem Dev.setPipe_reg (d : Dev) (p : Nat) (q : PipeSt) (k : Nat) : (d.setPipe p q).reg k = d.reg k := rfl
@[simp] theorem Dev.setPort_reg (d : Dev) (x : Nat) (q : PortSt) (k : Nat) : (d.setPort x q).reg k = d.reg k := rfl
@[simp] theorem Dev.setLp_reg (d : Dev) (n : Nat) (q : LpSt) (k : Nat) : (d.setLp n q).reg k = d.reg k := rfl
@[simp] theorem Dev.setFn_reg (d : Dev) (f : Nat) (q : HostSt) (k : Nat) : (d.setFn f q).reg k = d.reg k := rfl
@[simp] theorem Dev.setRing_reg (d : Dev) (r : Nat) (q : RingSt) (k : Nat) : (d.setRing r q).reg k = d.reg k := rfl
@[simp] theorem Dev.setGate_reg (d : Dev) (p : Nat) (q : HgSt) (k : Nat) : (d.setGate p q).reg k = d.reg k := rfl

end Sys2Proof.Machine
end

