-- ==== Sys2Proof/Laws/Fields.lean ====
section
/-! SUPPORT. Bit fields of words and registers: a field reads back what was written to it, and every other field and register stays. -/

namespace Sys2Proof.Machine

open Sys2Proof

/-! ### Words -/

/-- A bit of a word after a field of it is replaced. -/
theorem getLsbD_setFld (w : Word) (hi lo v i : Nat) (hl : lo ≤ hi) :
    (setFld w hi lo v).getLsbD i = (if lo ≤ i ∧ i ≤ hi then decide (i < 32) && v.testBit (i - lo) else w.getLsbD i) := by
  by_cases h32 : i < 32
  · have hm : ((2 ^ (hi + 1 - lo) - 1) * 2 ^ lo).testBit i = (decide (lo ≤ i) && decide (i ≤ hi)) := by
      rw [Nat.mul_comm, Nat.testBit_two_pow_mul, Nat.testBit_two_pow_sub_one]
      by_cases h : lo ≤ i
      · have : (i - lo < hi + 1 - lo) ↔ i ≤ hi := by omega
        simp [h, this]
      · simp [h]
    have hv : (v * 2 ^ lo).testBit i = (decide (lo ≤ i) && v.testBit (i - lo)) := by
      rw [Nat.mul_comm, Nat.testBit_two_pow_mul]
    simp only [setFld, BitVec.getLsbD_or, BitVec.getLsbD_and, BitVec.getLsbD_not, BitVec.getLsbD_ofNat, hm, hv]
    by_cases h1 : lo ≤ i <;> by_cases h2 : i ≤ hi <;> simp [h1, h2, h32]
  · have h : 32 ≤ i := by omega
    rw [BitVec.getLsbD_of_ge _ _ h, BitVec.getLsbD_of_ge _ _ h]
    simp [h32]

/-- Two words agree on a field when they agree on its bits. -/
theorem fld_congr (w x : Word) (hi lo : Nat) (h : ∀ i, lo ≤ i → i ≤ hi → w.getLsbD i = x.getLsbD i) : fld w hi lo = fld x hi lo := by
  refine Nat.eq_of_testBit_eq fun j => ?_
  simp only [fld, Nat.testBit_mod_two_pow, Nat.testBit_div_two_pow]
  by_cases hj : j < hi + 1 - lo
  · have := h (j + lo) (by omega) (by omega)
    simp only [BitVec.getLsbD] at this
    simp [hj, this]
  · simp [hj]

/-- A field reads back what was written to it. -/
theorem fld_setFld_same (w : Word) (hi lo v : Nat) (hl : lo ≤ hi) (h32 : hi < 32) : fld (setFld w hi lo v) hi lo = v % 2 ^ (hi + 1 - lo) := by
  refine Nat.eq_of_testBit_eq fun j => ?_
  have hb := getLsbD_setFld w hi lo v (j + lo) hl
  simp only [BitVec.getLsbD] at hb
  simp only [fld, Nat.testBit_mod_two_pow, Nat.testBit_div_two_pow]
  by_cases hj : j < hi + 1 - lo
  · have h1 : lo ≤ j + lo ∧ j + lo ≤ hi := by omega
    have h2 : j + lo < 32 := by omega
    simp [hj, hb, h1, h2]
  · simp [hj]

/-- A field keeps its value when another is written. -/
theorem fld_setFld_ne (w : Word) (hi lo v hi' lo' : Nat) (hl : lo ≤ hi) (h : hi < lo' ∨ hi' < lo) : fld (setFld w hi lo v) hi' lo' = fld w hi' lo' := by
  refine fld_congr _ _ _ _ fun i h1 h2 => ?_
  rw [getLsbD_setFld w hi lo v i hl, if_neg (by omega)]

/-- A bit keeps its value when a field it is not in is written. -/
theorem bit_setFld_ne (w : Word) (hi lo v i : Nat) (hl : lo ≤ hi) (h : i < lo ∨ hi < i) : bit (setFld w hi lo v) i = bit w i := by
  rw [bit, getLsbD_setFld w hi lo v i hl, if_neg (by omega), bit]

/-- A bit within a field that is written. -/
theorem bit_setFld_in (w : Word) (hi lo v i : Nat) (h1 : lo ≤ i) (h2 : i ≤ hi) (h32 : i < 32) : bit (setFld w hi lo v) i = v.testBit (i - lo) := by
  rw [bit, getLsbD_setFld w hi lo v i (Nat.le_trans h1 h2), if_pos ⟨h1, h2⟩, decide_eq_true h32, Bool.true_and]

/-- A bit as a field of one bit. -/
theorem fld_bit (w : Word) (i : Nat) : fld w i i = b2n (bit w i) := by
  have h : i + 1 - i = 1 := by omega
  simp only [fld, bit, BitVec.getLsbD, b2n, Nat.testBit_eq_decide_div_mod_eq, h, Nat.pow_one]
  rcases Nat.mod_two_eq_zero_or_one (w.toNat / 2 ^ i) with h | h <;> simp [h]

/-- A field stays below its size. -/
theorem fld_lt (w : Word) (hi lo : Nat) : fld w hi lo < 2 ^ (hi + 1 - lo) := Nat.mod_lt _ (Nat.two_pow_pos _)

theorem b2n_testBit (b : Bool) : (b2n b).testBit 0 = b := by cases b <;> rfl

/-! ### Registers -/

theorem Dev.reg_setRf_ne (d : Dev) (a b hi lo v : Nat) (h : b ≠ a) : (d.setRf a hi lo v).reg b = d.reg b := Dev.reg_setReg_ne _ _ _ _ h

theorem Dev.reg_setRb_ne (d : Dev) (a b i : Nat) (v : Bool) (h : b ≠ a) : (d.setRb a i v).reg b = d.reg b := Dev.reg_setReg_ne _ _ _ _ h

theorem Dev.reg_setRf_same (d : Dev) (a hi lo v : Nat) : (d.setRf a hi lo v).reg a = setFld (d.reg a) hi lo v := Dev.reg_setReg_same _ _ _

theorem Dev.reg_setRb_same (d : Dev) (a i : Nat) (v : Bool) : (d.setRb a i v).reg a = setFld (d.reg a) i i (b2n v) := Dev.reg_setReg_same _ _ _

theorem Dev.rf_setRf_same (d : Dev) (a hi lo v : Nat) (hl : lo ≤ hi) (h32 : hi < 32) : (d.setRf a hi lo v).rf a hi lo = v % 2 ^ (hi + 1 - lo) := by
  rw [Dev.rf, Dev.reg_setRf_same, fld_setFld_same _ _ _ _ hl h32]

theorem Dev.rf_setRf_field (d : Dev) (a hi lo v hi' lo' : Nat) (hl : lo ≤ hi) (h : hi < lo' ∨ hi' < lo) :
    (d.setRf a hi lo v).rf a hi' lo' = d.rf a hi' lo' := by
  rw [Dev.rf, Dev.reg_setRf_same, fld_setFld_ne _ _ _ _ _ _ hl h, Dev.rf]

theorem Dev.rf_setRf_ne (d : Dev) (a b hi lo v hi' lo' : Nat) (h : b ≠ a) : (d.setRf a hi lo v).rf b hi' lo' = d.rf b hi' lo' := by
  rw [Dev.rf, Dev.reg_setRf_ne _ _ _ _ _ _ h, Dev.rf]

theorem Dev.rb_setRf_field (d : Dev) (a hi lo v i : Nat) (hl : lo ≤ hi) (h : i < lo ∨ hi < i) : (d.setRf a hi lo v).rb a i = d.rb a i := by
  rw [Dev.rb, Dev.reg_setRf_same, bit_setFld_ne _ _ _ _ _ hl h, Dev.rb]

theorem Dev.rb_setRf_ne (d : Dev) (a b hi lo v i : Nat) (h : b ≠ a) : (d.setRf a hi lo v).rb b i = d.rb b i := by
  rw [Dev.rb, Dev.reg_setRf_ne _ _ _ _ _ _ h, Dev.rb]

theorem Dev.rb_setRb_same (d : Dev) (a i : Nat) (v : Bool) (h : i < 32) : (d.setRb a i v).rb a i = v := by
  rw [Dev.rb, Dev.reg_setRb_same, bit_setFld_in _ _ _ _ _ (Nat.le_refl _) (Nat.le_refl _) h, Nat.sub_self, b2n_testBit]

theorem Dev.rb_setRb_bit (d : Dev) (a i j : Nat) (v : Bool) (h : j ≠ i) : (d.setRb a i v).rb a j = d.rb a j :=
  Dev.rb_setRf_field _ _ _ _ _ _ (Nat.le_refl _) (by omega)

theorem Dev.rb_setRb_ne (d : Dev) (a b i j : Nat) (v : Bool) (h : b ≠ a) : (d.setRb a i v).rb b j = d.rb b j := Dev.rb_setRf_ne _ _ _ _ _ _ _ h

theorem Dev.rf_setRb_field (d : Dev) (a i hi lo : Nat) (v : Bool) (h : i < lo ∨ hi < i) : (d.setRb a i v).rf a hi lo = d.rf a hi lo :=
  Dev.rf_setRf_field _ _ _ _ _ _ _ (Nat.le_refl _) (by omega)

theorem Dev.rf_setRb_ne (d : Dev) (a b i hi lo : Nat) (v : Bool) (h : b ≠ a) : (d.setRb a i v).rf b hi lo = d.rf b hi lo := Dev.rf_setRf_ne _ _ _ _ _ _ _ _ h

theorem Dev.rf_setReg_same (d : Dev) (a hi lo : Nat) (v : Word) : (d.setReg a v).rf a hi lo = fld v hi lo := by
  rw [Dev.rf, Dev.reg_setReg_same]

theorem Dev.rf_setReg_ne (d : Dev) (a b hi lo : Nat) (v : Word) (h : b ≠ a) : (d.setReg a v).rf b hi lo = d.rf b hi lo := by
  rw [Dev.rf, Dev.reg_setReg_ne _ _ _ _ h, Dev.rf]

theorem Dev.rb_setReg_same (d : Dev) (a i : Nat) (v : Word) : (d.setReg a v).rb a i = bit v i := by
  rw [Dev.rb, Dev.reg_setReg_same]

theorem Dev.rb_setReg_ne (d : Dev) (a b i : Nat) (v : Word) (h : b ≠ a) : (d.setReg a v).rb b i = d.rb b i := by
  rw [Dev.rb, Dev.reg_setReg_ne _ _ _ _ h, Dev.rb]

/-- The registers of two devices agree where their tables do. -/
theorem Dev.reg_congr (d e : Dev) (h : e.regs = d.regs) (k : Nat) : e.reg k = d.reg k := by rw [Dev.reg, h, Dev.reg]

theorem Dev.rf_congr (d e : Dev) (k hi lo : Nat) (h : e.reg k = d.reg k) : e.rf k hi lo = d.rf k hi lo := by rw [Dev.rf, h, Dev.rf]

theorem Dev.rb_congr (d e : Dev) (k i : Nat) (h : e.reg k = d.reg k) : e.rb k i = d.rb k i := by rw [Dev.rb, h, Dev.rb]

/-- Applying a set changes no register's shadow, and puts in force what the shadow holds. -/
theorem Dev.inForce_apply (d : Dev) (ks : List Nat) (k : Nat) : (d.apply ks).inForce k = if k ∈ ks then d.reg k else d.inForce k := by
  suffices h : ∀ (t : Tab Word), Tab.get resetWord (ks.foldl (fun t a => Tab.put resetWord t a (d.reg a)) t) k =
      if k ∈ ks then d.reg k else Tab.get resetWord t k by
    simpa only [Dev.inForce, Dev.apply] using h d.live
  induction ks with
  | nil => intro t; simp
  | cons a ks ih =>
    intro t
    rw [List.foldl_cons, ih, Tab.get_put]
    by_cases h1 : k ∈ ks
    · simp [h1]
    · by_cases h2 : k = a <;> simp [h1, h2]

end Sys2Proof.Machine
end

