-- ==== Sys2Proof/Laws/Events.lean ====
section
/-! SUPPORT. Raising an event: what it sets, and that it changes nothing but the interrupt controller, its raw bit and the determinism
record. -/

namespace Sys2Proof.Machine

open Sys2Proof

/-- Two devices agree in everything but their registers and the interrupt controller. -/
structure EventFrame (d e : Dev) : Prop where
  live : e.live = d.live
  scan : e.scan = d.scan
  mem : e.mem = d.mem
  syn : e.syn = d.syn
  sent : e.sent = d.sent
  freeCtr : e.freeCtr = d.freeCtr
  time : e.time = d.time
  twq : e.twq = d.twq
  host : e.host = d.host
  rings : e.rings = d.rings
  link : e.link = d.link
  hg : e.hg = d.hg
  ladder : e.ladder = d.ladder
  pwr : e.pwr = d.pwr
  memc : e.memc = d.memc
  pipes : e.pipes = d.pipes
  ports : e.ports = d.ports
  lps : e.lps = d.lps
  io : e.io = d.io
  blit : e.blit = d.blit
  au : e.au = d.au
  asset : e.asset = d.asset
  flume : e.flume = d.flume
  lg : e.lg = d.lg
  gl : e.gl = d.gl

theorem EventFrame.refl (d : Dev) : EventFrame d d := by constructor <;> rfl

theorem EventFrame.trans {d e f : Dev} (h : EventFrame d e) (k : EventFrame e f) : EventFrame d f := by
  obtain ⟨⟩ := h
  obtain ⟨⟩ := k
  constructor <;> simp_all

/-- A device whose interrupt controller alone changed. -/
theorem EventFrame.ic (d : Dev) (c : IcSt) : EventFrame d { d with ic := c } := by constructor <;> rfl

/-- A device whose registers alone changed. -/
theorem EventFrame.regs (d : Dev) (r : Tab Word) : EventFrame d { d with regs := r } := by constructor <;> rfl

/-- Presenting the pending sources again changes the interrupt controller alone. -/
theorem Dev.present_frame (d : Dev) : EventFrame d d.present ∧ d.present.regs = d.regs := ⟨EventFrame.ic d _, rfl⟩

/-- A group's release changes the interrupt controller alone. -/
theorem Dev.release_frame (d : Dev) (g : Nat) : EventFrame d (d.release g) ∧ (d.release g).regs = d.regs :=
  ⟨(EventFrame.ic d _).trans (EventFrame.ic _ _), rfl⟩

/-- Counting a raise changes the interrupt controller alone. -/
theorem Dev.addPending_frame (d : Dev) (n : Nat) : EventFrame d (d.addPending n) ∧ (d.addPending n).regs = d.regs := by
  have hp : ∀ q, EventFrame d (d.setPend n q) ∧ (d.setPend n q).regs = d.regs := fun q => ⟨EventFrame.ic d _, rfl⟩
  have hw : ∀ q g w, EventFrame d ((d.setPend n q).setWeir g w) ∧ ((d.setPend n q).setWeir g w).regs = d.regs := fun q g w =>
    ⟨(hp q).1.trans (EventFrame.ic _ _), rfl⟩
  have ht : ∀ e : Dev, EventFrame d e ∧ e.regs = d.regs → EventFrame d e.present ∧ e.present.regs = d.regs := fun e h =>
    ⟨h.1.trans (Dev.present_frame e).1, (Dev.present_frame e).2.trans h.2⟩
  unfold Dev.addPending
  extract_lets
  split
  · exact ht _ (hp _)
  · split
    · exact ht _ ⟨(hw _ _ _).1.trans (Dev.release_frame _ _).1, (Dev.release_frame _ _).2.trans (hw _ _ _).2⟩
    · exact ht _ (hw _ _ _)

/-- A raise changes nothing but registers and the interrupt controller. -/
theorem Dev.raise_frame (d : Dev) (n : Nat) : EventFrame d (d.raise n) := by
  have h1 : EventFrame d (d.setRb (Reg.icRaw (n / 32)) (n % 32) true) := EventFrame.regs d _
  simp only [Dev.raise]
  split
  · split
    · exact h1.trans ((EventFrame.regs _ _).trans (Dev.addPending_frame _ n).1)
    · exact h1.trans (EventFrame.regs _ _)
  · split
    · exact h1.trans (Dev.addPending_frame _ n).1
    · exact h1

/-- The registers after a raise: the raw bit set, and the class bit where the event has one. -/
theorem Dev.raise_reg_eq (d : Dev) (n k : Nat) : (d.raise n).reg k =
    (match detClass n with
     | some c => (d.setRb (Reg.icRaw (n / 32)) (n % 32) true).setRb Reg.sysDetStat c true
     | none => d.setRb (Reg.icRaw (n / 32)) (n % 32) true).reg k := by
  have hc : ∀ e : Dev, (if srcEn (e.reg (Reg.icSrc n)) then e.addPending n else e).reg k = e.reg k := by
    intro e
    split
    · exact Dev.reg_congr _ _ (Dev.addPending_frame e n).2 k
    · rfl
  rw [Dev.raise, hc]
  rfl

/-- Setting a bit clears none. -/
theorem Dev.setRb_keeps (d : Dev) (a j k i : Nat) (h : d.rb k i = true) : (d.setRb a j true).rb k i = true := by
  by_cases hi : i < 32
  · by_cases ha : k = a
    · subst ha
      by_cases hj : i = j
      · subst hj; exact Dev.rb_setRb_same _ _ _ _ hi
      · rw [Dev.rb_setRb_bit _ _ _ _ _ hj]; exact h
    · rw [Dev.rb_setRb_ne _ _ _ _ _ _ ha]; exact h
  · rw [Dev.rb, bit, BitVec.getLsbD_of_ge _ _ (by omega)] at h; exact absurd h (by decide)

/-- A raise sets its raw bit. -/
theorem Dev.raise_raw (d : Dev) (n : Nat) : (d.raise n).rb (Reg.icRaw (n / 32)) (n % 32) = true := by
  have h1 : (d.setRb (Reg.icRaw (n / 32)) (n % 32) true).rb (Reg.icRaw (n / 32)) (n % 32) = true :=
    Dev.rb_setRb_same _ _ _ _ (Nat.mod_lt _ (by omega))
  rw [Dev.rb, Dev.raise_reg_eq]
  cases detClass n with
  | none => exact h1
  | some c => exact Dev.setRb_keeps _ _ _ _ _ h1

/-- A raise leaves every register alone but its raw register and SYS_DET_STAT. -/
theorem Dev.raise_reg (d : Dev) (n k : Nat) (h1 : k ≠ Reg.icRaw (n / 32)) (h2 : k ≠ Reg.sysDetStat) : (d.raise n).reg k = d.reg k := by
  rw [Dev.raise_reg_eq]
  cases detClass n with
  | none => exact Dev.reg_setRb_ne _ _ _ _ _ h1
  | some c => exact (Dev.reg_setRb_ne _ _ _ _ _ h2).trans (Dev.reg_setRb_ne _ _ _ _ _ h1)

/-- A raise clears no bit of any register. -/
theorem Dev.raise_keeps (d : Dev) (n k i : Nat) (h : d.rb k i = true) : (d.raise n).rb k i = true := by
  rw [Dev.rb, Dev.raise_reg_eq]
  have h1 := Dev.setRb_keeps d (Reg.icRaw (n / 32)) (n % 32) k i h
  cases detClass n with
  | none => exact h1
  | some c => exact Dev.setRb_keeps _ _ _ _ _ h1

@[simp] theorem Dev.raise_live (d : Dev) (n : Nat) : (d.raise n).live = d.live := (d.raise_frame n).live
@[simp] theorem Dev.raise_scan (d : Dev) (n : Nat) : (d.raise n).scan = d.scan := (d.raise_frame n).scan
@[simp] theorem Dev.raise_mem (d : Dev) (n : Nat) : (d.raise n).mem = d.mem := (d.raise_frame n).mem
@[simp] theorem Dev.raise_syn (d : Dev) (n : Nat) : (d.raise n).syn = d.syn := (d.raise_frame n).syn
@[simp] theorem Dev.raise_sent (d : Dev) (n : Nat) : (d.raise n).sent = d.sent := (d.raise_frame n).sent
@[simp] theorem Dev.raise_time (d : Dev) (n : Nat) : (d.raise n).time = d.time := (d.raise_frame n).time
@[simp] theorem Dev.raise_twq (d : Dev) (n : Nat) : (d.raise n).twq = d.twq := (d.raise_frame n).twq
@[simp] theorem Dev.raise_host (d : Dev) (n : Nat) : (d.raise n).host = d.host := (d.raise_frame n).host
@[simp] theorem Dev.raise_rings (d : Dev) (n : Nat) : (d.raise n).rings = d.rings := (d.raise_frame n).rings
@[simp] theorem Dev.raise_link (d : Dev) (n : Nat) : (d.raise n).link = d.link := (d.raise_frame n).link
@[simp] theorem Dev.raise_hg (d : Dev) (n : Nat) : (d.raise n).hg = d.hg := (d.raise_frame n).hg
@[simp] theorem Dev.raise_ladder (d : Dev) (n : Nat) : (d.raise n).ladder = d.ladder := (d.raise_frame n).ladder
@[simp] theorem Dev.raise_pwr (d : Dev) (n : Nat) : (d.raise n).pwr = d.pwr := (d.raise_frame n).pwr
@[simp] theorem Dev.raise_memc (d : Dev) (n : Nat) : (d.raise n).memc = d.memc := (d.raise_frame n).memc
@[simp] theorem Dev.raise_pipes (d : Dev) (n : Nat) : (d.raise n).pipes = d.pipes := (d.raise_frame n).pipes
@[simp] theorem Dev.raise_ports (d : Dev) (n : Nat) : (d.raise n).ports = d.ports := (d.raise_frame n).ports
@[simp] theorem Dev.raise_lps (d : Dev) (n : Nat) : (d.raise n).lps = d.lps := (d.raise_frame n).lps
@[simp] theorem Dev.raise_io (d : Dev) (n : Nat) : (d.raise n).io = d.io := (d.raise_frame n).io
@[simp] theorem Dev.raise_blit (d : Dev) (n : Nat) : (d.raise n).blit = d.blit := (d.raise_frame n).blit
@[simp] theorem Dev.raise_au (d : Dev) (n : Nat) : (d.raise n).au = d.au := (d.raise_frame n).au
@[simp] theorem Dev.raise_asset (d : Dev) (n : Nat) : (d.raise n).asset = d.asset := (d.raise_frame n).asset
@[simp] theorem Dev.raise_flume (d : Dev) (n : Nat) : (d.raise n).flume = d.flume := (d.raise_frame n).flume
@[simp] theorem Dev.raise_lg (d : Dev) (n : Nat) : (d.raise n).lg = d.lg := (d.raise_frame n).lg
@[simp] theorem Dev.raise_gl (d : Dev) (n : Nat) : (d.raise n).gl = d.gl := (d.raise_frame n).gl

/-- A refused check: its report stands in the check register, and event 0 is raised (R418). -/
theorem Dev.refuse_spec (d : Dev) (chk : Nat) (w : Word) (h1 : chk ≠ Reg.icRaw 0) (h2 : chk ≠ Reg.sysDetStat) :
    (d.refuse chk w).reg chk = w ∧ (d.refuse chk w).rb (Reg.icRaw 0) 0 = true ∧
    (∀ k, k ≠ chk → k ≠ Reg.icRaw 0 → k ≠ Reg.sysDetStat → (d.refuse chk w).reg k = d.reg k) ∧ EventFrame d (d.refuse chk w) := by
  refine ⟨?_, Dev.raise_raw _ 0, ?_, ?_⟩
  · rw [Dev.refuse, Dev.raise_reg _ _ _ h1 h2, Dev.reg_setReg_same]
  · intro k h3 h4 h5
    rw [Dev.refuse, Dev.raise_reg _ _ _ h4 h5, Dev.reg_setReg_ne _ _ _ _ h3]
  · exact (EventFrame.regs d _).trans (Dev.raise_frame _ 0)

end Sys2Proof.Machine
end

