-- ==== Sys2Proof/Laws/Access.lean ====
section
/-! SUPPORT. What a command's wrapper makes of its effect: carried out, refused as a violation, or left undone where no clock serves it. -/

namespace Sys2Proof.Machine

open Sys2Proof

/-! ### Clocked and unclocked commands -/

theorem State.onClock_run (s : State) (f : Dev → Dev) (h : s.dev.clocked = true) : s.onClock f = .next { s with dev := f s.dev } := by
  rw [State.onClock, if_pos h]

theorem State.onClock_idle (s : State) (f : Dev → Dev) (h : s.dev.clocked = false) : s.onClock f = .next s := by
  rw [State.onClock, if_neg (by simp [h])]

theorem State.settled_run (s : State) (f : Dev → Dev) (h : s.dev.clocked = true) :
    s.settled f = .next { s with dev := (f s.dev).settle } := State.onClock_run s _ h

theorem State.always_run (s : State) (f : Dev → Dev) (h : s.dev.power ≠ 3) : s.always f = .next { s with dev := f s.dev } := by
  rw [State.always, if_neg h]

theorem State.byDebug_run (s : State) (f : Dev → Dev) (h : s.dev.power < 2) : s.byDebug f = .next { s with dev := f s.dev } := by
  rw [State.byDebug, if_pos h]

/-! ### Accesses -/

/-- A write by an issuer that is served. -/
theorem State.fromSrc_run (s : State) (src : Src) (f : Dev → Dev) (h : s.dev.serves src = true) :
    s.fromSrc src f = .next { s with dev := (if src = .debug then (f s.dev).setDet 5 else f s.dev).settle } := by
  rw [State.fromSrc, if_pos h]

/-- An admitted write has its register's effect. -/
theorem State.toReg_ok (s : State) (src : Src) (k : Nat) (f : Dev → Dev) (h : WriteOk s src k) :
    s.toReg src k f = .next { s with dev := (if src = .debug then (f s.dev).setDet 5 else f s.dev).settle } := by
  rw [State.toReg, State.fromSrc_run s src _ h.1, Dev.accessKey, if_pos h.2]

/-- A write that is not admitted is a violation and nothing else (R413). -/
theorem State.toReg_refused (s : State) (src : Src) (k : Nat) (f : Dev → Dev) (h : s.dev.serves src = true)
    (ha : s.dev.admits (masterOf src) (keyPlace src k) true = false) :
    s.toReg src k f = .next { s with dev :=
      (if src = .debug then (s.dev.violate (masterOf src) 0 (keyPlace src k).target true (keyPlace src k).off).setDet 5
        else s.dev.violate (masterOf src) 0 (keyPlace src k).target true (keyPlace src k).off).settle } := by
  have hv : s.dev.accessKey src k true f = s.dev.violate (masterOf src) 0 (keyPlace src k).target true (keyPlace src k).off := by
    simp only [Dev.accessKey, ha, Bool.false_eq_true, if_false]
  rw [State.toReg, State.fromSrc_run s src _ h, hv]

/-- An admitted plain write. -/
theorem State.putReg_ok (s : State) (src : Src) (k : Nat) (v : Word) (h : WriteOk s src k) :
    s.putReg src k v = .next { s with dev :=
      (if src = .debug then (s.dev.busWrite (masterOf src) k v).setDet 5 else s.dev.busWrite (masterOf src) k v).settle } :=
  State.toReg_ok s src k _ h

/-- An admitted read answers its issuer. -/
theorem State.getReg_ok (s : State) (src : Src) (k : Nat) (h : ReadOk s src k) :
    s.getReg src k = .next { s with dev := ((s.dev.busRead (masterOf src) k).2.deliver src (s.dev.busRead (masterOf src) k).1).settle } := by
  rw [State.getReg, State.readBy, if_pos h.1, Dev.readKey, if_pos h.2]

/-- A write is carried out whichever issuer makes it. -/
theorem Writes.of_toReg (c : Instr) (s : State) (src : Src) (k : Nat) (f : Dev → Dev) (hc : exec c s = s.toReg src k f) (h : WriteOk s src k) :
    Writes c s src (f s.dev) := by
  rw [Writes, hc, State.toReg_ok s src k f h]

/-! ### Violations -/

/-- A violation changes the log, the interrupt controller and the determinism record alone, and raises event 1 (R413, R414). -/
theorem Dev.violate_spec (d : Dev) (m own t : Nat) (wr : Bool) (addr : Nat) :
    (d.violate m own t wr addr).rb (Reg.icRaw 0) 1 = true ∧ EventFrame d (d.violate m own t wr addr) ∧
    (∀ k, k ≠ Reg.ptVlog → k ≠ Reg.ptVaddrLo → k ≠ Reg.ptVaddrHi → k ≠ Reg.icRaw 0 → k ≠ Reg.sysDetStat →
      (d.violate m own t wr addr).reg k = d.reg k) := by
  refine ⟨Dev.raise_raw _ 1, ?_, ?_⟩
  · unfold Dev.violate
    extract_lets d1
    refine EventFrame.trans ?_ (Dev.raise_frame d1 1)
    show EventFrame d (if d.rb Reg.ptVlog 14 then _ else _)
    split
    · exact (EventFrame.regs d _).trans (EventFrame.regs _ _)
    · exact (EventFrame.regs d _).trans ((EventFrame.regs _ _).trans (EventFrame.regs _ _))
  · intro k h1 h2 h3 h4 h5
    unfold Dev.violate
    extract_lets d1
    rw [Dev.raise_reg d1 1 k h4 h5]
    show (if d.rb Reg.ptVlog 14 then _ else _ : Dev).reg k = d.reg k
    split
    · rw [Dev.reg_setRb_ne _ _ _ _ _ h1, Dev.reg_setRf_ne _ _ _ _ _ _ h1]
    · rw [Dev.reg_setReg_ne _ _ _ _ h3, Dev.reg_setReg_ne _ _ _ _ h2, Dev.reg_setReg_ne _ _ _ _ h1]

end Sys2Proof.Machine
end

