-- ==== Sys2Proof/Laws/Memory.lean ====
section
/-! SUPPORT. The memories: every operation keeps their canonical form, and what a word stored reads as. -/

namespace Sys2Proof.Machine

open Sys2Proof

/-- The canonical form of the memories and their syndromes. -/
def Dev.MemoryOk (d : Dev) : Prop := Memory.wf d.mem ∧ Tab.wf (fun _ => (0 : BitVec 8)) d.syn = true

theorem Dev.MemoryOk.congr {d e : Dev} (h : d.MemoryOk) (hm : e.mem = d.mem) (hs : e.syn = d.syn) : e.MemoryOk := by
  rw [Dev.MemoryOk, hm, hs]; exact h

theorem Dev.setByte_ok (d : Dev) (a : Nat) (b : Byte) (h : d.MemoryOk) : (d.setByte a b).MemoryOk := ⟨Tab.wf_put _ _ _ _ h.1, h.2⟩

theorem Dev.setSynd_ok (d : Dev) (a : Nat) (b : BitVec 8) (h : d.MemoryOk) : (d.setSynd a b).MemoryOk := ⟨h.1, Tab.wf_put _ _ _ _ h.2⟩

theorem Dev.raise_ok (d : Dev) (n : Nat) (h : d.MemoryOk) : (d.raise n).MemoryOk := h.congr (Dev.raise_mem d n) (Dev.raise_syn d n)

/-- A fold of steps that keep the form keeps it. -/
theorem foldl_ok {α : Type} (f : Dev → α → Dev) (hf : ∀ d a, d.MemoryOk → (f d a).MemoryOk) (l : List α) (d : Dev) (h : d.MemoryOk) :
    (l.foldl f d).MemoryOk := by
  induction l generalizing d with
  | nil => exact h
  | cons a l ih => exact ih _ (hf d a h)

/-- Storing a code word keeps the form. -/
theorem Dev.storeWord_ok (d : Dev) (id a v : Nat) (p : Bool) (h : d.MemoryOk) : (d.storeWord id a v p).MemoryOk := by
  unfold Dev.storeWord
  extract_lets wb armed dm cm v1 d1 d2
  have h1 : d1.MemoryOk := foldl_ok _ (fun e i he => Dev.setByte_ok e _ _ he) _ d h
  have h2 : d2.MemoryOk := Dev.setSynd_ok d1 _ _ h1
  split
  · exact h2.congr rfl rfl
  · exact h2

/-- A correction that counts, and a bad word that is reported, leave the memories as they are. -/
theorem Dev.countCorrection_mem (d : Dev) (id m a b : Nat) :
    (d.countCorrection id m a b).mem = d.mem ∧ (d.countCorrection id m a b).syn = d.syn := by
  unfold Dev.countCorrection
  extract_lets g d1 c
  have h1 : d1.mem = d.mem ∧ d1.syn = d.syn := by
    constructor
    · rw [Dev.setReg_mem, Dev.setReg_mem]
    · rw [Dev.setReg_syn, Dev.setReg_syn]
  split
  · rw [Dev.raise_mem, Dev.raise_syn, Dev.setRf_mem, Dev.setRf_syn]
    exact h1
  · rw [Dev.setRf_mem, Dev.setRf_syn]
    exact h1

theorem Dev.reportBad_mem (d : Dev) (id m a : Nat) : (d.reportBad id m a).mem = d.mem ∧ (d.reportBad id m a).syn = d.syn := by
  unfold Dev.reportBad Dev.logBad
  constructor
  · rw [Dev.raise_mem, Dev.setReg_mem, Dev.setReg_mem]
  · rw [Dev.raise_syn, Dev.setReg_syn, Dev.setReg_syn]

/-- Counting a read leaves the memories as they are. -/
theorem Dev.noteRead_mem (d : Dev) (id m a : Nat) : (d.noteRead id m a).mem = d.mem ∧ (d.noteRead id m a).syn = d.syn := by
  unfold Dev.noteRead
  split
  · exact ⟨rfl, rfl⟩
  · exact Dev.countCorrection_mem d id m a _
  · exact Dev.reportBad_mem d id m a

theorem Dev.noteRead_ok (d : Dev) (id m a : Nat) (h : d.MemoryOk) : (d.noteRead id m a).MemoryOk :=
  h.congr (Dev.noteRead_mem d id m a).1 (Dev.noteRead_mem d id m a).2

theorem Dev.noteReads_ok (d : Dev) (id m off len : Nat) (h : d.MemoryOk) : (d.noteReads id m off len).MemoryOk := by
  unfold Dev.noteReads
  split
  · exact h
  · exact foldl_ok _ (fun e a he => Dev.noteRead_ok e id m a he) _ d h

theorem Dev.mergeWord_ok (d : Dev) (id m a : Nat) (new : Nat → Option Byte) (h : d.MemoryOk) : (d.mergeWord id m a new).MemoryOk := by
  unfold Dev.mergeWord
  extract_lets wb idx whole old v
  refine Dev.storeWord_ok _ id a v false ?_
  split
  · exact h
  · exact Dev.noteRead_ok d id m a h

/-- Every write of a memory keeps the form: whole or in part (R277), a word under byte enables, and poison (R279). -/
theorem Dev.writeBytes_ok (d : Dev) (id m off : Nat) (bs : List Byte) (h : d.MemoryOk) : (d.writeBytes id m off bs).MemoryOk := by
  unfold Dev.writeBytes
  split
  · exact h
  · exact foldl_ok _ (fun e a he => Dev.mergeWord_ok e id m a _ he) _ d h

theorem Dev.writeEn_ok (d : Dev) (id m off : Nat) (v : Word) (be : BitVec 4) (h : d.MemoryOk) : (d.writeEn id m off v be).MemoryOk :=
  foldl_ok _ (fun e a he => Dev.mergeWord_ok e id m a _ he) _ d h

theorem Dev.writePoison_ok (d : Dev) (id off len : Nat) (h : d.MemoryOk) : (d.writePoison id off len).MemoryOk := by
  unfold Dev.writePoison
  split
  · exact h
  · exact foldl_ok _ (fun e a he => Dev.storeWord_ok e id a 0 true he) _ d h

/-! ### Bytes and syndromes -/

theorem Dev.byte_setByte (d : Dev) (a b : Nat) (v : Byte) : (d.setByte a v).byte b = if b = a then v else d.byte b := by
  simp only [Dev.byte, Dev.setByte, Tab.get_put]

theorem Dev.synd_setSynd (d : Dev) (a b : Nat) (v : BitVec 8) : (d.setSynd a v).synd b = if b = a then v else d.synd b := by
  simp only [Dev.synd, Dev.setSynd, Tab.get_put]

@[simp] theorem Dev.byte_setSynd (d : Dev) (a b : Nat) (v : BitVec 8) : (d.setSynd a v).byte b = d.byte b := rfl
@[simp] theorem Dev.synd_setByte (d : Dev) (a b : Nat) (v : Byte) : (d.setByte a v).synd b = d.synd b := rfl

/-- Bytes written one after another from a. -/
theorem Dev.byte_setBytes (d : Dev) (a n : Nat) (f : Nat → Byte) (b : Nat) :
    ((List.range n).foldl (fun d i => d.setByte (a + i) (f i)) d).byte b = if a ≤ b ∧ b < a + n then f (b - a) else d.byte b := by
  induction n with
  | zero =>
    rw [if_neg (by omega)]
    rfl
  | succ n ih =>
    rw [List.range_succ, List.foldl_append, List.foldl_cons, List.foldl_nil, Dev.byte_setByte, ih]
    by_cases h1 : b = a + n
    · subst h1
      have h2 : a ≤ a + n ∧ a + n < a + (n + 1) := by omega
      rw [if_pos rfl, if_pos h2, Nat.add_sub_cancel_left]
    · rw [if_neg h1]
      by_cases h2 : a ≤ b ∧ b < a + n
      · rw [if_pos h2, if_pos (by omega)]
      · rw [if_neg h2, if_neg (by omega)]

theorem Dev.synd_setBytes (d : Dev) (a n : Nat) (f : Nat → Byte) (b : Nat) :
    ((List.range n).foldl (fun d i => d.setByte (a + i) (f i)) d).synd b = d.synd b := by
  induction n with
  | zero => rfl
  | succ n ih => rw [List.range_succ, List.foldl_append, List.foldl_cons, List.foldl_nil, Dev.synd_setByte, ih]

/-- A word stored with no flip armed: its bytes, a good syndrome or poison's, and every other byte and word as before (R275, R279). -/
theorem Dev.storeWord_bytes (d : Dev) (id a v : Nat) (p : Bool) (h : d.flipArmed id = false) :
    (∀ b, (d.storeWord id a v p).byte b =
      if a ≤ b ∧ b < a + wordBytes id then BitVec.ofNat 8 (v / 2 ^ (8 * (b - a))) else d.byte b) ∧
    (∀ b, (d.storeWord id a v p).synd b = if b = a then (if p then 3 else 0) else d.synd b) := by
  have hm : ∀ wb, maskSynd wb 0 = 0 := by
    intro wb
    unfold maskSynd
    generalize (columns wb).zip (List.range 64) = l
    suffices hs : ∀ s, l.foldl (fun s e => if 0 / 2 ^ e.2 % 2 = 1 then s ^^^ e.1 else s) s = s from hs 0
    intro s
    induction l generalizing s with
    | nil => rfl
    | cons e l ih => rw [List.foldl_cons, Nat.zero_div, if_neg (by decide), ih]
  constructor
  · intro b
    simp only [Dev.storeWord, h, Bool.false_eq_true, if_false, Nat.xor_zero, Dev.byte_setSynd]
    exact Dev.byte_setBytes d a (wordBytes id) (fun i => BitVec.ofNat 8 (v / 2 ^ (8 * i))) b
  · intro b
    simp only [Dev.storeWord, h, Bool.false_eq_true, if_false, Nat.xor_zero, hm, Nat.zero_xor, Dev.synd_setSynd]
    rw [Dev.synd_setBytes d a (wordBytes id) (fun i => BitVec.ofNat 8 (v / 2 ^ (8 * i))) b]
    cases p <;> rfl

end Sys2Proof.Machine
end

