-- ==== Sys2Proof/WellFormed.lean ====
section
/-! DEFINITION. Which commands are well formed: each operand lies in the range the spec gives it. The types already bound most
operands (a port is a Fin 3, a register value a 32-bit word); here stand the rest. A meaning is total on ill-formed commands too. -/

namespace Sys2Proof

/-- An address an issuer may name: an LP's I/O address is 16 bits (R456); the others name a dword of a 32-bit space (R9). -/
def Src.addrOk (src : Src) (a : Nat) : Bool :=
  match src with
  | .lp _ => decide (a < 65536)
  | _ => decide (a < 2 ^ 32) && decide (a % 4 = 0)

/-- A BAR of a function and a dword of it (Table — BARs). -/
def Bar.addrOk (f : Fin 2) (bar : Bar) (a : Nat) : Bool :=
  decide (a % 4 = 0) &&
  match bar with
  | .bar0 => decide (a < if f = 0 then 0x2000000 else 0x10000)
  | .bar2 => decide (f = 0) && decide (a < 0x10000000)
  | .bar4 => decide (f = 0) && decide (a < 0x4000000)

/-- A dword of a debug address space (R438). -/
def DebugSpace.addrOk (sp : DebugSpace) (a : Nat) : Bool :=
  decide (a % 4 = 0) &&
  match sp with
  | .ledgerSram => decide (a < 131072)
  | .frameStore => decide (a < 2 ^ 26)
  | _ => decide (a < 2 ^ 40)

/-- The fields of a timed write queue entry have their sizes (R35): a 16-bit frame, a 16-bit line, a 32-bit target, a master of
R20. -/
def TimedWrite.wf (e : TimedWrite) : Bool :=
  decide (e.frame < 65536) && decide (e.line < 65536) && decide (e.addr < 2 ^ 32) && decide (e.master < 16)

/-- A sector holds 1 KiB, and what its code word and retry count can say (R288, R289, R291): at most 72 bits corrected, steps 0 to 7. -/
def SectorRead.wf : SectorRead → Bool
  | .decoded data corr step => decide (data.length = 1024) && decide (corr ≤ 72) && decide (step ≤ 7)
  | .erased => true
  | .lost => true

/-- A slot's image is 128 KiB (R354). -/
def SlotImage.wf (i : SlotImage) : Bool := decide (i.data.length = 131072)

/-- A packet has 1 to 16 slots of one size, 8, 16, 24 or 32 bytes (R367). -/
def Packet.wf (k : Packet) : Bool :=
  decide (0 < k.slots.length) && decide (k.slots.length ≤ 16) &&
  match k.slots with
  | [] => false
  | s :: rest => [8, 16, 24, 32].contains s.bytes.length && rest.all (fun t => t.bytes.length = s.bytes.length)

/-- A fetch of a layer slot (R47). -/
def LateFetch.wf (l : LateFetch) : Bool := decide (l.slot < 14)

/-- A frame of a voice (R224). -/
def LateFrame.wf (l : LateFrame) : Bool := decide (l.voice < 256) && decide (l.nb < 4)

/-- The command's operands lie in the ranges the spec gives them. -/
def Instr.wf : Instr → Bool
  | .registerWrite src a _ _ => src.addrOk a
  | .tableWrite src a _ => src.addrOk a
  | .barRead f bar a => bar.addrOk f a
  | .barWrite f bar a _ _ => bar.addrOk f a
  | .debugAccess _ sp a _ => sp.addrOk a
  | .mapWindowWrite _ i _ _ => decide (i < 2097152)
  | .spriteWindowWrite _ i _ _ => decide (i < 131072)
  | .imemWrite _ _ i _ _ => decide (i < 8192)
  | .latchPoint _ late => late.all LateFetch.wf
  | .timedWriteEntry _ e => e.wf
  | .auxTransactionEnd _ _ cnt bytes => decide (cnt.toNat ≤ 16) && decide (bytes.length ≤ 16)
  | .sampleTick voices taps => voices.all LateFrame.wf && taps.all (fun t => decide (t.1 < 64))
  | .serialInputFrame _ slots => decide (slots.length ≤ 8)
  | .doorbellReadComplete _ words => decide (words.length = 129)
  | .aread _ sectors => sectors.all SectorRead.wf
  | .areadComplete sectors => sectors.all SectorRead.wf
  | .patrolRead sectors => sectors.all SectorRead.wf
  | .spiCommandEnd _ rx => decide (rx.length ≤ 16)
  | .i2cCommandEnd _ _ rx => decide (rx.length ≤ 32)
  | .ledgerRestore slots => slots.all SlotImage.wf
  | .linePacket pk => pk.wf
  | _ => true

end Sys2Proof
end

