-- ==== Sys2Proof/Tests/Slice0.lean ====
section
/-! SUPPORT. Tests: ill-formed commands that well-formedness refuses, the spec's worked examples, and for each obligation states and
operands that meet its hypotheses, clause by clause. The theorems are checked one after another: many at once need more threads than
a small machine gives. -/

set_option Elab.async false

namespace Sys2Proof.Tests

open Sys2Proof Sys2Proof.Machine

/-! ### Well-formedness: one ill-formed command for each check, and one well-formed -/

def badFrame : TimedWrite := ⟨65536, 0, 0, 0, 0⟩
def badSector : SectorRead := .decoded [1] 0 0
def noSlots : Packet := ⟨0, 0, 0, 0, 0, []⟩

theorem test_wf_refuses :
    [Instr.registerWrite (.lp 0) 65536 0 15, .registerWrite .game 2 0 15, .tableWrite .game 1 0, .barRead 1 .bar0 0x10000,
      .barRead 1 .bar2 0, .barRead 0 .bar2 0x10000000, .barRead 0 .bar4 0x4000000, .barWrite 0 .bar0 0x2000000 0 15,
      .debugAccess true .ledgerSram 131072 0, .debugAccess true .frameStore 67108864 0, .debugAccess false .lpddr 3 0,
      .mapWindowWrite .game 2097152 0 15, .spriteWindowWrite .game 131072 0 15, .imemWrite .game 0 8192 0 15,
      .latchPoint 0 [⟨14, 0⟩], .timedWriteEntry 0 badFrame, .timedWriteEntry 0 ⟨0, 0, 0, 0, 16⟩, .auxTransactionEnd 0 0 17 [],
      .sampleTick [⟨256, 0⟩] [], .sampleTick [] [(64, 0)], .serialInputFrame 0 (List.replicate 9 0), .doorbellReadComplete 0 [],
      .aread 0 [badSector], .areadComplete [.decoded (List.replicate 1024 0) 73 0], .patrolRead [badSector],
      .spiCommandEnd 0 (List.replicate 17 0), .i2cCommandEnd 0 .ok (List.replicate 33 0), .ledgerRestore [⟨0, 0, true, []⟩],
      .linePacket noSlots].all (fun i => !i.wf) = true := by
  decide +kernel

theorem test_wf_accepts :
    [Instr.registerWrite (.lp 0) 65535 0 15, .barRead 0 .bar4 0x3FFFFFC, .mapWindowWrite .game 2097151 0 15,
      .latchPoint 0 [⟨13, 0⟩], .timedWriteEntry 0 ⟨65535, 65535, 0xFFFFFFFF, 0, 15⟩, .lineStart].all Instr.wf = true := by
  decide +kernel

/-! ### Words of the line processors (the example of chapter 8) -/

theorem test_lp_long : decodeLp 0x00B00439 = .long 0 5 (.imm 1081) := by decide +kernel

theorem test_lp_guarded : decodeLp 0x2C60E000 = .long 2 99 (.port 7 0) ∧ wordFault (decodeLp 0x2C60E000) = none := by decide +kernel

theorem test_lp_pair : decodeLp 0x822122FD = .pair false ⟨2, false, 33⟩ ⟨34, true, 125⟩ ∧ wordFault (decodeLp 0x822122FD) = none := by
  decide +kernel

theorem test_lp_pair_fault : (wordFault (decodeLp 0xA00122FD)).map (·.1) = some 1 := by decide +kernel

/-! ### Units (the example of R176, and Table — Division edges) -/

def o16 : Word := 0x80000010
theorem test_alu_example :
    aluResult 41 o16 4 = (0xF8000001, false) ∧ aluResult 41 o16 40 = (0xFFFFFFFF, false) ∧ aluResult 40 o16 40 = (0, false) ∧
    aluResult 42 o16 33 = (0x21, false) ∧ aluResult 46 o16 0x80000000 = (0x80000000, true) ∧
    aluResult 34 o16 0x80000000 = (0x10, false) := by decide +kernel

/-! ### The Headgate's first worked example: 6,576 at line 0, 6,090 at 120, 3,198 at 1,600 -/

def envEx : Env := [
  (0, [0x01000003, 3840, 2159 * 65536, 0, 0, 0, 0, 0]), (1, [0x01000001, 3840, 2159 * 65536, 0, 0, 0, 0, 0]),
  (2, [0x02000003, 3840, 2159 * 65536, 0, 0, 0, 0, 0]),
  (4, [0x01000011, 3840, 1600 + 2159 * 65536, 0, 3839 * 65536, 1600 + 2159 * 65536, 0, 0]),
  (9, [0x01000001, 3840, 119 * 65536, 0, 0, 0, 0, 0]), (10, [0x01000001, 0, 2159 * 65536, 96 + 128 * 65536, 0, 0, 0, 0]),
  (11, [0x01000001, 0, 2159 * 65536, 64 + 64 * 65536, 0, 0, 0, 0])]

theorem test_headgate_example :
    lineCost envEx 3840 0 = 6576 ∧ lineCost envEx 3840 120 = 6090 ∧ lineCost envEx 3840 1600 = 3198 ∧
    worstLine envEx 3840 2160 = (0, 6576) := by decide +kernel

/-! ### Blending (the example of R120), interpolation (R220) and a biquad (R235) -/

theorem test_blend_example :
    mul8 192 128 = 96 ∧ [0, 1, 2, 3, 4].map (fun m => (blendChan m 200 96 40, blendChan m 100 96 220, blendChan m 30 96 255)) =
      [(100, 175, 170), (115, 255, 255), (0, 182, 244), (120, 160, 143), (31, 86, 30)] := by decide +kernel

theorem test_interpolation_example :
    interpolate true 0x8000 0 1000 2000 1000 = 1625 ∧ interpolate false 0x8000 0 1000 2000 1000 = 1500 := by decide +kernel

theorem test_biquad_example :
    (biquad [0x2AAAAAAB, 0x40000000, 0x20000000, -0x40000000, 0x10000000, 500000, 0, 400000, -100000] 1000000).1 = 1591667 := by
  decide +kernel

/-! ### Checks and codes -/

theorem test_holdup_example :
    holdupVolt 3413 0x800 = 11998 ∧ holdupOk 11998 4700 9000 25000 = false ∧ holdupOk 11998 6800 9000 25000 = true ∧
    holdupVolt 3608 0x800 = 12684 ∧ holdupOk 12684 4700 9000 25000 = true ∧ holdupVolt 3606 0x800 = 12677 ∧
    holdupOk 12677 4700 9000 25000 = false := by decide +kernel

def digits : List Byte := [0x31, 0x32, 0x33, 0x34, 0x35, 0x36, 0x37, 0x38, 0x39]

theorem test_crc16_example : crc16 digits = 0x29B1 := by decide +kernel

theorem test_link_slots : chooseS 2880 16 7407 = some 2 ∧ chooseS 2880 16 14814 = some 3 ∧ ringTime 2880 16 8 ≤ 5248 := by
  decide +kernel

/-! ### The start ladder's example: port B runs; BL's start is deferred first -/

def lad0 : Dev := { Dev.atReset with ladder := { Dev.atReset.ladder with used := 10 } }
theorem test_ladder_log :
    (lad0.ask 7).rf Reg.pwrLadlog 3 0 = 7 ∧ ((lad0.ask 7).ask 8).rf Reg.pwrLadlog 31 16 = 1 ∧
    ((lad0.ask 7).ask 8).ladder.pending = [7, 8] ∧ (((lad0.ask 7).ask 8).ladderSlot).ladder.used = 7 := by decide +kernel

/-! ### Hypotheses that need no device, or a step -/

theorem wit_CommandsComplete :
    (Dev.atReset.setRf Reg.pwrState 5 4 3).power = 3 ∧ isReset .lineStart = false := by decide +kernel

theorem wit_StepsKeepInvariant : State.reset.dev.Canonical ∧ State.reset.dev.ladder.used ≤ 15 ∧ ∃ t, step State.reset = .next t :=
  ⟨⟨rfl, rfl, rfl, rfl, rfl⟩, by decide, ⟨_, rfl⟩⟩

def surf0 : Dev :=
  [(Reg.blSurfCfg 0, 1), (Reg.blSurfPitch 0, 96), (Reg.blSurfSize 0, 0x003C0050)].foldl
    (fun d e => { d.setReg e.1 e.2 with live := Tab.put resetWord d.live e.1 e.2 }) Dev.atReset
def copy0 : BlitCmd := ⟨0, false, 0, 0, 0, 0, 0, 0, 1, 0, 70, 1, 0, 0, false⟩

theorem wit_OverlapIsSafe :
    copy0.usesSrc = true ∧ (surfaceOf surf0.inForce 0).same (surfaceOf surf0.inForce 0) = true ∧ surf0.blitSegs copy0 = 2 ∧
    surf0.blitSeg copy0 0 = (0, 7, 64) ∧ surf0.blitSeg copy0 1 = (0, 1, 6) := by decide +kernel

def looped : VoiceSt := { VoiceSt.init with loop := true, loops := 3, loope := 10, pitch := 524288, pos := 9 * 65536 + 77 }

theorem wit_AudioArithmetic :
    looped.loop = true ∧ looped.loops < looped.loope ∧ looped.nextPos / 65536 < 10 ∧ (0 : Nat) < 1 ∧ (-8388608 : Int) ≤ 5 := by
  decide +kernel

theorem wit_BlendArithmetic : mul8 255 255 = 255 ∧ blendChan 0 77 255 3 = 77 ∧ bilinChan 255 255 255 255 255 255 ≤ 255 := by
  decide +kernel

theorem wit_WorstLineIsWorst : (0 : Nat) < 1 ∧ worstLine [] 64 1 = (0, 24) := by decide +kernel

/-- Where no code word holds an error nothing is uncorrectable. -/
theorem badAt_clean (d : Dev) (id off len : Nat) (h : d.syn = []) : d.badAt id off len = false := by
  simp [Dev.badAt, Dev.decodeWord, Dev.synd, h, Tab.get]

/-- A commit over an SRAM with no error in it meets the hypothesis of its success. -/
theorem wit_LedgerCommitSucceeds (d : Dev) (h : d.syn = []) : ∀ i, i < d.lgPages → d.lgPageBad i = false := by
  intro i _
  simp [Dev.lgPageBad, badAt_clean d _ _ _ h]

end Sys2Proof.Tests

/-! ### States that meet the obligations' hypotheses, clause by clause -/

namespace Sys2Proof.Tests

open Sys2Proof Sys2Proof.Machine

/-- State i of a list. -/
def w (l : List Dev) (i : Nat) : State := ⟨l.getD i Dev.atReset, []⟩
/-- Device i of a list. -/
def wd (l : List Dev) (i : Nat) : Dev := l.getD i Dev.atReset
def setAll (d : Dev) (kv : List (Nat × Word)) : Dev :=
  kv.foldl (fun d e => { (d.setReg e.1 e.2) with live := Tab.put resetWord d.live e.1 e.2, scan := Tab.put resetWord d.scan e.1 e.2 }) d
def f2 (a b : Nat) : Word := BitVec.ofNat 32 (a + b * 65536)
def ported (x p : Nat) (d : Dev) : Dev :=
  let d := setAll d [(Reg.soHtim x, f2 64 80), (Reg.soVtim x, f2 48 60), (Reg.soDotclk x, 25000), (Reg.soCfg x,
      BitVec.ofNat 32 (p + 0x2 * 65536 + 8)), (Reg.soHsync x, f2 68 72), (Reg.soVsync x, f2 49 51)]
  (((d.setRb (Reg.soCtl x) 0 true).setRb (Reg.soStat x) 0 true).setPort x { d.port x with run := true, fresh := false })
def live (p : Nat) (d : Dev) : Dev := (d.setRb (Reg.cmpCtl p) 0 true).setPipe p { d.pipe p with live := true, cmpOn := true }
def d0 : Dev := Dev.atReset
def std : Timing := timingOf (ported 0 0 d0).inForce 0
def mkD (l : List (Nat × Nat × Nat)) : Desc := BitVec.ofNat 512 (l.foldl (fun a e => a + (e.2.2 % 2^(8*e.2.1)) * 2 ^ (8*e.1)) 0)
def rung (r t u : Nat) (ds : List Desc) (d : Dev) : Dev :=
  let q := ds.zipIdx.map (fun x => (x.2, x.1))
  (d.setReg (Reg.hiRingCfg r) (BitVec.ofNat 32 (1 + 3 * 2 + t * 64 + u * 65536))).setRing r
    { d.ring r with head := ds.length, passed := q, issue := q.map (fun x => (x.1, none)) }
def scn (f ne nu : Nat) : Desc := mkD [(0,1,1),(8,2,f),(12,2,0x77),(16,1,ne),(17,1,nu)]
def envd (slot : Nat) (ws : List Nat) : Desc := mkD ([(0,1,2),(16,1,slot)] ++ ws.zipIdx.map (fun x => (32 + 4 * x.2, 4, x.1)))
def updd (f l addr data : Nat) : Desc := mkD [(0,1,3),(2,1,1),(16,4,addr),(20,4,data),(24,2,l),(26,2,f)]
def res (c : Instr) (s : State) : Dev := match exec c s with | .next t => t.dev | _ => s.dev
def base (kv : List (Nat × Word)) : Dev := kv.foldl (fun d e => d.setReg e.1 e.2) Dev.atReset

namespace C02

def states : List Dev := [d0, base [(Reg.sysDetStat, 0x5B), (Reg.auLate, 0x11000000), (Reg.edcUe, 0x50000)],
  { d0 with time := { d0.time with line := 999, fresh := false, frame := 65535, tickDue := true } },
  { d0 with time := { d0.time with src := some 3, line := 5, fresh := false, refLines := 20 } },
  d0.setPort 1 { d0.port 1 with steer := true }]
def stz02_1 : List Dev := states
def a1 := ported 0 0 d0
def a2 := live 0 (ported 0 0 d0)
def a3 := (a2.setPipe 0 { a2.pipe 0 with nextL := 47, nextF := 65535 })
def a4 := a2.setReg (Reg.ptValid 1) 0
def stz02_2 : List Dev := [a1, a2, a3, a4]

theorem wit_TimeRegistersAnswer :
    ((ReadOk (w stz02_1 0) Src.game Reg.sysBeamLo)) ∧
    ((WriteOk (w stz02_1 0) Src.game Reg.sysDetStat) ∧ (bit (1#32) 0 = true)) ∧
    ((WriteOk (w stz02_1 0) Src.game Reg.sysDetStat) ∧ (bit (2#32) 1 = true)) ∧
    ((WriteOk (w stz02_1 0) Src.game Reg.sysDetStat) ∧ (bit (127#32) 3 = true)) ∧
    ((WriteOk (w stz02_1 0) Src.game Reg.sysCommit)) := by
  refine ⟨?_, ?_, ?_, ?_, ?_⟩ <;> decide +kernel

theorem wit_MasterTimingAdvances :
    (((w stz02_1 0).dev.clocked = true) ∧ ((w stz02_1 0).dev.time.src = none) ∧
        ((w stz02_1 0).dev.time.fresh = true ∨ (w stz02_1 0).dev.time.line < 999) ∧ ((w stz02_1 0).dev.time.line < 1000)) ∧
    (((w stz02_1 2).dev.clocked = true) ∧ ((w stz02_1 2).dev.time.src = none) ∧ ((w stz02_1 2).dev.time.fresh = false) ∧
        ((w stz02_1 2).dev.time.line = 999) ∧ ((w stz02_1 2).dev.pwr.dimReq = false)) ∧
    (((w stz02_1 2).dev.clocked = true) ∧ ((w stz02_1 2).dev.time.tickDue = true)) ∧
    (((w stz02_1 3).dev.clocked = true) ∧ ((w stz02_1 3).dev.time.src = some 3 ∨ (w stz02_1 3).dev.time.src = some 4)) ∧
    (((w stz02_1 4).dev.clocked = true) ∧ (((w stz02_1 4).dev.port 1).steer = true)) := by
  refine ⟨?_, ?_, ?_, ?_, ?_⟩ <;> decide +kernel

theorem wit_LatchPointsFollow :
    (((w stz02_2 0).dev.clocked = true) ∧ (((w stz02_2 0).dev.feed 0).isSome = true) ∧
        ((if ((w stz02_2 0).dev.pipe 0).nextL = 0 then (w stz02_2 0).dev.soCommitAt (List.filter (fun (x : Nat) => decide ((w stz02_2 0).dev.soPipe x = 0)) (List.range 3)) else (w stz02_2 0).dev).feedTiming 0 = some std)) := by
  decide +kernel

theorem wit_TimedWriteChecked :
    (((w stz02_2 0).dev.clocked = true) ∧ (timedSpace 0 (TimedWrite.mk 0 5 25165824 7 0).addr = true) ∧
        ((w stz02_2 0).dev.tagLineOk 0 (TimedWrite.mk 0 5 25165824 7 0).line = true) ∧
        ((w stz02_2 0).dev.permits (TimedWrite.mk 0 5 25165824 7 0).master (placeFn0 (TimedWrite.mk 0 5 25165824 7 0).addr).target (placeFn0 (TimedWrite.mk 0 5 25165824 7 0).addr).off 4 true = true) ∧ ((w stz02_2 0).dev.pipeLive 0 = false)) ∧
    (((w stz02_2 0).dev.clocked = true) ∧ (timedSpace 0 (TimedWrite.mk 0 4 256 7 3).addr = false)) ∧
    (((w stz02_2 0).dev.clocked = true) ∧ (timedSpace 0 (TimedWrite.mk 0 900 25165824 7 2).addr = true) ∧
        ((w stz02_2 0).dev.tagLineOk 0 (TimedWrite.mk 0 900 25165824 7 2).line = false)) ∧
    (((w stz02_2 1).dev.clocked = true) ∧ (timedSpace 0 (TimedWrite.mk 0 5 25165824 7 0).addr = true) ∧
        ((w stz02_2 1).dev.tagLineOk 0 (TimedWrite.mk 0 5 25165824 7 0).line = true) ∧
        ((w stz02_2 1).dev.permits (TimedWrite.mk 0 5 25165824 7 0).master (placeFn0 (TimedWrite.mk 0 5 25165824 7 0).addr).target (placeFn0 (TimedWrite.mk 0 5 25165824 7 0).addr).off 4 true = true) ∧ ((w stz02_2 1).dev.pipeLive 0 = true) ∧ (tagFuture (TimedWrite.mk 0 5 25165824 7 0).frame (TimedWrite.mk 0 5 25165824 7 0).line ((w stz02_2 1).dev.pipe 0).nextF ((w stz02_2 1).dev.pipe 0).nextL = true) ∧ ((List.filter (fun (x : TimedWrite) => decide (x.frame = (TimedWrite.mk 0 5 25165824 7 0).frame ∧ x.line = (TimedWrite.mk 0 5 25165824 7 0).line)) ((w stz02_2 1).dev.tq 0).entries).length < 256) ∧ (((w stz02_2 1).dev.tq 0).entries.length < 4096)) ∧
    (((w stz02_2 1).dev.clocked = true) ∧ (timedSpace 0 (TimedWrite.mk 65535 3 25165840 9 2).addr = true) ∧
        ((w stz02_2 1).dev.tagLineOk 0 (TimedWrite.mk 65535 3 25165840 9 2).line = true) ∧
        ((w stz02_2 1).dev.permits (TimedWrite.mk 65535 3 25165840 9 2).master (placeFn0 (TimedWrite.mk 65535 3 25165840 9 2).addr).target (placeFn0 (TimedWrite.mk 65535 3 25165840 9 2).addr).off 4 true = true) ∧ ((w stz02_2 1).dev.pipeLive 0 = true) ∧ (tagFuture (TimedWrite.mk 65535 3 25165840 9 2).frame (TimedWrite.mk 65535 3 25165840 9 2).line ((w stz02_2 1).dev.pipe 0).nextF ((w stz02_2 1).dev.pipe 0).nextL = false)) ∧
    (((w stz02_2 3).dev.clocked = true) ∧ (timedSpace 0 (TimedWrite.mk 0 5 25165824 7 0).addr = true) ∧
        ((w stz02_2 3).dev.tagLineOk 0 (TimedWrite.mk 0 5 25165824 7 0).line = true) ∧
        ((w stz02_2 3).dev.permits (TimedWrite.mk 0 5 25165824 7 0).master (placeFn0 (TimedWrite.mk 0 5 25165824 7 0).addr).target (placeFn0 (TimedWrite.mk 0 5 25165824 7 0).addr).off 4 true = false)) := by
  refine ⟨?_, ?_, ?_, ?_, ?_, ?_⟩ <;> decide +kernel

theorem wit_SourceOrderDecides :
    ((∀ (m : Nat), m ∈ [0, 2, 3, 4, 5] → List.filter (fun (e : TimedWrite) => decide (e.master = m)) [TimedWrite.mk 0 1 4 5 0,
        TimedWrite.mk 0 1 8 6 3, TimedWrite.mk 0 1 4 7 2] = List.filter (fun (e : TimedWrite) => decide (e.master = m)) [TimedWrite.mk 0 1 4 5 0, TimedWrite.mk 0 1 8 6 3, TimedWrite.mk 0 1 4 7 2])) := by
  decide +kernel

end C02

namespace C03

def a1 := ported 0 0 d0
def a2 := (a1.setRb Reg.hgCtl 0 true).setReg (Reg.hgBudget 0) 2770
def a3 := live 0 a2
def stz03_1 : List Dev := [d0, a1, a2, a3]
def sg := [scn 2 1 1, envd 0 [0x01000001, 64, 47 * 65536, 0,0,0,0,0], updd 2 3 0x1800000 9]
def sgBad := [scn 2 1 0, envd 0 [0x02000001, 99, 47 * 65536, 0,0,0,0,0]]
def sgA := [scn 65535 0 0]
def b (l : List Desc) := rung 0 0 0 l a3
def sts := [b sg, b sgBad, b sgA, (b sg).setReg (Reg.hgBudget 0) 3, b [envd 0 []], b [mkD []], b [updd 1 3 0x1800000 9],
    b [updd 1 3 0x500000 9], rung 0 0 0 sg d0]
def stz03_2 : List Dev := sts

theorem wit_HeadgateSwitches :
    ((WriteOk (w stz03_1 0) Src.game Reg.hgCtl) ∧ ((w stz03_1 0).dev.hgEn 0 = false) ∧ ((w stz03_1 0).dev.feedTiming 0 = none)) ∧
    ((WriteOk (w stz03_1 1) Src.game Reg.hgCtl) ∧ ((w stz03_1 1).dev.hgEn 0 = false) ∧ ((w stz03_1 1).dev.feedTiming 0 = some std)) ∧
    ((WriteOk (w stz03_1 1) Src.game Reg.hgCtl) ∧ ((w stz03_1 1).dev.soPipe 0 = 0) ∧ ((w stz03_1 1).dev.clocked = true)) ∧
    ((WriteOk (w stz03_1 2) Src.game Reg.hgCtl) ∧ ((w stz03_1 2).dev.hgEn 0 = true) ∧ ((w stz03_1 2).dev.rb (Reg.cmpCtl 0) 0 = false)) ∧
    ((WriteOk (w stz03_1 3) Src.game Reg.hgCtl) ∧ ((w stz03_1 3).dev.hgEn 0 = true) ∧
        ((w stz03_1 3).dev.rb (Reg.cmpCtl 0) 0 = true)) := by
  refine ⟨?_, ?_, ?_, ?_, ?_⟩ <;> decide +kernel

theorem wit_SceneJudged :
    (((w stz03_2 0).dev.clocked = true) ∧ ((w stz03_2 0).dev.frontGroup 0 = some (0, scn 2 1 1, List.drop 1 sg)) ∧
        ((w stz03_2 0).dev.ringType 0 < 2) ∧ (((w stz03_2 0).dev.sceneJudge ((w stz03_2 0).dev.ringType 0) (scn 2 1 1) (List.drop 1 sg)).fst = 0) ∧ ((((w stz03_2 0).dev.takePassed 0 (groupLen (scn 2 1 1))).twqEnterAll ((w stz03_2 0).dev.ringType 0) (List.flatMap updWrites (List.drop (dN (scn 2 1 1) 16 1) (List.drop 1 sg)))).snd = false)) ∧
    (((w stz03_2 1).dev.clocked = true) ∧ ((w stz03_2 1).dev.frontGroup 0 = some (0, scn 2 1 0, List.drop 1 sgBad)) ∧
        ((w stz03_2 1).dev.ringType 0 < 2) ∧ (((w stz03_2 1).dev.sceneJudge ((w stz03_2 1).dev.ringType 0) (scn 2 1 0) (List.drop 1 sgBad)).fst ≠ 0)) := by
  refine ⟨?_, ?_⟩ <;> decide +kernel

theorem wit_FrameRingDescriptors :
    (((w stz03_2 4).dev.clocked = true) ∧ ((w stz03_2 4).dev.front 0 [2] = some (0, envd 0 [])) ∧ ((w stz03_2 4).dev.ringType 0 < 2)) ∧
    (((w stz03_2 5).dev.clocked = true) ∧ ((w stz03_2 5).dev.front 0 [0] = some (0, mkD []))) ∧
    (((w stz03_2 6).dev.clocked = true) ∧ ((w stz03_2 6).dev.front 0 [3] = some (0, updd 1 3 25165824 9)) ∧
        ((w stz03_2 6).dev.ringType 0 < 2) ∧ (dArg (updd 1 3 25165824 9) = 1) ∧
        (((w stz03_2 6).dev.twqEnter ((w stz03_2 6).dev.ringType 0) (updWrite (updd 1 3 25165824 9) 0)).snd = 0)) := by
  refine ⟨?_, ?_, ?_⟩ <;> decide +kernel

end C03

namespace C04

def a1 := live 0 (ported 0 0 d0)
def allOn := (((a1.setRb (Reg.tpCtl 0) 0 true).setRb (Reg.spCtl 0) 0 true)).setPipe 0 { a1.pipe 0 with tpOn := true, spOn := true, cmpOn := true }
def planed := (fun d : Dev => d.setRb Reg.memStat 0 true) (setAll allOn [(Reg.tpCfg 0 0, 0x00010001), (Reg.tpPltbase 0 0, 5)])
def okc := (ported 0 0 d0).setRb Reg.hgCtl 0 true
def stz04_1 : List Dev := [d0, a1, allOn, okc]
def inc := d0.setReg (Reg.tpMapaddr 1) 0x801FFFFF
def noper := (d0.setReg (Reg.ptPerm 1 0) 0x55555555)
def stz04_2 : List Dev := [d0, inc, noper]
def stz04_3 : List Dev := [planed, (planed.setPipe 0 {planed.pipe 0 with ltNext := [(0,[])]})]

theorem wit_PipeBlocksSwitch :
    ((WriteOk (w stz04_1 0) Src.game (Reg.tpCtl 0)) ∧ ((w stz04_1 0).dev.rb (Reg.tpCtl 0) 0 = false) ∧
        (((w stz04_1 0).dev.tpCheck 0).fst ≠ 0)) ∧
    ((WriteOk (w stz04_1 0) Src.game (Reg.spCtl 0)) ∧ ((w stz04_1 0).dev.rb (Reg.spCtl 0) 0 = false) ∧
        (((w stz04_1 0).dev.spCheck 0).fst ≠ 0)) ∧
    ((WriteOk (w stz04_1 0) Src.game (Reg.cmpCtl 0)) ∧ ((w stz04_1 0).dev.rb (Reg.cmpCtl 0) 0 = false) ∧
        (((w stz04_1 0).dev.cmpCheck 0).fst ≠ 0)) ∧
    ((WriteOk (w stz04_1 1) Src.game (Reg.tpCtl 0)) ∧ ((w stz04_1 1).dev.rb (Reg.tpCtl 0) 0 = false) ∧
        (((w stz04_1 1).dev.tpCheck 0).fst = 0)) ∧
    ((WriteOk (w stz04_1 1) Src.game (Reg.spCtl 0)) ∧ ((w stz04_1 1).dev.rb (Reg.spCtl 0) 0 = false) ∧
        (((w stz04_1 1).dev.spCheck 0).fst = 0)) ∧
    ((WriteOk (w stz04_1 1) Src.game (Reg.cmpCtl 0)) ∧ ((w stz04_1 1).dev.rb (Reg.cmpCtl 0) 0 = true)) ∧
    ((WriteOk (w stz04_1 1) Src.game (Reg.cmpCommit 0)) ∧ ((w stz04_1 1).dev.rb (Reg.cmpCtl 0) 0 = true)) ∧
    ((WriteOk (w stz04_1 2) Src.game (Reg.tpCtl 0)) ∧ ((w stz04_1 2).dev.rb (Reg.tpCtl 0) 0 = true)) ∧
    ((WriteOk (w stz04_1 2) Src.game (Reg.tpCommit 0)) ∧ ((w stz04_1 2).dev.rb (Reg.tpCtl 0) 0 = true)) ∧
    ((WriteOk (w stz04_1 2) Src.game (Reg.spCtl 0)) ∧ ((w stz04_1 2).dev.rb (Reg.spCtl 0) 0 = true)) ∧
    ((WriteOk (w stz04_1 2) Src.game (Reg.spCommit 0)) ∧ ((w stz04_1 2).dev.rb (Reg.spCtl 0) 0 = true)) ∧
    ((WriteOk (w stz04_1 3) Src.game (Reg.cmpCtl 0)) ∧ ((w stz04_1 3).dev.rb (Reg.cmpCtl 0) 0 = false) ∧
        (((w stz04_1 3).dev.cmpCheck 0).fst = 0)) := by
  refine ⟨?_, ?_, ?_, ?_, ?_, ?_, ?_, ?_, ?_, ?_, ?_, ?_⟩ <;> decide +kernel

theorem wit_MapPairsAdvance :
    ((WriteOk (w stz04_2 0) (Src.lp 0) (Reg.tpMapdata 0)) ∧ ((w stz04_2 0).dev.flipArmed 1 = false) ∧
        ((w stz04_2 0).dev.mayWrite (2 + 0) 1 (4 * (w stz04_2 0).dev.rf (Reg.tpMapaddr 0) 20 0) 4 = true)) ∧
    ((ReadOk (w stz04_2 0) (Src.lp 0) (Reg.tpMapdata 0))) ∧
    ((WriteOk (w stz04_2 2) (Src.lp 0) (Reg.tpMapdata 0)) ∧ ((w stz04_2 2).dev.flipArmed 1 = false) ∧
        ((w stz04_2 2).dev.mayWrite (2 + 0) 1 (4 * (w stz04_2 2).dev.rf (Reg.tpMapaddr 0) 20 0) 4 = false)) := by
  refine ⟨?_, ?_, ?_⟩ <;> decide +kernel

theorem wit_FetchesArrive :
    (((w stz04_3 0).dev.clocked = true) ∧ ((w stz04_3 0).dev.planeOn 0 0 = true) ∧ ((w stz04_3 0).dev.memReady = true) ∧
        ((w stz04_3 0).dev.lineTable 0 0 = true) ∧ ((List.any ((w stz04_3 0).dev.pipe 0).ltNext fun (e : Nat × List Nat) => decide (e.fst = 0)) = false) ∧ (have o := (w stz04_3 0).dev.lf (Reg.tpPltbase 0 0) 27 0 * 64 + 16 * ((w stz04_3 0).dev.pipe 0).nextL; (w stz04_3 0).dev.fetchVal 0 o 4 = some 0 ∧ (w stz04_3 0).dev.fetchVal 0 (o + 4) 4 = some 0 ∧ (w stz04_3 0).dev.fetchVal 0 (o + 8) 4 = some 0 ∧ (w stz04_3 0).dev.fetchVal 0 (o + 12) 4 = some 0)) := by
  decide +kernel

end C04

namespace C04b

def a1 := live 0 (ported 0 0 d0)
def allOn := (((a1.setRb (Reg.tpCtl 0) 0 true).setRb (Reg.spCtl 0) 0 true)).setPipe 0 { a1.pipe 0 with tpOn := true, spOn := true, cmpOn := true }
def stz04b_1 : List Dev := [d0, a1, allOn]
def stz04b_2 : List Dev := [d0]

theorem wit_WindowWritesStore :
    ((WriteOk (w stz04b_1 0) Src.game (25165824 + 4 * 0)) ∧ 7#4 ≠ 15) ∧
    ((WriteOk (w stz04b_1 0) Src.game (6815744 + 4 * 0)) ∧ 7#4 ≠ 15) ∧
    ((WriteOk (w stz04b_1 0) Src.game (25165824 + 4 * 0)) ∧ 15#4 = 15 ∧ ((w stz04b_1 0).dev.flipArmed 1 = false)) ∧
    ((WriteOk (w stz04b_1 0) Src.game (6815744 + 4 * 0)) ∧ 15#4 = 15 ∧
        ((w stz04b_1 0).dev.flipArmed (2 + (w stz04b_1 0).dev.rf Reg.spWinsel 0 0) = false)) := by
  refine ⟨?_, ?_, ?_, ?_⟩ <;> decide +kernel

theorem wit_ListWalkBounded :
    (((w stz04b_1 2).dev.clocked = true) ∧ (((w stz04b_1 2).dev.pipe 0).spOn = true) ∧ (((w stz04b_1 2).dev.feed 0).isSome = true) ∧
        (∀ (g : Nat), g < 4 → (w stz04b_1 2).dev.spHead 0 g = none)) := by
  decide +kernel

theorem wit_LayerBlendChecked :
    ((WriteOk (w stz04b_1 0) Src.game (Reg.cmpLay 0 0)) ∧ (fld (0#32) 2 0 < 5)) ∧
    ((WriteOk (w stz04b_1 0) Src.game (Reg.cmpLay 0 0)) ∧ (5 ≤ fld (7#32) 2 0)) := by
  refine ⟨?_, ?_⟩ <;> decide +kernel

theorem wit_WriteThenRead :
    (0 + [5#8, 6#8, 7#8].length ≤ 2 ^ 40 ∧ ((wd stz04b_2 0).flipArmed 0 = false)) := by
  decide +kernel

end C04b

namespace C07

def a1 := ported 0 0 d0
def cfgd := setAll d0 [(Reg.soHtim 0, f2 64 80), (Reg.soVtim 0, f2 48 60), (Reg.soDotclk 0, 25000), (Reg.soCfg 0, 0x20008),
    (Reg.soHsync 0, f2 68 72), (Reg.soVsync 0, f2 49 51)]
def good := (setAll d0 [(Reg.soHtim 0, f2 64 80), (Reg.soVtim 0, f2 48 60), (Reg.soDotclk 0, 25175), (Reg.soCfg 0, 0x4 + 0x00010000),
    (Reg.soHsync 0, f2 68 72), (Reg.soVsync 0, f2 49 51)])
def nop2 := a1.setReg (Reg.soCfg 0) 2
def lock (d : Dev) := d.setPort 0 {d.port 0 with locking := true}
def sts := [d0, cfgd, good, lock a1, lock (a1.setReg (Reg.sysTbase) 1), a1, a1.setRb Reg.hgCtl 0 true, nop2,
    lock { a1 with ladder := {a1.ladder with running := [2]}}]
def stz07_1 : List Dev := sts
def bufd := (a1.setPipe 0 { a1.pipe 0 with buf := some ⟨0, 3, List.replicate 64 0x123456⟩, begun := [(0,3),(0,5)] })
def stz07_2 : List Dev := [bufd, bufd.setReg (Reg.ptPerm 2 0) 0]
def at' (f l : Nat) (d : Dev) := d.setPort 0 { d.port 0 with frame := f, line := l, fresh := false }
def lm := setAll (at' 0 2 bufd) [(Reg.soLm 0 1, 0x80000000 + 5 * 65536 + 2)]
def np := (a1.setReg (Reg.soCfg 0) 0x8000A).setPort 0 { a1.port 0 with line := 20, fresh := false}
def stz07_3 : List Dev := [at' 0 4 bufd, at' 0 3 bufd, lm, a1, np, at' 65535 59 bufd]
def dp (d : Dev) := d.setRb (Reg.soLink 0) 0 true
def hd := setAll a1 [(Reg.soCfg 0, 0x10)]
def stz07_4 : List Dev := [a1, dp a1, (dp a1).setRb (Reg.soLink 0) 4 true, (dp a1).setRb (Reg.soAuxstat 0) 0 true,
    ((dp a1).setRb (Reg.soAuxstat 0) 0 true).setPort 0 {a1.port 0 with aux := 1}, hd]

theorem wit_PortSwitches :
    ((WriteOk (w stz07_1 0) Src.game (Reg.soCtl 0)) ∧ ((w stz07_1 0).dev.soEn 0 = false) ∧
        (((w stz07_1 0).dev.soJudge 0 (fun (x : Nat) => false) false).fst ≠ 0)) ∧
    ((WriteOk (w stz07_1 1) Src.game (Reg.soCtl 0)) ∧ ((w stz07_1 1).dev.soEn 0 = false) ∧
        (((w stz07_1 1).dev.soJudge 0 (fun (x : Nat) => false) false).fst = 0)) ∧
    ((WriteOk (w stz07_1 3) Src.game (Reg.soCtl 0)) ∧ ((w stz07_1 3).dev.soEn 0 = true) ∧
        ((w stz07_1 3).dev.soPipe 0 < 2 → (w stz07_1 3).dev.hgEn ((w stz07_1 3).dev.soPipe 0) = false ∧
        (w stz07_1 3).dev.rb (Reg.cmpCtl ((w stz07_1 3).dev.soPipe 0)) 0 = false)) ∧
    ((WriteOk (w stz07_1 3) Src.game (Reg.soCommit 0)) ∧ ((w stz07_1 3).dev.soEn 0 = true) ∧ ((w stz07_1 3).dev.soPipe 0 < 2)) ∧
    ((((w stz07_1 3).dev.port 0).locking = true) ∧ ((w stz07_1 3).dev.clocked = true)) ∧
    ((WriteOk (w stz07_1 6) Src.game (Reg.soCtl 0)) ∧ ((w stz07_1 6).dev.soEn 0 = true) ∧ ((w stz07_1 6).dev.soPipe 0 < 2) ∧
        ((w stz07_1 6).dev.hgEn ((w stz07_1 6).dev.soPipe 0) = true ∨ (w stz07_1 6).dev.rb (Reg.cmpCtl ((w stz07_1 6).dev.soPipe 0)) 0 = true)) := by
  refine ⟨?_, ?_, ?_, ?_, ?_, ?_⟩ <;> decide +kernel

theorem wit_RowWritten :
    (((w stz07_2 0).dev.clocked = true) ∧ (((w stz07_2 0).dev.pipe 0).buf = some (LineBuf.mk 0 3 (List.replicate 64 1193046))) ∧
        ((w stz07_2 0).dev.feed 0 = some 0) ∧ ((w stz07_2 0).dev.mayWrite 8 6 (rowBase (w stz07_2 0).dev.inForce ((w stz07_2 0).dev.primary 0) (rowOf (timingOf (w stz07_2 0).dev.inForce ((w stz07_2 0).dev.primary 0)) (LineBuf.mk 0 3 (List.replicate 64 1193046)).frame (LineBuf.mk 0 3 (List.replicate 64 1193046)).line)) (List.flatMap (fsPack ((w stz07_2 0).dev.lf (Reg.soCfg ((w stz07_2 0).dev.primary 0)) 3 2)) (LineBuf.mk 0 3 (List.replicate 64 1193046)).px).length = true) ∧ ((w stz07_2 0).dev.flipArmed 6 = false) ∧ (rowBase (w stz07_2 0).dev.inForce ((w stz07_2 0).dev.primary 0) (rowOf (timingOf (w stz07_2 0).dev.inForce ((w stz07_2 0).dev.primary 0)) (LineBuf.mk 0 3 (List.replicate 64 1193046)).frame (LineBuf.mk 0 3 (List.replicate 64 1193046)).line) + (List.flatMap (fsPack ((w stz07_2 0).dev.lf (Reg.soCfg ((w stz07_2 0).dev.primary 0)) 3 2)) (LineBuf.mk 0 3 (List.replicate 64 1193046)).px).length ≤ 2 ^ 40)) ∧
    (((w stz07_2 1).dev.clocked = true) ∧ (((w stz07_2 1).dev.pipe 0).buf = some (LineBuf.mk 0 3 (List.replicate 64 1193046))) ∧
        ((w stz07_2 1).dev.feed 0 = some 0) ∧ ((w stz07_2 1).dev.mayWrite 8 6 (rowBase (w stz07_2 1).dev.inForce ((w stz07_2 1).dev.primary 0) (rowOf (timingOf (w stz07_2 1).dev.inForce ((w stz07_2 1).dev.primary 0)) (LineBuf.mk 0 3 (List.replicate 64 1193046)).frame (LineBuf.mk 0 3 (List.replicate 64 1193046)).line)) (List.flatMap (fsPack ((w stz07_2 1).dev.lf (Reg.soCfg ((w stz07_2 1).dev.primary 0)) 3 2)) (LineBuf.mk 0 3 (List.replicate 64 1193046)).px).length = false)) := by
  refine ⟨?_, ?_⟩ <;> decide +kernel

theorem wit_PortBeamMoves :
    (((w stz07_3 0).dev.clocked = true) ∧ (((w stz07_3 0).dev.port 0).run = true) ∧
        ((if ((w stz07_3 0).dev.port 0).fresh = true then (((w stz07_3 0).dev.port 0).frame,
        ((w stz07_3 0).dev.port 0).line) else if ((w stz07_3 0).dev.port 0).line + 1 < (timingOf (w stz07_3 0).dev.scanWord 0).lines ((w stz07_3 0).dev.port 0).frame then (((w stz07_3 0).dev.port 0).frame, ((w stz07_3 0).dev.port 0).line + 1) else ((((w stz07_3 0).dev.port 0).frame + 1) % 65536, 0)).snd ≠ 0) ∧ ((w stz07_3 0).dev.sf (Reg.soCfg 0) 1 0 < 2) ∧ ((if ((w stz07_3 0).dev.port 0).fresh = true then (((w stz07_3 0).dev.port 0).frame, ((w stz07_3 0).dev.port 0).line) else if ((w stz07_3 0).dev.port 0).line + 1 < (timingOf (w stz07_3 0).dev.scanWord 0).lines ((w stz07_3 0).dev.port 0).frame then (((w stz07_3 0).dev.port 0).frame, ((w stz07_3 0).dev.port 0).line + 1) else ((((w stz07_3 0).dev.port 0).frame + 1) % 65536, 0)).snd < (timingOf (w stz07_3 0).dev.scanWord 0).vact) ∧ (((w stz07_3 0).dev.pipe ((w stz07_3 0).dev.sf (Reg.soCfg 0) 1 0)).begun.contains (if ((w stz07_3 0).dev.port 0).fresh = true then (((w stz07_3 0).dev.port 0).frame, ((w stz07_3 0).dev.port 0).line) else if ((w stz07_3 0).dev.port 0).line + 1 < (timingOf (w stz07_3 0).dev.scanWord 0).lines ((w stz07_3 0).dev.port 0).frame then (((w stz07_3 0).dev.port 0).frame, ((w stz07_3 0).dev.port 0).line + 1) else ((((w stz07_3 0).dev.port 0).frame + 1) % 65536, 0)) = true) ∧ ((w stz07_3 0).dev.soPipe 0 < 2)) ∧
    (((w stz07_3 2).dev.clocked = true) ∧ (((w stz07_3 2).dev.port 0).run = true) ∧ ((w stz07_3 2).dev.rb (Reg.soLm 0 1) 31 = true) ∧
        ((w stz07_3 2).dev.rf (Reg.soLm 0 1) 15 0 = ((w stz07_3 2).dev.port 0).line) ∧
        (((w stz07_3 2).dev.port 0).line < (timingOf (w stz07_3 2).dev.scanWord 0).lines ((w stz07_3 2).dev.port 0).frame) ∧
        ((w stz07_3 2).dev.rf (Reg.soLm 0 1) 29 16 < (timingOf (w stz07_3 2).dev.scanWord 0).htot)) := by
  refine ⟨?_, ?_⟩ <;> decide +kernel

theorem wit_PortLinkCommands :
    ((WriteOk (w stz07_4 0) Src.game (Reg.soCtl 0)) ∧ ((w stz07_4 0).dev.lb (Reg.soCfg 0) 4 = false) ∧
        ((w stz07_4 0).dev.rb (Reg.soLink 0) 4 = false) ∧ (((w stz07_4 0).dev.port 0).run = true) ∧
        ((w stz07_4 0).dev.rb (Reg.soLink 0) 0 = false)) ∧
    ((WriteOk (w stz07_4 0) Src.game (Reg.soAuxcmd 0)) ∧ ((w stz07_4 0).dev.rb (Reg.soAuxstat 0) 0 = false) ∧
        ((w stz07_4 0).dev.lb (Reg.soCfg 0) 4 = decide (4 ≤ (Instr.auxNativeWrite Src.game 0 5#20 0#4, 0).snd))) ∧
    ((WriteOk (w stz07_4 0) Src.game (Reg.soAuxcmd 0)) ∧ ((w stz07_4 0).dev.rb (Reg.soAuxstat 0) 0 = false) ∧
        ((w stz07_4 0).dev.lb (Reg.soCfg 0) 4 = decide (4 ≤ (Instr.auxNativeRead Src.game 0 5#20 0#4, 1).snd))) ∧
    ((WriteOk (w stz07_4 0) Src.game (Reg.soAuxcmd 0)) ∧ ((w stz07_4 0).dev.rb (Reg.soAuxstat 0) 0 = false) ∧
        ((w stz07_4 0).dev.lb (Reg.soCfg 0) 4 = decide (4 ≤ (Instr.i2cOverAuxWrite Src.game 0 5#20 0#4, 2).snd))) ∧
    ((WriteOk (w stz07_4 0) Src.game (Reg.soAuxcmd 0)) ∧ ((w stz07_4 0).dev.rb (Reg.soAuxstat 0) 0 = false) ∧
        ((w stz07_4 0).dev.lb (Reg.soCfg 0) 4 = decide (4 ≤ (Instr.i2cOverAuxRead Src.game 0 5#20 0#4, 3).snd))) ∧
    ((WriteOk (w stz07_4 0) Src.game (Reg.soAuxcmd 0)) ∧ ((w stz07_4 0).dev.rb (Reg.soAuxstat 0) 0 = false) ∧
        ((w stz07_4 0).dev.lb (Reg.soCfg 0) 4 ≠ decide (4 ≤ (Instr.ddcWrite Src.game 0 5#20 0#4, 4).snd))) ∧
    ((WriteOk (w stz07_4 0) Src.game (Reg.soAuxcmd 0)) ∧ ((w stz07_4 0).dev.rb (Reg.soAuxstat 0) 0 = false) ∧
        ((w stz07_4 0).dev.lb (Reg.soCfg 0) 4 ≠ decide (4 ≤ (Instr.ddcRead Src.game 0 5#20 0#4, 5).snd))) ∧
    (((w stz07_4 0).dev.clocked = true) ∧ ((w stz07_4 0).dev.rb (Reg.soLink 0) 0 ≠ true)) ∧
    (((w stz07_4 0).dev.clocked = true) ∧ ((w stz07_4 0).dev.lb (Reg.soCfg 0) 4 = false)) ∧
    ((WriteOk (w stz07_4 1) Src.game (Reg.soCtl 0)) ∧ ((w stz07_4 1).dev.lb (Reg.soCfg 0) 4 = false) ∧
        ((w stz07_4 1).dev.rb (Reg.soLink 0) 4 = false) ∧ (((w stz07_4 1).dev.port 0).run = true) ∧
        ((w stz07_4 1).dev.rb (Reg.soLink 0) 0 = true)) ∧
    (((w stz07_4 2).dev.clocked = true) ∧ ((w stz07_4 2).dev.rb (Reg.soLink 0) 4 = true) ∧
        ((w stz07_4 2).dev.rb (Reg.soLink 0) 0 = true) ∧ ((0#3).toNat < 4)) ∧
    (((w stz07_4 3).dev.clocked = true) ∧ ((w stz07_4 3).dev.rb (Reg.soAuxstat 0) 0 = true) ∧ ((0#5).toNat ≤ 16) ∧
        (((w stz07_4 3).dev.port 0).aux % 2 = 0)) ∧
    (((w stz07_4 4).dev.clocked = true) ∧ ((w stz07_4 4).dev.rb (Reg.soAuxstat 0) 0 = true) ∧ ((1#5).toNat ≤ 16) ∧
        (((w stz07_4 4).dev.port 0).aux % 2 = 1) ∧ (0 < (1#5).toNat) ∧ [1#8, 2#8, 3#8][0]? = some 1#8) ∧
    ((WriteOk (w stz07_4 5) Src.game (Reg.soAuxcmd 0)) ∧ ((w stz07_4 5).dev.rb (Reg.soAuxstat 0) 0 = false) ∧
        ((w stz07_4 5).dev.lb (Reg.soCfg 0) 4 ≠ decide (4 ≤ (Instr.auxNativeWrite Src.game 0 5#20 0#4, 0).snd))) ∧
    ((WriteOk (w stz07_4 5) Src.game (Reg.soAuxcmd 0)) ∧ ((w stz07_4 5).dev.rb (Reg.soAuxstat 0) 0 = false) ∧
        ((w stz07_4 5).dev.lb (Reg.soCfg 0) 4 ≠ decide (4 ≤ (Instr.auxNativeRead Src.game 0 5#20 0#4, 1).snd))) ∧
    ((WriteOk (w stz07_4 5) Src.game (Reg.soAuxcmd 0)) ∧ ((w stz07_4 5).dev.rb (Reg.soAuxstat 0) 0 = false) ∧
        ((w stz07_4 5).dev.lb (Reg.soCfg 0) 4 ≠ decide (4 ≤ (Instr.i2cOverAuxWrite Src.game 0 5#20 0#4, 2).snd))) ∧
    ((WriteOk (w stz07_4 5) Src.game (Reg.soAuxcmd 0)) ∧ ((w stz07_4 5).dev.rb (Reg.soAuxstat 0) 0 = false) ∧
        ((w stz07_4 5).dev.lb (Reg.soCfg 0) 4 ≠ decide (4 ≤ (Instr.i2cOverAuxRead Src.game 0 5#20 0#4, 3).snd))) ∧
    ((WriteOk (w stz07_4 5) Src.game (Reg.soAuxcmd 0)) ∧ ((w stz07_4 5).dev.rb (Reg.soAuxstat 0) 0 = false) ∧
        ((w stz07_4 5).dev.lb (Reg.soCfg 0) 4 = decide (4 ≤ (Instr.ddcWrite Src.game 0 5#20 0#4, 4).snd))) ∧
    ((WriteOk (w stz07_4 5) Src.game (Reg.soAuxcmd 0)) ∧ ((w stz07_4 5).dev.rb (Reg.soAuxstat 0) 0 = false) ∧
        ((w stz07_4 5).dev.lb (Reg.soCfg 0) 4 = decide (4 ≤ (Instr.ddcRead Src.game 0 5#20 0#4, 5).snd))) := by
  refine ⟨?_, ?_, ?_, ?_, ?_, ?_, ?_, ?_, ?_, ?_, ?_, ?_, ?_, ?_, ?_, ?_, ?_, ?_, ?_⟩ <;> decide +kernel

end C07

namespace C08a

def lpst (f : LpSt → LpSt) (d : Dev) : Dev := { d with lps := [(0, f { LpSt.init with mode := .run, pc := 5 }), (1, f { LpSt.init with mode := .run, pc := 5 })], ladder := { d.ladder with running := [8, 9] } }
def imem (w : LpWord) (d : Dev) : Dev := [0,1].foldl (fun d n => d.writeBytes (7+n) 2 20 (toBytes 4 (encodeLp w).toNat)) d
def ws : List LpWord := [.long 0 5 (.imm 0xFFFFF), .long 2 5 (.imm 7), .pair false ⟨3,false,4⟩ ⟨4,false,3⟩,
    .pair false ⟨3,false,4⟩ ⟨3,false,3⟩, .long 0 33 (.imm 1), .pair true ⟨32,false,4⟩ ⟨34,false,3⟩,
  .long 1 5 (.port 62 0), .long 1 5 (.port 6 3), .pair false ⟨34,false,4⟩ ⟨40,false,3⟩]
def rg (l : LpSt) : LpSt := ((((l.put 3 0x33).put 4 0x44).put 118 4).put 31 0x1FFF)
def progs := ws.map (fun w => lpst rg (imem w d0))
def step' := lpst (fun l => { rg l with stepping := true, preds := 0xFE }) (imem (.long 0 5 (.imm 0xFFFFF)) (imem (.long 2 5 (.imm 7)) d0))
def stz08a_1 : List Dev := (progs ++ [step'])

theorem wit_LpFaultsTrap :
    (((w stz08a_1 3).dev.clocked = true) ∧ ((w stz08a_1 3).dev.lpReady 0 = true) ∧
        ((w stz08a_1 3).dev.badAt (7 + 0) (4 * ((w stz08a_1 3).dev.lp 0).pc) 4 = false) ∧
        (decodeLp (BitVec.ofNat 32 ((w stz08a_1 3).dev.peekN (7 + 0) (4 * ((w stz08a_1 3).dev.lp 0).pc) 4)) = LpWord.pair false (ShortMove.mk 3 false 4) (ShortMove.mk 3 false 3)) ∧ (wordFault (LpWord.pair false (ShortMove.mk 3 false 4) (ShortMove.mk 3 false 3)) = some (1, 3, 1))) := by
  decide +kernel

theorem wit_MovesMove :
    ((Issues (w stz08a_1 0) 0) ∧ ((w stz08a_1 0).dev.badAt (7 + 0) (4 * ((w stz08a_1 0).dev.lp 0).pc) 4 = false) ∧ ((5#7).toNat < 32) ∧
        (decodeLp (BitVec.ofNat 32 ((w stz08a_1 0).dev.peekN (7 + 0) (4 * ((w stz08a_1 0).dev.lp 0).pc) 4)) = LpWord.long 0 (5#7) (LongSrc.imm 1048575#20))) ∧
    ((Issues (w stz08a_1 1) 0) ∧ ((w stz08a_1 1).dev.badAt (7 + 0) (4 * ((w stz08a_1 1).dev.lp 0).pc) 4 = false) ∧ 2#3 ≠ 0 ∧
        (((w stz08a_1 1).dev.lp 0).preds.getLsbD (2#3).toNat = false) ∧ (portDest (5#7).toNat = true) ∧
        (decodeLp (BitVec.ofNat 32 ((w stz08a_1 1).dev.peekN (7 + 0) (4 * ((w stz08a_1 1).dev.lp 0).pc) 4)) = LpWord.long (2#3) (5#7) (LongSrc.imm 7#20))) ∧
    ((Issues (w stz08a_1 2) 0) ∧ ((w stz08a_1 2).dev.badAt (7 + 0) (4 * ((w stz08a_1 2).dev.lp 0).pc) 4 = false) ∧ 3#7 ≠ 4#7 ∧
        ((3#7).toNat < 32) ∧ ((4#7).toNat < 32) ∧ (decodeLp (BitVec.ofNat 32 ((w stz08a_1 2).dev.peekN (7 + 0) (4 * ((w stz08a_1 2).dev.lp 0).pc) 4)) = LpWord.pair false (ShortMove.mk (3#7) false 4#7) (ShortMove.mk (4#7) false 3#7))) := by
  refine ⟨?_, ?_, ?_⟩ <;> decide +kernel

end C08a

namespace C08b



theorem wit_PairRules :
    (¬1 ∈ portOperands 0 ∧ ¬0 ∈ portOperands 1 ∧ (portTrigger 0 = false ∨ portTrigger 1 = false ∨ portUnit 0 ≠ portUnit 1)) ∧
    (31 ∈ portOperands 83) ∧
    (32 ∈ portOperands 34) ∧
    (¬35 ∈ portOperands 34 ∧ ¬34 ∈ portOperands 35 ∧ portTrigger 34 = true ∧ portTrigger 35 = true ∧ portUnit 34 = portUnit 35) := by
  refine ⟨?_, ?_, ?_, ?_⟩ <;> decide +kernel

end C08b

namespace C08c

def lpst (f : LpSt → LpSt) (d : Dev) : Dev := { d with lps := [(0, f { LpSt.init with mode := .run, pc := 5 }), (1, f { LpSt.init with mode := .run, pc := 8191 })], ladder := { d.ladder with running := [8, 9] } }
def os : List Word := [0,1,0x80000000,0xFFFFFFFF,0x7FFFFFFF,12345,0xFFFF8000]
def all (o : Word) (l : LpSt) : LpSt := [31,32,48,54,60,65,80].foldl (fun l p => l.put p o) ((l.put 3 0x33).put 118 4)
def stz08c_1 : List Dev := (os.map (fun o => lpst (all o) d0) ++ [d0.setReg (Reg.lpCfg 0) 1 |> lpst (all 9),
    lpst (fun l => {all 9 l with stepping := true}) d0])
def cfgs : List Nat := (List.range 16).flatMap (fun c => [0,3].flatMap (fun p => [0,1,2,3].map (fun m => p + 8 * c + 128 * m)))
def stz08c_2 : List Dev := (cfgs.flatMap (fun c => [lpst (fun l => {(all 5 l).put 61 (BitVec.ofNat 32 c) with preds := 0x10}) d0,
    lpst (fun l => {(all 0x80000000 l).put 61 (BitVec.ofNat 32 c) with preds := 0xFE}) d0]))
def stz08c_3 : List Dev := [lpst (all 0x12345678) ((List.range 10).foldl (fun d k => d.setByte (11 * 2^40 + k) (BitVec.ofNat 8 (k * 17 + 3))) d0), lpst (all 0x12345678) ((List.range 10).foldl (fun d k => d.setByte (7 * 2^40 + k) (BitVec.ofNat 8 (k * 17 + 3))) d0)]
def stz08c_4 : List Dev := (os.flatMap (fun o => [lpst (all o) d0, lpst (fun l => { all o l with rep := some 1}) d0,
    lpst (fun l => { all o l with rep := some 3}) d0]))

theorem wit_AluOperations :
    ((Issues (w stz08c_1 0) 0)) := by
  decide +kernel

theorem wit_MultiplyDivide :
    ((Issues (w stz08c_1 0) 0) ∧ 0#32 = 0 ∧ ((w stz08c_1 0).dev.rb (Reg.lpCfg 0) 0 = false)) ∧
    ((Issues (w stz08c_1 0) 0) ∧ 1#32 ≠ 0) ∧
    ((Issues (w stz08c_1 7) 0) ∧ 0#32 = 0 ∧ ((w stz08c_1 7).dev.rb (Reg.lpCfg 0) 0 = true)) := by
  refine ⟨?_, ?_, ?_⟩ <;> decide +kernel

theorem wit_Comparisons :
    ((Issues (w stz08c_2 0) 0) ∧ (fld (((w stz08c_2 0).dev.lp 0).get 61) 6 3 = (0, ((w stz08c_2 0).dev.lp 0).get 60 == 0#32).fst)) ∧
    ((Issues (w stz08c_2 16) 0) ∧ (fld (((w stz08c_2 16).dev.lp 0).get 61) 6 3 = (1, ((w stz08c_2 16).dev.lp 0).get 60 != 0#32).fst)) ∧
    ((Issues (w stz08c_2 32) 0) ∧ (fld (((w stz08c_2 32).dev.lp 0).get 61) 6 3 = (2,
        BitVec.slt (((w stz08c_2 32).dev.lp 0).get 60) 0#32).fst)) ∧
    ((Issues (w stz08c_2 48) 0) ∧ (fld (((w stz08c_2 48).dev.lp 0).get 61) 6 3 = (3,
        (0#32).sle (((w stz08c_2 48).dev.lp 0).get 60)).fst)) ∧
    ((Issues (w stz08c_2 64) 0) ∧ (fld (((w stz08c_2 64).dev.lp 0).get 61) 6 3 = (4,
        BitVec.ult (((w stz08c_2 64).dev.lp 0).get 60) 0#32).fst)) ∧
    ((Issues (w stz08c_2 80) 0) ∧ (fld (((w stz08c_2 80).dev.lp 0).get 61) 6 3 = (5,
        (0#32).ule (((w stz08c_2 80).dev.lp 0).get 60)).fst)) ∧
    ((Issues (w stz08c_2 96) 0) ∧ (fld (((w stz08c_2 96).dev.lp 0).get 61) 6 3 = (6,
        (0#32).slt (((w stz08c_2 96).dev.lp 0).get 60)).fst)) ∧
    ((Issues (w stz08c_2 112) 0) ∧ (fld (((w stz08c_2 112).dev.lp 0).get 61) 6 3 = (7,
        BitVec.sle (((w stz08c_2 112).dev.lp 0).get 60) 0#32).fst)) ∧
    ((Issues (w stz08c_2 128) 0) ∧ (fld (((w stz08c_2 128).dev.lp 0).get 61) 6 3 = (8,
        (0#32).ult (((w stz08c_2 128).dev.lp 0).get 60)).fst)) ∧
    ((Issues (w stz08c_2 144) 0) ∧ (fld (((w stz08c_2 144).dev.lp 0).get 61) 6 3 = (9,
        BitVec.ule (((w stz08c_2 144).dev.lp 0).get 60) 0#32).fst)) ∧
    ((Issues (w stz08c_2 160) 0) ∧ (fld (((w stz08c_2 160).dev.lp 0).get 61) 6 3 = (10,
        ((w stz08c_2 160).dev.lp 0).get 60 &&& 0#32 != 0).fst)) ∧
    ((Issues (w stz08c_2 176) 0) ∧ (fld (((w stz08c_2 176).dev.lp 0).get 61) 6 3 = (11,
        ((w stz08c_2 176).dev.lp 0).get 60 &&& 0#32 == 0).fst)) ∧
    ((Issues (w stz08c_2 192) 0) ∧ (fld (((w stz08c_2 192).dev.lp 0).get 61) 6 3 = (12, true).fst)) ∧
    ((Issues (w stz08c_2 208) 0) ∧ (fld (((w stz08c_2 208).dev.lp 0).get 61) 6 3 = (13, false).fst)) ∧
    ((Issues (w stz08c_2 224) 0) ∧ (fld (((w stz08c_2 224).dev.lp 0).get 61) 6 3 = (14, false).fst)) ∧
    ((Issues (w stz08c_2 240) 0) ∧ (fld (((w stz08c_2 240).dev.lp 0).get 61) 6 3 = (15, false).fst)) := by
  refine ⟨?_, ?_, ?_, ?_, ?_, ?_, ?_, ?_, ?_, ?_, ?_, ?_, ?_, ?_, ?_, ?_⟩ <;> decide +kernel

theorem wit_LoadsAndStores :
    ((Issues (w stz08c_3 0) 0) ∧ ((w stz08c_3 0).dev.flipArmed (11 + 0) = false)) := by
  decide +kernel

theorem wit_BranchesAndRepeats :
    (((w stz08c_4 0).dev.clocked = true) ∧ ((w stz08c_4 0).dev.lpReady 0 = true) ∧ (((w stz08c_4 0).dev.lp 0).rep = none)) ∧
    (((w stz08c_4 0).dev.clocked = true) ∧ ((w stz08c_4 0).dev.lpReady 0 = true) ∧ (((w stz08c_4 0).dev.lp 0).rep = none) ∧
        ((0#32).toNat % 65536 = 0)) ∧
    (((w stz08c_4 0).dev.clocked = true) ∧ ((w stz08c_4 0).dev.lpReady 0 = true) ∧ (((w stz08c_4 0).dev.lp 0).rep = none) ∧
        ((1#32).toNat % 65536 ≠ 0)) ∧
    (((w stz08c_4 1).dev.clocked = true) ∧ ((w stz08c_4 1).dev.lpReady 0 = true) ∧ (((w stz08c_4 1).dev.lp 0).rep = some 1)) ∧
    (((w stz08c_4 2).dev.clocked = true) ∧ ((w stz08c_4 2).dev.lpReady 0 = true) ∧ (((w stz08c_4 2).dev.lp 0).rep = some 3)) := by
  refine ⟨?_, ?_, ?_, ?_, ?_⟩ <;> decide +kernel

end C08c

namespace C08d

def lpst (f : LpSt → LpSt) (d : Dev) : Dev := { d with lps := [(0, f { LpSt.init with mode := .run, pc := 5 }), (1, f { LpSt.init with mode := .run, pc := 8191 })], ladder := { d.ladder with running := [8, 9] } }
def stz08d_1 : List Dev := [lpst id d0, lpst id (ported 0 0 {d0 with time := {d0.time with src := some 0}}),
    lpst (fun l => {l with wait := .line 5 true}) d0, lpst (fun l => {l with wait := .dot 5 true}) d0,
    lpst id {d0 with time := {d0.time with src := some 4}}]
def tqs (l : LpSt) : LpSt := ((((l.put 96 3).put 98 0x1800000).put 101 4))
def aa := live 0 (ported 0 0 d0)
def stz08d_2 : List Dev := [lpst tqs aa, lpst tqs d0, lpst (fun l => tqs (l.put 96 0x10003)) aa,
    lpst (fun l => {l with io := [.rd 0x10 true]}) aa, lpst (fun l => {l with io := [.rd 0x8000 true, .wr 8 5]}) aa,
    lpst (fun l => {l with io := [.wr 0x10 5]}) aa, lpst (fun l => {l with io := [.wr 0x8000 5, .wr 8 5]}) aa,
    lpst (fun l => {l with io := [.rd 0x100 true, .wr 8 5]}) aa]

theorem wit_WaitsStall :
    ((Issues (w stz08d_1 0) 0) ∧ ((Instr.beamWaitl 0 0#32, (w stz08d_1 0).dev.masterLines,
        LpWait.line (0#32).toNat false).snd.fst = some 1000) ∧ ((0#32).toNat < 1000)) ∧
    ((Issues (w stz08d_1 0) 0) ∧ ((Instr.beamWaitd 0 0#32, (w stz08d_1 0).dev.masterDots,
        LpWait.dot (0#32).toNat false).snd.fst = some 10000) ∧ ((0#32).toNat < 10000)) ∧
    ((Issues (w stz08d_1 0) 0) ∧ ((Instr.beamWaitl 0 1000#32, (w stz08d_1 0).dev.masterLines,
        LpWait.line (1000#32).toNat false).snd.fst = some 1000) ∧ (1000 ≤ (1000#32).toNat)) ∧
    ((Issues (w stz08d_1 0) 0) ∧ ((Instr.beamWaitd 0 10000#32, (w stz08d_1 0).dev.masterDots,
        LpWait.dot (10000#32).toNat false).snd.fst = some 10000) ∧ (10000 ≤ (10000#32).toNat)) ∧
    (((w stz08d_1 2).dev.clocked = true) ∧ (((w stz08d_1 2).dev.lp 0).wait = .line 5 true)) := by
  refine ⟨?_, ?_, ?_, ?_, ?_⟩ <;> decide +kernel

theorem wit_LpReachesOut :
    ((Issues (w stz08d_2 0) 0) ∧ (((w stz08d_2 0).dev.twqEnter (b2n (BitVec.getLsbD (((w stz08d_2 0).dev.lp 0).get 100) 0)) (TimedWrite.mk (if BitVec.getLsbD (((w stz08d_2 0).dev.lp 0).get 96) 16 = true then BitVec.toNat (((w stz08d_2 0).dev.lp 0).get 97) % 65536 else ((w stz08d_2 0).dev.pipe (b2n (BitVec.getLsbD (((w stz08d_2 0).dev.lp 0).get 100) 0))).nextF) (BitVec.toNat (((w stz08d_2 0).dev.lp 0).get 96) % 65536) (BitVec.toNat (((w stz08d_2 0).dev.lp 0).get 98)) (0#32) (2 + 0))).snd < 4)) ∧
    ((Issues (w stz08d_2 0) 0) ∧ (((w stz08d_2 0).dev.lp 0).io = [])) ∧
    (((w stz08d_2 3).dev.clocked = true) ∧ (((w stz08d_2 3).dev.lp 0).io = [IoOp.rd 16 true]) ∧
        ((w stz08d_2 3).dev.lpIoStalled 0 = false) ∧ ((w stz08d_2 3).dev.admits (2 + 0) (placeLp 16) false = false)) ∧
    (((w stz08d_2 4).dev.clocked = true) ∧ (((w stz08d_2 4).dev.lp 0).io = [IoOp.rd 32768 true, IoOp.wr 8 5]) ∧
        ((w stz08d_2 4).dev.lpIoStalled 0 = false) ∧ ((w stz08d_2 4).dev.admits (2 + 0) (placeLp 32768) false = true)) ∧
    (((w stz08d_2 5).dev.clocked = true) ∧ (((w stz08d_2 5).dev.lp 0).io = [IoOp.wr 16 5#32]) ∧
        ((w stz08d_2 5).dev.lpIoStalled 0 = false) ∧ ((w stz08d_2 5).dev.admits (2 + 0) (placeLp 16) true = false)) ∧
    (((w stz08d_2 6).dev.clocked = true) ∧ (((w stz08d_2 6).dev.lp 0).io = [IoOp.wr 32768 5#32, IoOp.wr 8 5]) ∧
        ((w stz08d_2 6).dev.lpIoStalled 0 = false) ∧ ((w stz08d_2 6).dev.admits (2 + 0) (placeLp 32768) true = true)) := by
  refine ⟨?_, ?_, ?_, ?_, ?_, ?_⟩ <;> decide +kernel

end C08d

namespace C08e

def lpst (f : LpSt → LpSt) (d : Dev) : Dev := { d with lps := [(0, f { LpSt.init with mode := .run, pc := 5 }), (1, f { LpSt.init with mode := .run, pc := 8191 })], ladder := { d.ladder with running := [8, 9] } }
def ic (d : Dev) : Dev := ((setAll d [(Reg.icCtl, 1), (Reg.icSrc 100, 0x1 + 2*4 + 2*8 + 0x0100), (Reg.icSrc 140, 1 + 8+16 + 0x0500),
    (Reg.icTier0, 0x04), (Reg.icTier1, 0)]))
def en (l : LpSt) : LpSt := l.put 104 1
def c0 : LpCtx := ⟨77, 0x12, 9, some 4, true, .line 4 false, 0xFFFF, 0xFF⟩
def c1 : LpCtx := ⟨77, 0x12, 9, none, true, .none, 140, 1⟩
def stz08e_1 : List Dev := [lpst en ((lpst en (ic d0)).raise 100), lpst en ((lpst en (ic d0)).raise 140),
    lpst (fun l => {en l with stack := [c0], cause := 140, pri := 1, wait := .line 4 true}) ((lpst en (ic d0)).raise 100),
    lpst (fun l => {en l with stack := [c1, c0], cause := 100, pri := 0}) d0,
    lpst (fun l => {en l with stack := [c0], cause := 100, pri := 0}) ((lpst en (ic d0)).raise 100)]
def one (n : Nat) (f : LpSt → LpSt) (d : Dev) : Dev := d.setLp n (f (d.lp n))
def md (m : LpMode) := one 0 (fun l => {l with mode := m, pc := 9, wait := .line 4 false}) d0
def stz08e_2 : List Dev := [d0, md .run, md .halt, md .fault, (md .run).setRb (Reg.lpCtl 0) 0 true,
    (md .fault).setRb (Reg.lpCtl 0) 0 true, one 0 (fun l => {l with dbgHalt := true}) d0,
    one 0 (fun l => {l with dbgHalt := true}) (md .halt), one 0 (fun l => {l with stepping := true}) (md .run),
    {d0 with ladder := {d0.ladder with pending := [3]}}, (md .halt).setRb (Reg.lpCtl 0) 1 true,
    {d0 with ladder := {d0.ladder with used := 15}}, {d0 with ladder := {d0.ladder with used := 30}}]

theorem wit_HandlersReturn :
    (((w stz08e_1 0).dev.clocked = true) ∧ ((w stz08e_1 0).dev.laddered (8 + 0) = true) ∧
        (((w stz08e_1 0).dev.lp 0).mode = LpMode.run) ∧ (((w stz08e_1 0).dev.lp 0).stalled = false) ∧
        (((w stz08e_1 0).dev.lp 0).repFresh = false) ∧
        (∀ (q : Nat), q ∈ [0, 1] → ∀ (e : TimedWrite), e ∈ ((w stz08e_1 0).dev.tq q).stalled → e.master ≠ 2 + 0) ∧
        (BitVec.getLsbD (((w stz08e_1 0).dev.lp 0).get 104) 0 = true) ∧ (((w stz08e_1 0).dev.lp 0).stack.length < 8) ∧
        ((w stz08e_1 0).dev.lpRequest 0 ((w stz08e_1 0).dev.lp 0).pri = some 100)) ∧
    (((w stz08e_1 3).dev.clocked = true) ∧ (Issues (w stz08e_1 3) 0) ∧ (((w stz08e_1 3).dev.lp 0).stack = [c1, c0]) ∧
        ((w stz08e_1 3).dev.lpRequest 0 c1.pri = none)) := by
  refine ⟨?_, ?_⟩ <;> decide +kernel

theorem wit_LpControl :
    ((WriteOk (w stz08e_2 0) Src.game (Reg.lpCtl 0)) ∧ (((w stz08e_2 0).dev.lp 0).mode = LpMode.reset) ∧
        ((w stz08e_2 0).dev.rb (Reg.lpCtl 0) 0 = false) ∧ ((w stz08e_2 0).dev.rb (Reg.lpCtl 0) 1 = false) ∧
        ((w stz08e_2 0).dev.clocked = true) ∧ (((w stz08e_2 0).dev.lp 0).dbgHalt = false) ∧ ((w stz08e_2 0).dev.ladder.pending = []) ∧
        ((w stz08e_2 0).dev.ladder.used + 1 ≤ 15)) ∧
    ((WriteOk (w stz08e_2 0) Src.game (9502720 + 262144 * 0 + 4 * 0)) ∧ (((w stz08e_2 0).dev.lp 0).mode ≠ LpMode.run) ∧
        ((w stz08e_2 0).dev.flipArmed (7 + 0) = false)) ∧
    ((WriteOk (w stz08e_2 1) Src.game (Reg.lpCtl 0)) ∧ (((w stz08e_2 1).dev.lp 0).mode = LpMode.run)) ∧
    ((WriteOk (w stz08e_2 1) Src.game (9502720 + 262144 * 0 + 4 * 0)) ∧ (((w stz08e_2 1).dev.lp 0).mode = LpMode.run) ∧
        (((w stz08e_2 1).dev.lp 0).stepping = false)) ∧
    (((w stz08e_2 1).dev.power < 2) ∧ (((w stz08e_2 1).dev.lp 0).mode = LpMode.run)) ∧
    ((WriteOk (w stz08e_2 2) Src.game (Reg.lpCtl 0)) ∧ (((w stz08e_2 2).dev.lp 0).mode = LpMode.halt) ∧
        (((w stz08e_2 2).dev.lp 0).dbgHalt = false)) ∧
    ((WriteOk (w stz08e_2 2) Src.game (Reg.lpPc 0)) ∧ (((w stz08e_2 2).dev.lp 0).halted = true)) ∧
    (((w stz08e_2 2).dev.power < 2) ∧ (((w stz08e_2 2).dev.lp 0).mode = LpMode.halt) ∧ ((w stz08e_2 2).dev.rb (Reg.lpCtl 0) 1 = false)) ∧
    ((WriteOk (w stz08e_2 3) Src.game (Reg.lpCtl 0)) ∧ (((w stz08e_2 3).dev.lp 0).mode = LpMode.fault)) ∧
    ((WriteOk (w stz08e_2 4) Src.game (Reg.lpCtl 0)) ∧ ((w stz08e_2 4).dev.rb (Reg.lpCtl 0) 0 = true)) ∧
    ((WriteOk (w stz08e_2 5) Src.game (Reg.lpCtl 0)) ∧ ((w stz08e_2 5).dev.rb (Reg.lpCtl 0) 0 = true) ∧
        (((w stz08e_2 5).dev.lp 0).mode = LpMode.fault)) ∧
    ((WriteOk (w stz08e_2 6) Src.game (Reg.lpCtl 0)) ∧ (((w stz08e_2 6).dev.lp 0).mode ≠ LpMode.fault) ∧
        ((w stz08e_2 6).dev.rb (Reg.lpCtl 0) 0 = false) ∧ ((w stz08e_2 6).dev.clocked = true) ∧
        (((w stz08e_2 6).dev.lp 0).dbgHalt = true)) ∧
    ((WriteOk (w stz08e_2 9) Src.game (Reg.lpCtl 0)) ∧ (((w stz08e_2 9).dev.lp 0).mode = LpMode.reset) ∧
        ((w stz08e_2 9).dev.rb (Reg.lpCtl 0) 0 = false) ∧ ((w stz08e_2 9).dev.rb (Reg.lpCtl 0) 1 = false) ∧
        ((w stz08e_2 9).dev.clocked = true) ∧ (((w stz08e_2 9).dev.lp 0).dbgHalt = false) ∧
        ((w stz08e_2 9).dev.ladder.pending ≠ [])) := by
  refine ⟨?_, ?_, ?_, ?_, ?_, ?_, ?_, ?_, ?_, ?_, ?_, ?_, ?_⟩ <;> decide +kernel

end C08e

namespace C10

def surf (k fmt base pitch w h : Nat) (fs : Bool) (d : Dev) : Dev := setAll d [(Reg.blSurfCfg k,
    BitVec.ofNat 32 (1 + b2n fs * 2 + fmt * 4)), (Reg.blSurfBase k, BitVec.ofNat 32 base), (Reg.blSurfPitch k, BitVec.ofNat 32 pitch),
    (Reg.blSurfSize k, f2 w h)]
def rdy (d : Dev) : Dev := (d.setRb Reg.blCtl 0 true).setRb Reg.memStat 0 true |> fun d => { d with ladder := { d.ladder with running := [ladBlit] } }
def s1 := surf 0 3 0x1004 320 80 60 false (surf 1 0 0x2003 96 80 60 false (surf 2 5 0x3001 13 80 60 false d0))
def bad1 := surf 0 3 0x1004 12 80 60 false d0
def fc (dst dx dy w h : Nat) : BlitCmd := ⟨1, false, 0, dst, 0, 0, 0, 0, dx, dy, w, h, 0x11223344, 5, false⟩
def run (c : BlitCmd) (k : Nat) (d : Dev) := (d.setBlit { d.blit with run := some ⟨none, c, k⟩ }).setRb Reg.blStat 0 true
def c1 := fc 0 3 4 9 1
def stz10_1 : List Dev := [d0, s1, bad1, bad1.setRb Reg.blCtl 0 true, rdy s1, run c1 1 (rdy s1), run c1 0 (rdy s1)]
def bd (op dst dx dy w h : Nat) (x : Nat) : Desc := mkD [(0,1,0x10),(16,2, op + dst*4096 ),
    (28,2,dx),(30,2,dy),(32,2,w),(34,2,h),(36,4,0x44332211),(44,1,x)]
def ds : List Desc := [bd 1 0 3 4 9 1 0, bd 1 0 3 4 0 1 0, bd 1 0 3 4 9 1 7, bd 0 0 0 3 70 2 0, bd 3 0 0 3 70 2 0, bd 2 0 3 3 3 3 0]
def go (c : BlitCmd) (d : Dev) := (d.setBlit { d.blit with go := some c })
def stz10_2 : List Dev := (ds.map (fun w => rung 0 2 0 [w] (rdy s1)) ++ [setAll (rung 0 2 0 ds (rdy s1)) [(Reg.blCfg, 1)],
    go c1 (rdy s1), go (fc 0 79 59 9 1) (rdy s1), run c1 1 (rdy s1), run c1 0 (rdy s1)])
def stz10_3 : List Dev := (([c1, fc 0 79 59 9 1, fc 1 79 59 9 1, fc 1 3 3 70 1, fc 1 3 3 64 1, fc 2 3 3 1 1,
    fc 5 1 1 1 1]).map (fun c => go c (rdy s1)))

theorem wit_BlitSwitches :
    ((WriteOk (w stz10_1 0) Src.game Reg.blCtl) ∧ ((w stz10_1 0).dev.rb Reg.blCtl 0 = false) ∧ ((w stz10_1 0).dev.blCheck.fst = 0)) ∧
    ((WriteOk (w stz10_1 2) Src.game Reg.blCtl) ∧ ((w stz10_1 2).dev.rb Reg.blCtl 0 = false) ∧ ((w stz10_1 2).dev.blCheck.fst ≠ 0)) ∧
    ((WriteOk (w stz10_1 3) Src.game Reg.blCtl) ∧ ((w stz10_1 3).dev.rb Reg.blCtl 0 = true)) ∧
    ((WriteOk (w stz10_1 3) Src.game Reg.blCommit) ∧ ((w stz10_1 3).dev.rb Reg.blCtl 0 = true) ∧ ((w stz10_1 3).dev.blit.run = none) ∧
        ((w stz10_1 3).dev.blCheck.fst ≠ 0)) ∧
    ((WriteOk (w stz10_1 4) Src.game Reg.blCommit) ∧ ((w stz10_1 4).dev.rb Reg.blCtl 0 = true) ∧ ((w stz10_1 4).dev.blit.run = none) ∧
        ((w stz10_1 4).dev.blCheck.fst = 0)) ∧
    ((WriteOk (w stz10_1 5) Src.game Reg.blCtl) ∧ ((w stz10_1 5).dev.rb Reg.blCtl 0 = true) ∧
        ((w stz10_1 5).dev.blit.run = some (BlitRun.mk none c1 1))) := by
  refine ⟨?_, ?_, ?_, ?_, ?_, ?_⟩ <;> decide +kernel

theorem wit_BlitCommandsRun :
    (((w stz10_2 0).dev.clocked = true) ∧ ((w stz10_2 0).dev.memReady = true) ∧ ((w stz10_2 0).dev.blitIdle = true) ∧
        ((w stz10_2 0).dev.front 0 [16] = some (0, bd 1 0 3 4 9 1 0)) ∧ ((w stz10_2 0).dev.blitTurn = some 0) ∧
        ((blitOf (bd 1 0 3 4 9 1 0)).op < 4) ∧ ((w stz10_2 0).dev.lb Reg.blCfg 0 = false) ∧
        ((w stz10_2 0).dev.blitRefusal (blitOf (bd 1 0 3 4 9 1 0)) = 0) ∧
        ((w stz10_2 0).dev.blitEmpty (blitOf (bd 1 0 3 4 9 1 0)) = false)) ∧
    (((w stz10_2 1).dev.clocked = true) ∧ ((w stz10_2 1).dev.memReady = true) ∧ ((w stz10_2 1).dev.blitIdle = true) ∧
        ((w stz10_2 1).dev.front 0 [16] = some (0, bd 1 0 3 4 0 1 0)) ∧ ((w stz10_2 1).dev.blitTurn = some 0) ∧
        ((blitOf (bd 1 0 3 4 0 1 0)).op < 4) ∧ ((w stz10_2 1).dev.lb Reg.blCfg 0 = false) ∧
        ((w stz10_2 1).dev.blitRefusal (blitOf (bd 1 0 3 4 0 1 0)) = 0) ∧
        ((w stz10_2 1).dev.blitEmpty (blitOf (bd 1 0 3 4 0 1 0)) = true)) ∧
    (((w stz10_2 2).dev.clocked = true) ∧ ((w stz10_2 2).dev.memReady = true) ∧ ((w stz10_2 2).dev.blitIdle = true) ∧
        ((w stz10_2 2).dev.front 0 [16] = some (0, bd 1 0 3 4 9 1 7)) ∧ ((w stz10_2 2).dev.blitTurn = some 0) ∧
        ((blitOf (bd 1 0 3 4 9 1 7)).op < 4) ∧ ((w stz10_2 2).dev.lb Reg.blCfg 0 = false) ∧
        ((w stz10_2 2).dev.blitRefusal (blitOf (bd 1 0 3 4 9 1 7)) ≠ 0)) ∧
    (((w stz10_2 6).dev.clocked = true) ∧ ((w stz10_2 6).dev.memReady = true) ∧ ((w stz10_2 6).dev.blitIdle = true) ∧
        ((w stz10_2 6).dev.front 0 [16] = some (0, bd 1 0 3 4 9 1 0)) ∧ ((w stz10_2 6).dev.blitTurn = some 0) ∧
        ((blitOf (bd 1 0 3 4 9 1 0)).op < 4) ∧ ((w stz10_2 6).dev.lb Reg.blCfg 0 = true)) ∧
    (((w stz10_2 7).dev.clocked = true) ∧ ((w stz10_2 7).dev.memReady = true) ∧ ((w stz10_2 7).dev.blitIdle = true) ∧
        ((w stz10_2 7).dev.blit.go = some c1) ∧ c1.op < 4 ∧ ((w stz10_2 7).dev.blitRefusal c1 = 0) ∧
        ((w stz10_2 7).dev.blitEmpty c1 = false)) ∧
    (((w stz10_2 9).dev.clocked = true) ∧ ((w stz10_2 9).dev.memReady = true) ∧
        ((w stz10_2 9).dev.blit.run = some (BlitRun.mk none c1 1)) ∧
        ((w stz10_2 9).dev.blitSegs (BlitRun.mk none c1 1).cmd = (BlitRun.mk none c1 1).done) ∧ ((BlitRun.mk none c1 1).from' = none) ∧
        ((w stz10_2 9).dev.blit.commit = false)) := by
  refine ⟨?_, ?_, ?_, ?_, ?_, ?_⟩ <;> decide +kernel

theorem wit_FillFills :
    (((w stz10_3 0).dev.clocked = true) ∧ ((w stz10_3 0).dev.memReady = true) ∧ ((w stz10_3 0).dev.blitIdle = true) ∧
        ((w stz10_3 0).dev.blit.go = some c1) ∧ c1.op = 1 ∧ c1.clipEn = 0 ∧ ((w stz10_3 0).dev.blitRefusal c1 = 0) ∧
        (0 < min (c1.dx + c1.w) (surfaceOf (w stz10_3 0).dev.inForce c1.dst).w - c1.dx) ∧
        (min (c1.dx + c1.w) (surfaceOf (w stz10_3 0).dev.inForce c1.dst).w - c1.dx ≤ 64) ∧ c1.h = 1 ∧
        (c1.dy < (surfaceOf (w stz10_3 0).dev.inForce c1.dst).h) ∧ ((surfaceOf (w stz10_3 0).dev.inForce c1.dst).fs = false) ∧
        ((w stz10_3 0).dev.flipArmed 0 = false) ∧ (∀ (i : Nat),
        i < blitBytes (surfaceOf (w stz10_3 0).dev.inForce c1.dst).fmt * (min (c1.dx + c1.w) (surfaceOf (w stz10_3 0).dev.inForce c1.dst).w - c1.dx) → (w stz10_3 0).dev.mayTouch 7 0 ((surfaceOf (w stz10_3 0).dev.inForce c1.dst).at c1.dx c1.dy + i) 1 true = true ∧ (w stz10_3 0).dev.mayTouch 7 0 ((surfaceOf (w stz10_3 0).dev.inForce c1.dst).at c1.dx c1.dy + i) 1 false = true) ∧ (¬(0 = 0 ∧ (surfaceOf (w stz10_3 0).dev.inForce c1.dst).at c1.dx c1.dy ≤ 0 ∧ 0 < (surfaceOf (w stz10_3 0).dev.inForce c1.dst).at c1.dx c1.dy + blitBytes (surfaceOf (w stz10_3 0).dev.inForce c1.dst).fmt * (min (c1.dx + c1.w) (surfaceOf (w stz10_3 0).dev.inForce c1.dst).w - c1.dx)))) := by
  decide +kernel

end C10

namespace C11

def auOn (d : Dev) : Dev := (d.setRb Reg.auCtl 0 true) |> fun d => { d with ladder := { d.ladder with running := [12, 13] } }
def mk (l : List Dev) := l
def av (o : Bool) (d : Dev) := d.setVoice 3 { VoiceSt.init with on := o, len := 100, pitch := 65536, gl := ⟨5, 9, 2, 4⟩, outL := 7, prevL := 6 }
def stz11_1 : List Dev := [d0, setAll d0 [(Reg.auClk, 1)], setAll (d0) [(Reg.auSoCfg 1, 0xE)], av true (auOn d0),
    (auOn d0).setRb Reg.mxCtl 0 true, auOn (setAll d0 [(Reg.auClk, 1)]), { auOn d0 with au := {d0.au with lost := true}},
    (d0.setRb Reg.mxStat 2 true).setAu { d0.au with pages := [(0, ⟨1, 0, 1, 2⟩)] },
    (d0.setRb Reg.mxStat 3 true).setAu { d0.au with pages := [(1, ⟨1, 0, 2^63, 2⟩)] }]
def cmdD (op t : Nat) (l : List (Nat × Nat × Nat)) : Desc := mkD ([(0,1,op),(4,6,t)] ++ l)
def cds : List Desc := [cmdD 0x30 0 [(16,1,3),(17,1,0),(18,2,9),(20,2,100),(22,2,200),(24,5,0x100),(32,4,50),(44,4,65536),(48,4,3),(52,2,17)], cmdD 0x30 0 [(16,1,4),(24,5,0x100),(32,4,50),(44,4,65536),(48,4,3),(52,2,17)],
  cmdD 0x30 0 [(16,1,3),(63,1,1)], cmdD 0x31 0 [(16,1,3),(17,1,3),(18,2,5),(20,2,77),(24,4,0x80000)], cmdD 0x31 0 [(16,1,5)],
      cmdD 0x32 0 [(16,1,3),(18,2,5)],cmdD 0x32 0 [(16,1,9),(18,2,5)],
  cmdD 0x33 0 [(16,1,3),(18,2,5),(20,4,0xFFFFFFFF)], cmdD 0x34 0 [(16,1,3),(17,1,1),(20,4,7),(36,4,0xFFFFFFFF)],
      cmdD 0x34 0 [(16,1,3),(20,4,7),(36,4,0xFFFFFFFF)], cmdD 0x36 0 []]
def cs : List AuCmd := cds.map (fun w => ⟨0, 1, 4, w⟩)
def qd (c : AuCmd) (v : Bool) := (av v (auOn d0)).setAu { (av v (auOn d0)).au with queue := [⟨5, 0, 1, cmdD 0x33 5 []⟩, c] }
def stz11_2 : List Dev := (cs.flatMap (fun c => [qd c true, qd c false]))

theorem wit_AudioSwitches :
    ((WriteOk (w stz11_1 0) Src.game Reg.auCtl) ∧ ((w stz11_1 0).dev.rb Reg.auCtl 0 = false) ∧
        (((w stz11_1 0).dev.auCheck true 0).fst = 0)) ∧
    ((WriteOk (w stz11_1 0) Src.game Reg.mxCtl) ∧ ((w stz11_1 0).dev.rb Reg.mxCtl 0 = false) ∧
        ((w stz11_1 0).dev.rb Reg.auCtl 0 = false)) ∧
    ((WriteOk (w stz11_1 0) Src.game (if false = true then Reg.mxDlylen 0 else Reg.mxDlybase 0)) ∧
        ((fun (i : Nat) => (w stz11_1 0).dev.rb Reg.mxStat (2 + i) && decide ((((w stz11_1 0).dev.pageInfo i).dw ||| ((w stz11_1 0).dev.pageInfo i).dr) / 2 ^ 0 % 2 = 1)) 0 = false) ∧ ((fun (i : Nat) => (w stz11_1 0).dev.rb Reg.mxStat (2 + i) && decide ((((w stz11_1 0).dev.pageInfo i).dw ||| ((w stz11_1 0).dev.pageInfo i).dr) / 2 ^ 0 % 2 = 1)) 1 = false)) ∧
    ((WriteOk (w stz11_1 1) Src.game Reg.auCtl) ∧ ((w stz11_1 1).dev.rb Reg.auCtl 0 = false) ∧
        (((w stz11_1 1).dev.auCheck true 0).fst ≠ 0)) ∧
    ((WriteOk (w stz11_1 3) Src.game Reg.auCtl) ∧ ((w stz11_1 3).dev.rb Reg.auCtl 0 = true) ∧
        ((w stz11_1 3).dev.rb Reg.mxCtl 0 = false)) ∧
    ((WriteOk (w stz11_1 3) Src.game Reg.auCommit) ∧ ((w stz11_1 3).dev.rb Reg.auCtl 0 = true)) ∧
    ((WriteOk (w stz11_1 3) Src.game Reg.mxCtl) ∧ ((w stz11_1 3).dev.rb Reg.mxCtl 0 = false) ∧
        ((w stz11_1 3).dev.rb Reg.auCtl 0 = true)) ∧
    (((w stz11_1 3).dev.clocked = true) ∧ ((w stz11_1 3).dev.rb Reg.auCtl 0 = true) ∧ ((w stz11_1 3).dev.laddered ladAudio = true) ∧
        ((w stz11_1 3).dev.lb Reg.auClk 0 = false) ∧ ((w stz11_1 3).dev.au.cnt = 0) ∧ ((w stz11_1 3).dev.rb Reg.auStat 0 = false)) ∧
    ((WriteOk (w stz11_1 4) Src.game Reg.auCtl) ∧ ((w stz11_1 4).dev.rb Reg.auCtl 0 = true) ∧ ((w stz11_1 4).dev.rb Reg.mxCtl 0 = true)) ∧
    ((WriteOk (w stz11_1 4) Src.game Reg.mxCtl) ∧ ((w stz11_1 4).dev.rb Reg.mxCtl 0 = true)) ∧
    (((w stz11_1 5).dev.clocked = true) ∧ ((w stz11_1 5).dev.rb Reg.auCtl 0 = true) ∧ ((w stz11_1 5).dev.lb Reg.auClk 0 = true) ∧
        ((w stz11_1 5).dev.au.lost = false)) ∧
    (((w stz11_1 6).dev.clocked = true) ∧ ((w stz11_1 6).dev.rb Reg.auCtl 0 = true) ∧ ((w stz11_1 6).dev.au.lost = true)) ∧
    ((WriteOk (w stz11_1 7) Src.game (if false = true then Reg.mxDlylen 0 else Reg.mxDlybase 0)) ∧
        ((fun (i : Nat) => (w stz11_1 7).dev.rb Reg.mxStat (2 + i) && decide ((((w stz11_1 7).dev.pageInfo i).dw ||| ((w stz11_1 7).dev.pageInfo i).dr) / 2 ^ 0 % 2 = 1)) 0 = true ∨ (fun (i : Nat) => (w stz11_1 7).dev.rb Reg.mxStat (2 + i) && decide ((((w stz11_1 7).dev.pageInfo i).dw ||| ((w stz11_1 7).dev.pageInfo i).dr) / 2 ^ 0 % 2 = 1)) 1 = true)) := by
  refine ⟨?_, ?_, ?_, ?_, ?_, ?_, ?_, ?_, ?_, ?_, ?_, ?_, ?_⟩ <;> decide +kernel

theorem wit_AudioCommandsApply :
    (((w stz11_2 0).dev.clocked = true) ∧ ((w stz11_2 0).dev.auRuns = true) ∧ ((w stz11_2 0).dev.au.xf = none) ∧
        ((w stz11_2 0).dev.auDue (w stz11_2 0).dev.au.cnt = [(fun (w : BitVec 512) => AuCmd.mk 0 1 4 w) (cmdD 48 0 [(16, 1, 3), (17,
        1, 0), (18, 2, 9), (20, 2, 100), (22, 2, 200), (24, 5, 256), (32, 4, 50), (44, 4, 65536), (48, 4, 3), (52, 2, 17)])]) ∧
        (dOp ((fun (w : BitVec 512) => AuCmd.mk 0 1 4 w) (cmdD 48 0 [(16, 1, 3), (17, 1, 0), (18, 2, 9), (20, 2, 100), (22, 2, 200),
        (24, 5, 256), (32, 4, 50), (44, 4, 65536), (48, 4, 3), (52, 2, 17)])).desc = 48) ∧
        ((w stz11_2 0).dev.vstartCheck ((fun (w : BitVec 512) => AuCmd.mk 0 1 4 w) (cmdD 48 0 [(16, 1, 3), (17, 1, 0), (18, 2, 9),
        (20, 2, 100), (22, 2, 200), (24, 5, 256), (32, 4, 50), (44, 4, 65536), (48, 4, 3), (52, 2, 17)])).desc = 0) ∧
        (((w stz11_2 0).dev.voice (dN ((fun (w : BitVec 512) => AuCmd.mk 0 1 4 w) (cmdD 48 0 [(16, 1, 3), (17, 1, 0), (18, 2, 9), (20,
        2, 100), (22, 2, 200), (24, 5, 256), (32, 4, 50), (44, 4, 65536), (48, 4, 3), (52, 2, 17)])).desc 16 1)).on = true)) ∧
    (((w stz11_2 0).dev.clocked = true) ∧ ((w stz11_2 0).dev.auRuns = true) ∧ ((w stz11_2 0).dev.au.xf = none) ∧
        ((w stz11_2 0).dev.auDue (w stz11_2 0).dev.au.cnt = [(fun (w : BitVec 512) => AuCmd.mk 0 1 4 w) (cmdD 48 0 [(16, 1, 3), (17,
        1, 0), (18, 2, 9), (20, 2, 100), (22, 2, 200), (24, 5, 256), (32, 4, 50), (44, 4, 65536), (48, 4, 3), (52, 2, 17)])]) ∧
        (dOp ((fun (w : BitVec 512) => AuCmd.mk 0 1 4 w) (cmdD 48 0 [(16, 1, 3), (17, 1, 0), (18, 2, 9), (20, 2, 100), (22, 2, 200),
        (24, 5, 256), (32, 4, 50), (44, 4, 65536), (48, 4, 3), (52, 2, 17)])).desc = 48) ∧
        ((w stz11_2 0).dev.vstartCheck ((fun (w : BitVec 512) => AuCmd.mk 0 1 4 w) (cmdD 48 0 [(16, 1, 3), (17, 1, 0), (18, 2, 9),
        (20, 2, 100), (22, 2, 200), (24, 5, 256), (32, 4, 50), (44, 4, 65536), (48, 4, 3), (52, 2, 17)])).desc = 0) ∧
        (0 ≠ dN ((fun (w : BitVec 512) => AuCmd.mk 0 1 4 w) (cmdD 48 0 [(16, 1, 3), (17, 1, 0), (18, 2, 9), (20, 2, 100), (22, 2,
        200), (24, 5, 256), (32, 4, 50), (44, 4, 65536), (48, 4, 3), (52, 2, 17)])).desc 16 1)) ∧
    (((w stz11_2 4).dev.clocked = true) ∧ ((w stz11_2 4).dev.auRuns = true) ∧ ((w stz11_2 4).dev.au.xf = none) ∧
        ((w stz11_2 4).dev.auDue (w stz11_2 4).dev.au.cnt = [(fun (w : BitVec 512) => AuCmd.mk 0 1 4 w) (cmdD 48 0 [(16, 1, 3), (63,
        1, 1)])]) ∧ (dOp ((fun (w : BitVec 512) => AuCmd.mk 0 1 4 w) (cmdD 48 0 [(16, 1, 3), (63, 1, 1)])).desc = 48) ∧
        ((w stz11_2 4).dev.vstartCheck ((fun (w : BitVec 512) => AuCmd.mk 0 1 4 w) (cmdD 48 0 [(16, 1, 3), (63, 1, 1)])).desc ≠ 0)) ∧
    (((w stz11_2 6).dev.clocked = true) ∧ ((w stz11_2 6).dev.auRuns = true) ∧ ((w stz11_2 6).dev.au.xf = none) ∧
        ((w stz11_2 6).dev.auDue (w stz11_2 6).dev.au.cnt = [(fun (w : BitVec 512) => AuCmd.mk 0 1 4 w) (cmdD 49 0 [(16, 1, 3), (17,
        1, 3), (18, 2, 5), (20, 2, 77), (24, 4, 524288)])]) ∧
        (dOp ((fun (w : BitVec 512) => AuCmd.mk 0 1 4 w) (cmdD 49 0 [(16, 1, 3), (17, 1, 3), (18, 2, 5), (20, 2, 77), (24, 4,
        524288)])).desc = 49) ∧ (dF ((fun (w : BitVec 512) => AuCmd.mk 0 1 4 w) (cmdD 49 0 [(16, 1, 3), (17, 1, 3), (18, 2, 5), (20,
        2, 77), (24, 4, 524288)])).desc 16 15 10 = 0) ∧
        (dN ((fun (w : BitVec 512) => AuCmd.mk 0 1 4 w) (cmdD 49 0 [(16, 1, 3), (17, 1, 3), (18, 2, 5), (20, 2, 77), (24, 4,
        524288)])).desc 28 36 = 0) ∧ (dN ((fun (w : BitVec 512) => AuCmd.mk 0 1 4 w) (cmdD 49 0 [(16, 1, 3), (17, 1, 3), (18, 2, 5),
        (20, 2, 77), (24, 4, 524288)])).desc 24 4 ≤ 524288) ∧
        (((w stz11_2 6).dev.voice (dN ((fun (w : BitVec 512) => AuCmd.mk 0 1 4 w) (cmdD 49 0 [(16, 1, 3), (17, 1, 3), (18, 2, 5), (20,
        2, 77), (24, 4, 524288)])).desc 16 1)).on = true)) ∧
    (((w stz11_2 7).dev.clocked = true) ∧ ((w stz11_2 7).dev.auRuns = true) ∧ ((w stz11_2 7).dev.au.xf = none) ∧
        ((w stz11_2 7).dev.auDue (w stz11_2 7).dev.au.cnt = [(fun (w : BitVec 512) => AuCmd.mk 0 1 4 w) (cmdD 49 0 [(16, 1, 3), (17,
        1, 3), (18, 2, 5), (20, 2, 77), (24, 4, 524288)])]) ∧
        (dOp ((fun (w : BitVec 512) => AuCmd.mk 0 1 4 w) (cmdD 49 0 [(16, 1, 3), (17, 1, 3), (18, 2, 5), (20, 2, 77), (24, 4,
        524288)])).desc = 49) ∧ (dF ((fun (w : BitVec 512) => AuCmd.mk 0 1 4 w) (cmdD 49 0 [(16, 1, 3), (17, 1, 3), (18, 2, 5), (20,
        2, 77), (24, 4, 524288)])).desc 16 15 10 = 0) ∧
        (dN ((fun (w : BitVec 512) => AuCmd.mk 0 1 4 w) (cmdD 49 0 [(16, 1, 3), (17, 1, 3), (18, 2, 5), (20, 2, 77), (24, 4,
        524288)])).desc 28 36 = 0) ∧ (dN ((fun (w : BitVec 512) => AuCmd.mk 0 1 4 w) (cmdD 49 0 [(16, 1, 3), (17, 1, 3), (18, 2, 5),
        (20, 2, 77), (24, 4, 524288)])).desc 24 4 ≤ 524288) ∧
        (((w stz11_2 7).dev.voice (dN ((fun (w : BitVec 512) => AuCmd.mk 0 1 4 w) (cmdD 49 0 [(16, 1, 3), (17, 1, 3), (18, 2, 5), (20,
        2, 77), (24, 4, 524288)])).desc 16 1)).on = false)) ∧
    (((w stz11_2 10).dev.clocked = true) ∧ ((w stz11_2 10).dev.auRuns = true) ∧ ((w stz11_2 10).dev.au.xf = none) ∧
        ((w stz11_2 10).dev.auDue (w stz11_2 10).dev.au.cnt = [(fun (w : BitVec 512) => AuCmd.mk 0 1 4 w) (cmdD 50 0 [(16, 1, 3), (18,
        2, 5)])]) ∧ (dOp ((fun (w : BitVec 512) => AuCmd.mk 0 1 4 w) (cmdD 50 0 [(16, 1, 3), (18, 2, 5)])).desc = 50) ∧
        (dN ((fun (w : BitVec 512) => AuCmd.mk 0 1 4 w) (cmdD 50 0 [(16, 1, 3), (18, 2, 5)])).desc 17 1 = 0) ∧
        (dN ((fun (w : BitVec 512) => AuCmd.mk 0 1 4 w) (cmdD 50 0 [(16, 1, 3), (18, 2, 5)])).desc 20 44 = 0) ∧
        (((w stz11_2 10).dev.voice (dN ((fun (w : BitVec 512) => AuCmd.mk 0 1 4 w) (cmdD 50 0 [(16, 1, 3), (18, 2,
        5)])).desc 16 1)).on = true)) ∧
    (((w stz11_2 11).dev.clocked = true) ∧ ((w stz11_2 11).dev.auRuns = true) ∧ ((w stz11_2 11).dev.au.xf = none) ∧
        ((w stz11_2 11).dev.auDue (w stz11_2 11).dev.au.cnt = [(fun (w : BitVec 512) => AuCmd.mk 0 1 4 w) (cmdD 50 0 [(16, 1, 3), (18,
        2, 5)])]) ∧ (dOp ((fun (w : BitVec 512) => AuCmd.mk 0 1 4 w) (cmdD 50 0 [(16, 1, 3), (18, 2, 5)])).desc = 50) ∧
        (dN ((fun (w : BitVec 512) => AuCmd.mk 0 1 4 w) (cmdD 50 0 [(16, 1, 3), (18, 2, 5)])).desc 17 1 = 0) ∧
        (dN ((fun (w : BitVec 512) => AuCmd.mk 0 1 4 w) (cmdD 50 0 [(16, 1, 3), (18, 2, 5)])).desc 20 44 = 0) ∧
        (((w stz11_2 11).dev.voice (dN ((fun (w : BitVec 512) => AuCmd.mk 0 1 4 w) (cmdD 50 0 [(16, 1, 3), (18, 2,
        5)])).desc 16 1)).on = false)) ∧
    (((w stz11_2 14).dev.clocked = true) ∧ ((w stz11_2 14).dev.auRuns = true) ∧ ((w stz11_2 14).dev.au.xf = none) ∧
        ((w stz11_2 14).dev.auDue (w stz11_2 14).dev.au.cnt = [(fun (w : BitVec 512) => AuCmd.mk 0 1 4 w) (cmdD 51 0 [(16, 1, 3), (18,
        2, 5), (20, 4, 4294967295)])]) ∧ (dOp ((fun (w : BitVec 512) => AuCmd.mk 0 1 4 w) (cmdD 51 0 [(16, 1, 3), (18, 2, 5), (20, 4,
        4294967295)])).desc = 51) ∧ (dN ((fun (w : BitVec 512) => AuCmd.mk 0 1 4 w) (cmdD 51 0 [(16, 1, 3), (18, 2, 5), (20, 4,
        4294967295)])).desc 17 1 = 0) ∧ (dN ((fun (w : BitVec 512) => AuCmd.mk 0 1 4 w) (cmdD 51 0 [(16, 1, 3), (18, 2, 5), (20, 4,
        4294967295)])).desc 24 40 = 0)) ∧
    (((w stz11_2 16).dev.clocked = true) ∧ ((w stz11_2 16).dev.auRuns = true) ∧ ((w stz11_2 16).dev.au.xf = none) ∧
        ((w stz11_2 16).dev.auDue (w stz11_2 16).dev.au.cnt = [(fun (w : BitVec 512) => AuCmd.mk 0 1 4 w) (cmdD 52 0 [(16, 1, 3), (17,
        1, 1), (20, 4, 7), (36, 4, 4294967295)])]) ∧ (dOp ((fun (w : BitVec 512) => AuCmd.mk 0 1 4 w) (cmdD 52 0 [(16, 1, 3), (17, 1,
        1), (20, 4, 7), (36, 4, 4294967295)])).desc = 52) ∧
        (dN ((fun (w : BitVec 512) => AuCmd.mk 0 1 4 w) (cmdD 52 0 [(16, 1, 3), (17, 1, 1), (20, 4, 7), (36, 4,
        4294967295)])).desc 16 1 < 128) ∧ (dF ((fun (w : BitVec 512) => AuCmd.mk 0 1 4 w) (cmdD 52 0 [(16, 1, 3), (17, 1, 1), (20, 4,
        7), (36, 4, 4294967295)])).desc 16 15 9 = 0) ∧
        (dN ((fun (w : BitVec 512) => AuCmd.mk 0 1 4 w) (cmdD 52 0 [(16, 1, 3), (17, 1, 1), (20, 4, 7), (36, 4,
        4294967295)])).desc 18 2 = 0) ∧ (dN ((fun (w : BitVec 512) => AuCmd.mk 0 1 4 w) (cmdD 52 0 [(16, 1, 3), (17, 1, 1), (20, 4,
        7), (36, 4, 4294967295)])).desc 40 24 = 0)) := by
  refine ⟨?_, ?_, ?_, ?_, ?_, ?_, ?_, ?_, ?_⟩ <;> decide +kernel

end C11

namespace C11b

def auOn (d : Dev) : Dev := (d.setRb Reg.auCtl 0 true) |> fun d => { d with ladder := { d.ladder with running := [12, 13] } }
def rdy (d : Dev) := d.setRb Reg.memStat 0 true
def cmdD (op t : Nat) (l : List (Nat × Nat × Nat)) : Desc := mkD ([(0,1,op),(4,6,t)] ++ l)
def im0 (k : Nat) : Nat := [0x14D58, 17 + 65536, 65536 * d0.lf Reg.auClk 2 1 + staticCount [0x04000000],
    0,0,0,0,0,0,0,0,0,0,0,0,0,0x04000000].getD k 0
def sg := imageSig im0 17
def im (k : Nat) : Nat := if k = 14 then sg % 2^32 else if k = 15 then sg / 2^32 else im0 k
def putImg (f : Nat → Nat) (a : Nat) (d : Dev) : Dev := ((List.range 17).flatMap (fun k => toBytes 4 (f k))).zipIdx.foldl (fun d x => d.setByte (a + x.2) x.1) d
def pl (i a x : Nat) : Desc := cmdD 0x35 0 [(16,1,i),(24,5,a),(17,1,x)]
def pls : List Desc := [pl 0 0x100 0, pl 0 0x100 1, pl 1 0x400 0]
def img := rdy (putImg im 0x100 (putImg im0 0x400 d0))
def ring1 (w : Desc) := rung 0 4 0 [w] img
def ldd (w : Desc) := img.setAu { img.au with load := some (0, 0, w) }
def c6 : AuCmd := ⟨0, 0, 0, cmdD 0x36 0 []⟩
def qs (d : Dev) := (auOn d).setAu { (auOn d).au with queue := [c6] }
def loaded := res .pageLoadComplete ⟨ldd (pl 0 0x100 0), []⟩
def stz11b_1 : List Dev := (pls.flatMap (fun w => [ring1 w, ldd w]) ++ [qs d0, qs loaded, qs (d0.setRb Reg.mxStat 1 true),
    (qs loaded).setAu { (qs loaded).au with wreg := [(3, 5), (600, 4)] }])

theorem wit_PagesLoadAndSwap :
    (((w stz11b_1 0).dev.clocked = true) ∧ ((w stz11b_1 0).dev.front 0 [53] = some (0, pl 0 256 0)) ∧
        ((w stz11b_1 0).dev.au.load = none) ∧ ((w stz11b_1 0).dev.memReady = true) ∧
        (68 = 4 * bitsOf ((w stz11b_1 0).dev.peekN 0 (ploadAddr (pl 0 256 0) + 4) 4) 14 0) ∧ (ploadClean (pl 0 256 0) = true) ∧
        (ploadAddr (pl 0 256 0) % 4 = 0) ∧ (ploadAddr (pl 0 256 0) + 68 ≤ (w stz11b_1 0).dev.dataCap) ∧
        ((w stz11b_1 0).dev.permits 10 0 (ploadAddr (pl 0 256 0)) 68 false = true) ∧
        ((w stz11b_1 0).dev.activePage ≠ some (ploadPage (pl 0 256 0))) ∧ ((w stz11b_1 0).dev.au.xf = none)) ∧
    (((w stz11b_1 1).dev.clocked = true) ∧ ((w stz11b_1 1).dev.au.load = some (0, 0, pl 0 256 0)) ∧ (ploadPage (pl 0 256 0) < 2) ∧
        (((w stz11b_1 1).dev.imageCheck fun (k : Nat) => (w stz11b_1 1).dev.peekN 0 (ploadAddr (pl 0 256 0) + 4 * k) 4).fst = 0)) ∧
    (((w stz11b_1 2).dev.clocked = true) ∧ ((w stz11b_1 2).dev.front 0 [53] = some (0, pl 0 256 1)) ∧
        ((w stz11b_1 2).dev.au.load = none) ∧ ((w stz11b_1 2).dev.memReady = true) ∧ (dN (pl 0 256 1) 17 7 ≠ 0) ∧
        (ploadPage (pl 0 256 1) < 2) ∧ ((w stz11b_1 2).dev.activePage ≠ some (ploadPage (pl 0 256 1))) ∧
        ((w stz11b_1 2).dev.au.xf = none)) ∧
    (((w stz11b_1 5).dev.clocked = true) ∧ ((w stz11b_1 5).dev.au.load = some (0, 0, pl 1 1024 0)) ∧ (ploadPage (pl 1 1024 0) < 2) ∧
        (((w stz11b_1 5).dev.imageCheck fun (k : Nat) => (w stz11b_1 5).dev.peekN 0 (ploadAddr (pl 1 1024 0) + 4 * k) 4).fst ≠ 0)) ∧
    (((w stz11b_1 6).dev.clocked = true) ∧ ((w stz11b_1 6).dev.auRuns = true) ∧ ((w stz11b_1 6).dev.au.xf = none) ∧
        ((w stz11b_1 6).dev.auDue (w stz11b_1 6).dev.au.cnt = [c6]) ∧ dOp c6.desc = 54 ∧ dN c6.desc 16 48 = 0 ∧
        ((w stz11b_1 6).dev.rb Reg.mxStat 2 = false) ∧ ((w stz11b_1 6).dev.rb Reg.mxStat 3 = false) ∧
        ((w stz11b_1 6).dev.rb Reg.mxStat 1 = false)) ∧
    (((w stz11b_1 7).dev.clocked = true) ∧ ((w stz11b_1 7).dev.auRuns = true) ∧ ((w stz11b_1 7).dev.au.xf = none) ∧
        ((w stz11b_1 7).dev.auDue (w stz11b_1 7).dev.au.cnt = [c6]) ∧ dOp c6.desc = 54 ∧ dN c6.desc 16 48 = 0 ∧
        ((w stz11b_1 7).dev.rf Reg.mxXfade 12 0 = 0) ∧ (((w stz11b_1 7).dev.swapCheck 0).fst = 0)) := by
  refine ⟨?_, ?_, ?_, ?_, ?_, ?_⟩ <;> decide +kernel

end C11b

namespace C11c

def auOn (d : Dev) : Dev := (d.setRb Reg.auCtl 0 true) |> fun d => { d with ladder := { d.ladder with running := [12, 13] } }
def f1 : List (BitVec 24) := [1,2,3,4,5,6,7,8]
def f2' : List (BitVec 24) := [9,2]
def b := auOn (setAll d0 [(Reg.auSiCfg 0, 1), (Reg.auSiCfg 1, 0xF), (Reg.auBlktick, 4), (Reg.auCulCfg 0, 0x7FFF0001), (Reg.auCulMlo 0,
    5)])
def fr (k n : Nat) (x : List (List (BitVec 24))) : Dev := b.setAu { b.au with cnt := n, frames := [(k, x)], g1 := [1,2,3], g2 := [8388607, -5], now := [(0, f2')] }
def stz11c_1 : List Dev := [b, fr 0 4 [f1], fr 0 5 [f2', f1], fr 1 8 [f1], fr 1 1 []]

theorem wit_SampleTickAdvances :
    (((w stz11c_1 0).dev.clocked = true) ∧ ((w stz11c_1 0).dev.rb Reg.auCtl 0 = true) ∧ ((w stz11c_1 0).dev.auRuns = true) ∧
        ((w stz11c_1 0).dev.au.commit = false) ∧ ((w stz11c_1 0).dev.au.xf = none) ∧ ((w stz11c_1 0).dev.au.retire = false) ∧
        ((w stz11c_1 0).dev.auDue (w stz11c_1 0).dev.au.cnt = []) ∧ ((w stz11c_1 0).dev.au.voices = []) ∧
        ((w stz11c_1 0).dev.rb Reg.mxCtl 0 = false) ∧ ((w stz11c_1 0).dev.siOn 0 = true) ∧
        ((Tab.get (fun (x : Nat) => []) (w stz11c_1 0).dev.au.frames 0).length ≠ 1)) ∧
    (((w stz11c_1 0).dev.clocked = true) ∧ ((w stz11c_1 0).dev.rb Reg.auCtl 0 = true) ∧ ((w stz11c_1 0).dev.auRuns = true) ∧
        ((w stz11c_1 0).dev.au.commit = false) ∧ ((w stz11c_1 0).dev.au.xf = none) ∧ ((w stz11c_1 0).dev.au.retire = false) ∧
        ((w stz11c_1 0).dev.auDue (w stz11c_1 0).dev.au.cnt = []) ∧ ((w stz11c_1 0).dev.au.voices = []) ∧
        ((w stz11c_1 0).dev.rb Reg.mxCtl 0 = false) ∧ ((w stz11c_1 0).dev.rf Reg.auBlktick 15 0 ≠ 0) ∧
        ((w stz11c_1 0).dev.au.cnt % (w stz11c_1 0).dev.rf Reg.auBlktick 15 0 = 0)) ∧
    (((w stz11c_1 0).dev.clocked = true) ∧ ((w stz11c_1 0).dev.rb Reg.auCtl 0 = true) ∧
        ((w stz11c_1 0).dev.lb (Reg.auSiCfg 0) 0 = true)) := by
  refine ⟨?_, ?_, ?_⟩ <;> decide +kernel

theorem wit_AudioArithmetic :
    (-8388608 ≤ 0) := by
  decide +kernel

end C11c

namespace C12

def bm (d : Dev) := d.setFn 0 {d.fn 0 with bme := true}
def hi (d : Dev) := (bm d).setRb (Reg.hiCtl 0) 0 true
def cfgR (v : Nat) (d : Dev) := d.setReg (Reg.hiRingCfg 2) (BitVec.ofNat 32 v)
def stz12_1 : List Dev := [d0, setAll d0 [(Reg.hiEqcfg 0, 5)], bm (setAll d0 [(Reg.hiEqcfg 0, 5)]), cfgR (5*2 + 2*64) (hi d0),
    cfgR (1 + 5*2+2*64) (hi d0), rung 2 2 0 [mkD [(0,1,0x10)], mkD []] (hi d0)]
def hd (h : Nat) (d : Dev) := d.setRing 2 { d.ring 2 with head := h, asked := h }
def stz12_2 : List Dev := [hd 0 (cfgR (1 + 3*2 + 2*64) (hi d0)), hd 0xFFFFFFFF (cfgR (1 + 3*2 + 2*64) (hi d0)),
    hd 1 (cfgR (1 + 3*2 + 2*64) (hi d0))]
def fet (l : List Desc) (d : Dev) := d.setRing 2 { d.ring 2 with fetched := l }
def b := cfgR (1 + 3*2 + 2*64) (hi d0)
def bl := mkD [(0,1,0x10)]
def fe := mkD [(0,1,0x10),(1,1,4)]
def bad := mkD [(0,1,0x11),(12,2,7)]
def dl := mkD [(0,1,0x10),(1,1,1),(6,2,5)]
def iss (d : Dev) := d.setRing 2 { d.ring 2 with issue := [(0, none)], passed := [(0, bl)] }
def stz12_3 : List Dev := [fet [bl,bl] b, fet [fe] b, fet [fe] (iss b), fet [bad] b, fet [dl] b, fet [bl] (iss b),
    fet [bl] (b.setRing 2 { b.ring 2 with comps := 8})]

theorem wit_HostEnables :
    ((WriteOk (w stz12_1 0) Src.game (Reg.hiCtl (srcFn Src.game))) ∧ ((w stz12_1 0).dev.rb (Reg.hiCtl (srcFn Src.game)) 0 = false) ∧
        ((w stz12_1 0).dev.hiCheck (srcFn Src.game) ≠ 0)) ∧
    (srcFn Src.game = 0 ∧ (WriteOk (w stz12_1 0) Src.game (Reg.hiCommit 0))) ∧
    ((WriteOk (w stz12_1 0) Src.game (Reg.hiRingCfg 2)) ∧ ((w stz12_1 0).dev.ringEn 2 = false) ∧ ((w stz12_1 0).dev.ringCheck 2 ≠ 0)) ∧
    ((WriteOk (w stz12_1 2) Src.game (Reg.hiCtl (srcFn Src.game))) ∧ ((w stz12_1 2).dev.rb (Reg.hiCtl (srcFn Src.game)) 0 = false) ∧
        ((w stz12_1 2).dev.hiCheck (srcFn Src.game) = 0)) ∧
    ((WriteOk (w stz12_1 3) Src.game (Reg.hiRingCfg 2)) ∧ ((w stz12_1 3).dev.ringEn 2 = false) ∧ ((w stz12_1 3).dev.ringCheck 2 = 0)) ∧
    ((WriteOk (w stz12_1 4) Src.game (Reg.hiRingCfg 2)) ∧ ((w stz12_1 4).dev.ringEn 2 = true) ∧
        ((w stz12_1 4).dev.inGroup 2 = false)) := by
  refine ⟨?_, ?_, ?_, ?_, ?_, ?_⟩ <;> decide +kernel

theorem wit_TailsSampled :
    (((wd stz12_2 0).ringEn 2 = true) ∧ (((wd stz12_2 0).ring 2).err = false) ∧
        ((BitVec.toNat (([] : List Word).getD (ringNo 2) 0) + 2 ^ 32 - ((wd stz12_2 0).ring 2).head) % 2 ^ 32 ≤ (wd stz12_2 0).ringSize 2)) ∧
    (((wd stz12_2 0).ringEn 2 = true) ∧ (((wd stz12_2 0).ring 2).err = false) ∧
        ((wd stz12_2 0).ringSize 2 < (BitVec.toNat (([0, 0,
        9] : List Word).getD (ringNo 2) 0) + 2 ^ 32 - ((wd stz12_2 0).ring 2).head) % 2 ^ 32)) := by
  refine ⟨?_, ?_⟩ <;> decide +kernel

theorem wit_DescriptorsPass :
    (((wd stz12_3 0).ringEn 2 = true) ∧ (((wd stz12_3 0).ring 2).stopped = false) ∧ (((wd stz12_3 0).ring 2).fetched = [bl, bl]) ∧
        ((wd stz12_3 0).inGroup 2 = false) ∧ ((wd stz12_3 0).cqFull 2 = false) ∧
        (dFence bl = true → ((wd stz12_3 0).ring 2).issue = []) ∧ ((wd stz12_3 0).hiRefusal 2 bl = 0) ∧
        ((wd stz12_3 0).heldByDeadline 2 bl = false) ∧ ((wd stz12_3 0).engineTakes 2 = true) ∧ ((wd stz12_3 0).ringType 2 ≠ 4)) ∧
    (((wd stz12_3 2).ringEn 2 = true) ∧ (((wd stz12_3 2).ring 2).stopped = false) ∧ (((wd stz12_3 2).ring 2).fetched = [fe]) ∧
        ((wd stz12_3 2).inGroup 2 = false) ∧ dFence fe = true ∧ (((wd stz12_3 2).ring 2).issue ≠ [])) ∧
    (((wd stz12_3 3).ringEn 2 = true) ∧ (((wd stz12_3 3).ring 2).stopped = false) ∧ (((wd stz12_3 3).ring 2).fetched = [bad]) ∧
        ((wd stz12_3 3).inGroup 2 = false) ∧ ((wd stz12_3 3).cqFull 2 = false) ∧
        (dFence bad = true → ((wd stz12_3 3).ring 2).issue = []) ∧ ((wd stz12_3 3).hiRefusal 2 bad ≠ 0)) ∧
    (((wd stz12_3 4).ringEn 2 = true) ∧ (((wd stz12_3 4).ring 2).stopped = false) ∧ (((wd stz12_3 4).ring 2).fetched = [dl]) ∧
        ((wd stz12_3 4).inGroup 2 = false) ∧ ((wd stz12_3 4).cqFull 2 = false) ∧
        (dFence dl = true → ((wd stz12_3 4).ring 2).issue = []) ∧ ((wd stz12_3 4).hiRefusal 2 dl = 0) ∧
        ((wd stz12_3 4).heldByDeadline 2 dl = true ∨ (wd stz12_3 4).engineTakes 2 = false)) ∧
    (((wd stz12_3 6).ringEn 2 = true) ∧ (((wd stz12_3 6).ring 2).stopped = false) ∧ (((wd stz12_3 6).ring 2).fetched = [bl]) ∧
        ((wd stz12_3 6).inGroup 2 = false) ∧ ((wd stz12_3 6).cqFull 2 = true)) := by
  refine ⟨?_, ?_, ?_, ?_, ?_⟩ <;> decide +kernel

end C12

namespace C12b

def bm (d : Dev) := d.setFn 0 {d.fn 0 with bme := true}
def hi (d : Dev) := (bm d).setRb (Reg.hiCtl 0) 0 true
def cfgR (v : Nat) (d : Dev) := d.setReg (Reg.hiRingCfg 2) (BitVec.ofNat 32 v)
def b := cfgR (1 + 3*2 + 2*64) (hi d0)
def poll (d : Dev) := { d with time := { d.time with pollDue := true } }
def m1 := mkD [(0,1,0x40),(16,1,2),(17,1,8),(18,2,0x7FF8),(24,8,0x1122334455667788)]
def ist (c : Comp) (k : Nat) (d : Dev) := d.setRing 2 { d.ring 2 with issue := [(0, some c), (1, none)], comps := k, cqHead := k }
def stz12b_1 : List Dev := [poll (hi d0), poll ((hi d0).setFn 0 {d0.fn 0 with bme := false}),
    poll ((hi d0).setFn 0 {d0.fn 0 with bme := true, dbOut := true}), b.setFn 0 {b.fn 0 with dbOut := true},
    b.setRing 2 { b.ring 2 with asked := 3 }, rung 2 5 0 [m1] b, (rung 2 5 0 [m1] b).setReg (Reg.ptPerm 14 0) 0, ist ⟨5, 7, 0, 2, 3,
    true⟩ 3 b, ist ⟨5, 7, 1, 2, 3, false⟩ 8 b, ist ⟨5, 7, 0, 2, 3, false⟩ 0xFFFFFFFF b]
def full (d : Dev) := (d.setRing 2 { d.ring 2 with issue := [(0, some ⟨5, 7, 0, 2, 3, true⟩), (1, none)], comps := 8}).setReg (Reg.hiStallto 0) 5
def eqf (d : Dev) := (d.setFn 0 {d.fn 0 with eqCount := 32, eqHead := 0}).setReg (Reg.hiStallto 0) 5
def stz12b_2 : List Dev := [b.setFn 0 {b.fn 0 with dbOut := true}, b.setRing 2 { b.ring 2 with asked := 3 }, full b,
    eqf (setAll (hi d0) [(Reg.hiEqcfg 0, 5)]), { b with link := false}, b.setRb Reg.pwrStat 0 true, b.setRb (Reg.hiMsixP 0 0) 1 true,
    ((b.setRb (Reg.hiMsixP 1 0) 1 true).setFn 1 {b.fn 1 with bme := true}).setRb (Reg.hiMsixT 1 7) 0 true]

theorem wit_RingTraffic :
    (((w stz12b_1 0).dev.clocked = true) ∧ ((w stz12b_1 0).dev.time.pollDue = true) ∧ ((w stz12b_1 0).dev.rb (Reg.hiCtl 0) 0 = true) ∧
        ((w stz12b_1 0).dev.rb (Reg.hiCtl 1) 0 = false) ∧ (((w stz12b_1 0).dev.fn 0).bme = true) ∧
        (((w stz12b_1 0).dev.fn 0).dbOut = false) ∧ ((w stz12b_1 0).dev.link = true)) ∧
    (((w stz12b_1 1).dev.clocked = true) ∧ ((w stz12b_1 1).dev.time.pollDue = true) ∧ ((w stz12b_1 1).dev.rb (Reg.hiCtl 0) 0 = true) ∧
        ((w stz12b_1 1).dev.rb (Reg.hiCtl 1) 0 = false) ∧
        (((w stz12b_1 1).dev.fn 0).bme = false ∨ ((w stz12b_1 1).dev.fn 0).dbOut = true)) ∧
    (((w stz12b_1 2).dev.clocked = true) ∧ (((w stz12b_1 2).dev.fn 0).dbOut = true)) ∧
    (((w stz12b_1 4).dev.clocked = true) ∧ ((w stz12b_1 4).dev.ringEn 2 = true) ∧ (((w stz12b_1 4).dev.ring 2).stopped = false) ∧
        (((w stz12b_1 4).dev.ring 2).unread = false) ∧ (((w stz12b_1 4).dev.ring 2).outstanding ≠ 0) ∧
        (((w stz12b_1 4).dev.ring 2).fetched.length < 8)) ∧
    (((w stz12b_1 5).dev.clocked = true) ∧ ((w stz12b_1 5).dev.front 2 [64] = some (0, m1)) ∧ mboxOk m1 = true ∧
        ((w stz12b_1 5).dev.permits 0 (placeFn0 (9437184 + 262144 * mbLp m1 + 131072 + mbOff m1)).target (placeFn0 (9437184 + 262144 * mbLp m1 + 131072 + mbOff m1)).off (mbLen m1) true = true) ∧ ((w stz12b_1 5).dev.flipArmed (11 + mbLp m1) = false)) ∧
    (((w stz12b_1 6).dev.clocked = true) ∧ ((w stz12b_1 6).dev.front 2 [64] = some (0, m1)) ∧ mboxOk m1 = true ∧
        ((w stz12b_1 6).dev.permits 0 (placeFn0 (9437184 + 262144 * mbLp m1 + 131072 + mbOff m1)).target (placeFn0 (9437184 + 262144 * mbLp m1 + 131072 + mbOff m1)).off (mbLen m1) true = false)) ∧
    (((w stz12b_1 7).dev.clocked = true) ∧ (((w stz12b_1 7).dev.ring 2).issue = [(0, some (Comp.mk 5 7 0 2 3 true)), (1, none)]) ∧
        ((w stz12b_1 7).dev.cqFull 2 = false) ∧ ((w stz12b_1 7).dev.link = true) ∧ (((w stz12b_1 7).dev.fn 0).bme = true) ∧
        ((Comp.mk 5 7 0 2 3 true).irq = true ∨ (Comp.mk 5 7 0 2 3 true).failed = true)) := by
  refine ⟨?_, ?_, ?_, ?_, ?_, ?_, ?_⟩ <;> decide +kernel

theorem wit_HostTrouble :
    (((w stz12b_2 0).dev.clocked = true) ∧ (((w stz12b_2 0).dev.fn 0).dbOut = true)) ∧
    (((w stz12b_2 0).dev.power ≠ 3) ∧ ((w stz12b_2 0).dev.link = true) ∧ ((w stz12b_2 0).dev.ringEn 2 = true)) ∧
    (((w stz12b_2 0).dev.clocked = true) ∧ ((w stz12b_2 0).dev.link = true) ∧ ((w stz12b_2 0).dev.rb Reg.pwrStat 0 = false)) ∧
    (((w stz12b_2 1).dev.clocked = true) ∧ ((w stz12b_2 1).dev.ringEn 2 = true) ∧ (((w stz12b_2 1).dev.ring 2).stopped = false) ∧
        (((w stz12b_2 1).dev.ring 2).unread = false) ∧ (((w stz12b_2 1).dev.ring 2).outstanding ≠ 0)) ∧
    (((w stz12b_2 2).dev.clocked = true) ∧ ((w stz12b_2 2).dev.cqWaits 2 = true) ∧ (((w stz12b_2 2).dev.ring 2).stalled = false) ∧
        ((w stz12b_2 2).dev.rf (Reg.hiStallto (ringFn 2)) 7 0 ≠ 0)) ∧
    (((w stz12b_2 3).dev.clocked = true) ∧ ((w stz12b_2 3).dev.eqFull 0 = true) ∧ (((w stz12b_2 3).dev.fn 0).eqStall = false) ∧
        ((w stz12b_2 3).dev.rf (Reg.hiStallto 0) 7 0 ≠ 0)) ∧
    (((w stz12b_2 4).dev.power ≠ 3) ∧ ((w stz12b_2 4).dev.link = false)) ∧
    (((w stz12b_2 5).dev.clocked = true) ∧ ((w stz12b_2 5).dev.link = true) ∧ ((w stz12b_2 5).dev.rb Reg.pwrStat 0 = true)) ∧
    ((WriteOk (w stz12b_2 6) (fnSrc 0) (Reg.hiMsixT 0 (4 * 1 + 3))) ∧ ((w stz12b_2 6).dev.link = true) ∧
        (((w stz12b_2 6).dev.fn 0).bme = true) ∧ ((w stz12b_2 6).dev.rb (Reg.hiMsixP 0 (1 / 32)) (1 % 32) = true)) := by
  refine ⟨?_, ?_, ?_, ?_, ?_, ?_, ?_, ?_, ?_⟩ <;> decide +kernel

end C12b

namespace C13

def rdy (d : Dev) := d.setRb Reg.memStat 0 true
def men (d : Dev) := { (d.setRb Reg.memCtl 0 true) with ladder := { d.ladder with running := [0, 1] } }
def dirty (d : Dev) := (d.writeBytes 0 1 0x100 [1,2,3,4,5]).writeBytes 1 1 0x100 [9,9,9]
def stz13_1 : List Dev := [d0, men d0, men (dirty d0), (men d0).setRb Reg.auCtl 0 true, rdy (men d0)]
def arm (id lo hi c : Nat) (d : Dev) := setAll d [(Reg.edcFlipSel, BitVec.ofNat 32 (2^31 + id)), (Reg.edcFlipDlo, BitVec.ofNat 32 lo),
    (Reg.edcFlipDhi, BitVec.ofNat 32 hi), (Reg.edcFlipC, BitVec.ofNat 32 c)]
def stz13_2 : List Dev := [d0, arm 0 (2^7) 0 0 d0, arm 1 (2^31) 0 0 d0, arm 6 0 (2^31) 0 d0, arm 0 0 0 0x80 d0, arm 1 0 0 0x40 d0,
    arm 1 3 0 0 d0, arm 0 (2^31+2) 0 0 d0, arm 6 2 (2^8) 0 d0]

theorem wit_LocalMemorySwitches :
    ((WriteOk (w stz13_1 0) Src.game Reg.memCtl) ∧ ((w stz13_1 0).dev.rb Reg.memCtl 0 = false)) ∧
    ((WriteOk (w stz13_1 1) Src.game Reg.memCtl) ∧ ((w stz13_1 1).dev.rb Reg.memCtl 0 = true) ∧ ((w stz13_1 1).dev.memUsed = false)) ∧
    (((w stz13_1 1).dev.clocked = true) ∧ ((w stz13_1 1).dev.rb Reg.memCtl 0 = true) ∧ ((w stz13_1 1).dev.laddered ladMem = true) ∧
        ((w stz13_1 1).dev.memReady = false) ∧ ((w stz13_1 1).dev.memc.held = [])) ∧
    (((w stz13_1 1).dev.clocked = true) ∧ ((w stz13_1 1).dev.rb Reg.memCtl 0 = true) ∧ ((w stz13_1 1).dev.laddered ladMem = true) ∧
        ((w stz13_1 1).dev.memReady = false) ∧ 1#4 ≠ 0) ∧
    ((WriteOk (w stz13_1 3) Src.game Reg.memCtl) ∧ ((w stz13_1 3).dev.rb Reg.memCtl 0 = true) ∧ ((w stz13_1 3).dev.memUsed = true)) ∧
    (((w stz13_1 4).dev.clocked = true) ∧ ((w stz13_1 4).dev.memReady = true)) := by
  refine ⟨?_, ?_, ?_, ?_, ?_, ?_⟩ <;> decide +kernel

theorem wit_CodesCorrectOneBit :
    ((0 < 2 ^ (8 * wordBytes 0)) ∧ 1 < 8 * wordBytes 0 ∧ ((wd stz13_2 0).flipArmed 0 = false)) ∧
    ((0 < 2 ^ (8 * wordBytes 0)) ∧ 1 < 8 * wordBytes 0) ∧
    ((0 < 2 ^ (8 * wordBytes 0)) ∧ 1 < 8 * wordBytes 0 ∧ ((wd stz13_2 1).flipArmed 0 = true)) ∧
    ((0 < 2 ^ (8 * wordBytes 0)) ∧ 7 < 8 * wordBytes 0 ∧ ((wd stz13_2 1).flipArmed 0 = true) ∧
        (((wd stz13_2 1).rf Reg.edcFlipDlo 31 0 + if wordBytes 0 = 8 then (wd stz13_2 1).rf Reg.edcFlipDhi 31 0 * 2 ^ 32 else 0) = 2 ^ 7) ∧ ((wd stz13_2 1).rf Reg.edcFlipC 7 0 = 0)) ∧
    ((0 < 2 ^ (8 * wordBytes 0)) ∧ 1 < 8 * wordBytes 0 ∧ ((wd stz13_2 4).flipArmed 0 = true) ∧ (7 < if wordBytes 0 = 8 then 8 else 7) ∧
        (((wd stz13_2 4).rf Reg.edcFlipDlo 31 0 + if wordBytes 0 = 8 then (wd stz13_2 4).rf Reg.edcFlipDhi 31 0 * 2 ^ 32 else 0) = 0) ∧
        ((wd stz13_2 4).rf Reg.edcFlipC 7 0 = 2 ^ 7)) ∧
    ((0 < 2 ^ (8 * wordBytes 1)) ∧ 1 < 8 * wordBytes 1 ∧ ((wd stz13_2 6).flipArmed 1 = true) ∧
        (((wd stz13_2 6).rf Reg.edcFlipDlo 31 0 + if wordBytes 1 = 8 then (wd stz13_2 6).rf Reg.edcFlipDhi 31 0 * 2 ^ 32 else 0) = 2 ^ 1 + 2 ^ 0) ∧ ((wd stz13_2 6).rf Reg.edcFlipC 7 0 = 0)) := by
  refine ⟨?_, ?_, ?_, ?_, ?_, ?_⟩ <;> decide +kernel

end C13

namespace C13b

def rdy (d : Dev) := d.setRb Reg.memStat 0 true
def arm (id lo hi c : Nat) (d : Dev) := setAll d [(Reg.edcFlipSel, BitVec.ofNat 32 (2^31 + id)), (Reg.edcFlipDlo, BitVec.ofNat 32 lo),
    (Reg.edcFlipDhi, BitVec.ofNat 32 hi), (Reg.edcFlipC, BitVec.ofNat 32 c)]
def flip1 (id a : Nat) (d : Dev) := (arm id 4 0 0 d).storeWord id a 5 false
def flip2 (id a : Nat) (d : Dev) := (arm id 5 0 0 d).storeWord id a 5 false
def pois (id a : Nat) (d : Dev) := d.storeWord id a 5 true
def sc (k : Nat) (d : Dev) := rdy (d.setReg Reg.edcScrub 0x00010001) |> fun d => { d with memc := { d.memc with scrubL := k, scrubS := 2097151 } }
def stz13b_1 : List Dev := [flip1 0 0 d0, (flip1 0 0 d0).setReg (Reg.edcCnt 0) 0x00010000,
    (flip1 0 0 d0).setReg (Reg.edcCnt 0) 0x00010001, flip2 0 8 (flip1 0 0 d0), flip1 1 (memBase 1) d0, pois 18 (memBase 18 + 4) d0,
    setAll d0 [(Reg.edcLeak, 3), (Reg.edcCnt 0, 0xFFFF0002), (Reg.edcCnt 1, 0x00010002)], sc 0 (flip1 0 8 (pois 0 0 d0)),
    sc (d0.dataCap / 64 - 1) d0]

theorem wit_ErrorsCountedAndScrubbed :
    (((w stz13b_1 0).dev.decodeWord 0 (wordBytes 0) = WordRead.corrected 5 2) ∧
        (min 65535 ((w stz13b_1 0).dev.rf (Reg.edcCnt (memGroup 0)) 15 0 + 1) ≤ (w stz13b_1 0).dev.rf (Reg.edcCnt (memGroup 0)) 31 16)) ∧
    (((w stz13b_1 0).dev.decodeWord 0 (wordBytes 0) = WordRead.corrected 5 2)) ∧
    (((w stz13b_1 0).dev.clocked = true) ∧ ((w stz13b_1 0).dev.rf Reg.edcLeak 15 0 ≠ 0) ∧
        (∀ (g : Nat), g < 4 → (w stz13b_1 0).dev.rf (Reg.edcCnt g) 15 0 - 1 ≤ (w stz13b_1 0).dev.rf (Reg.edcCnt g) 31 16)) ∧
    ((WriteOk (w stz13b_1 0) Src.game Reg.edcFlipSel) ∧ (bit (2147483648#32) 31 = true) ∧ (fld (2147483648#32) 4 0 < 20) ∧
        (fld (2147483648#32) 4 0 ≠ 18 ∨ Src.game = Src.custodian)) ∧
    ((WriteOk (w stz13b_1 0) Src.game Reg.edcFlipSel) ∧ (bit (2147483666#32) 31 = true) ∧ (fld (2147483666#32) 4 0 = 18) ∧
        Src.game ≠ Src.custodian) ∧
    ((WriteOk (w stz13b_1 0) Src.game Reg.edcFlipSel) ∧ (bit (2147483668#32) 31 = true) ∧ (20 ≤ fld (2147483668#32) 4 0)) ∧
    (((w stz13b_1 2).dev.decodeWord 0 (wordBytes 0) = WordRead.corrected 5 2) ∧
        ((w stz13b_1 2).dev.rf (Reg.edcCnt (memGroup 0)) 31 16 < min 65535 ((w stz13b_1 2).dev.rf (Reg.edcCnt (memGroup 0)) 15 0 + 1))) ∧
    (((w stz13b_1 3).dev.decodeWord 8 (wordBytes 0) = WordRead.bad)) ∧
    (((w stz13b_1 7).dev.clocked = true) ∧ ((w stz13b_1 7).dev.rf Reg.edcScrub 15 0 ≠ 0) ∧ ((w stz13b_1 7).dev.memReady = true) ∧
        ((w stz13b_1 7).dev.permits 15 0 (64 * (w stz13b_1 7).dev.memc.scrubL) 64 false = true) ∧
        ((w stz13b_1 7).dev.flipArmed 0 = false) ∧ ((w stz13b_1 7).dev.decodeWord (64 * (w stz13b_1 7).dev.memc.scrubL + 8 * 0) 8 = WordRead.bad)) ∧
    (((w stz13b_1 7).dev.clocked = true) ∧ ((w stz13b_1 7).dev.rf Reg.edcScrub 15 0 ≠ 0) ∧ ((w stz13b_1 7).dev.memReady = true) ∧
        ((w stz13b_1 7).dev.permits 15 0 (64 * (w stz13b_1 7).dev.memc.scrubL) 64 false = true) ∧
        ((w stz13b_1 7).dev.flipArmed 0 = false) ∧ ((w stz13b_1 7).dev.decodeWord (64 * (w stz13b_1 7).dev.memc.scrubL + 8 * 1) 8 = WordRead.corrected 5 2)) ∧
    (((w stz13b_1 7).dev.clocked = true) ∧ ((w stz13b_1 7).dev.rf Reg.edcScrub 15 0 ≠ 0) ∧ ((w stz13b_1 7).dev.memReady = true) ∧
        ((w stz13b_1 7).dev.permits 15 0 (64 * (w stz13b_1 7).dev.memc.scrubL) 64 false = true) ∧
        ((w stz13b_1 7).dev.flipArmed 0 = false) ∧ (64 * (w stz13b_1 7).dev.memc.scrubL + 64 < (w stz13b_1 7).dev.dataCap)) ∧
    (((w stz13b_1 7).dev.clocked = true) ∧ ((w stz13b_1 7).dev.rf Reg.edcScrub 31 16 ≠ 0) ∧ ((w stz13b_1 7).dev.memc.scrubS = 2097151)) ∧
    (((w stz13b_1 8).dev.clocked = true) ∧ ((w stz13b_1 8).dev.rf Reg.edcScrub 15 0 ≠ 0) ∧ ((w stz13b_1 8).dev.memReady = true) ∧
        ((w stz13b_1 8).dev.permits 15 0 (64 * (w stz13b_1 8).dev.memc.scrubL) 64 false = true) ∧
        ((w stz13b_1 8).dev.flipArmed 0 = false) ∧ ((w stz13b_1 8).dev.dataCap ≤ 64 * (w stz13b_1 8).dev.memc.scrubL + 64)) := by
  refine ⟨?_, ?_, ?_, ?_, ?_, ?_, ?_, ?_, ?_, ?_, ?_, ?_, ?_⟩ <;> decide +kernel

end C13b

namespace C13c

def rdy (d : Dev) := d.setRb Reg.memStat 0 true
def men (d : Dev) := { (d.setRb Reg.memCtl 0 true) with ladder := { d.ladder with running := [0, 1] } }
def ason (d : Dev) := (rdy (men d)).setRb Reg.asCtl 0 true
def gm (d : Dev) := setAll d [(Reg.asGeom, 0x1FFF12), (Reg.asCfg, 0x1401), (Reg.asRemapbase, 0)]
def ar (s d l : Nat) : Desc := mkD [(0,1,0x50),(16,5,s),(24,5,d),(32,4,l)]
def val (e : Nat) (d : Dev) := d.writeBytes 0 1 0 (toBytes 4 e)
def q1 : AreadRun := ⟨2, 0, ar 0x208 0x100400 16, 16, 0, 0, 0, false, none⟩
def base1 := val (2^31 + 65) (ason (gm d0))
def stz13c_1 : List Dev := [d0, rdy (gm d0), rung 2 6 0 [ar 0x208 0x100400 16] base1,
    base1.setAsset { base1.asset with run := some q1}, base1.setAsset { base1.asset with run := some {q1 with bad := true}},
    base1.setReg Reg.asPatrol 7, ((base1.setReg Reg.asPatrol 7).writeBytes 0 1 0 [0,0,0,0,0x41,0,0,0x80]).setAsset { base1.asset with patrol := 5}, base1.setReg Reg.asPbuf 0x5000, base1.setAsset { base1.asset with pcmd := some 0}]

theorem wit_AssetStoreRuns :
    ((WriteOk (w stz13c_1 0) Src.game Reg.asCtl) ∧ ((w stz13c_1 0).dev.rb Reg.asCtl 0 = false) ∧
        (((w stz13c_1 0).dev.asCheck (Option.map (fun (x : Fin 16) => ↑x) none) 0 0).fst ≠ 0)) ∧
    ((WriteOk (w stz13c_1 1) Src.game Reg.asCtl) ∧ ((w stz13c_1 1).dev.rb Reg.asCtl 0 = false) ∧
        (((w stz13c_1 1).dev.asCheck (Option.map (fun (x : Fin 16) => ↑x) none) 0 0).fst = 0)) ∧
    (((w stz13c_1 2).dev.clocked = true) ∧ ((w stz13c_1 2).dev.rb Reg.asCtl 0 = true) ∧ ((w stz13c_1 2).dev.laddered ladAs = true) ∧
        ((w stz13c_1 2).dev.memReady = true) ∧ ((w stz13c_1 2).dev.asset.run = none) ∧ ((w stz13c_1 2).dev.assetTurn = some 2) ∧
        ((w stz13c_1 2).dev.front 2 [80] = some (0, ar 520 1049600 16)) ∧ (arClean (ar 520 1049600 16) = true) ∧
        (arSrc (ar 520 1049600 16) % 8 = 0) ∧ (arDst (ar 520 1049600 16) % 8 = 0) ∧ (arLen (ar 520 1049600 16) % 8 = 0) ∧
        (0 < arLen (ar 520 1049600 16)) ∧ (arSrc (ar 520 1049600 16) % 1024 + arLen (ar 520 1049600 16) ≤ 1024) ∧
        ((w stz13c_1 2).dev.mayTouch 11 0 ((w stz13c_1 2).dev.remapOff (arSrc (ar 520 1049600 16) / (w stz13c_1 2).dev.blockBytes)) 4 false = true) ∧ ((w stz13c_1 2).dev.badAt 0 ((w stz13c_1 2).dev.remapOff (arSrc (ar 520 1049600 16) / (w stz13c_1 2).dev.blockBytes)) 4 = false) ∧ (∀ (i : Nat), i < arLen (ar 520 1049600 16) / 4 → (w stz13c_1 2).dev.mayTouch 11 0 (arDst (ar 520 1049600 16) + 4 * i) 4 true = true) ∧ ((w stz13c_1 2).dev.flipArmed 0 = false) ∧ ((w stz13c_1 2).dev.flipArmed 19 = false) ∧ ((List.map (fun (i : Nat) => BitVec.ofNat 8 (i * 7 + 1)) (List.range 1024)).length = 1024) ∧ ((w stz13c_1 2).dev.permits 11 3 (arSrc (ar 520 1049600 16)) (arLen (ar 520 1049600 16)) false = true) ∧ (bitsOf ((w stz13c_1 2).dev.peekN 0 ((w stz13c_1 2).dev.remapOff (arSrc (ar 520 1049600 16) / (w stz13c_1 2).dev.blockBytes)) 4) 31 31 = 1) ∧ ((w stz13c_1 2).dev.inPartition ((w stz13c_1 2).dev.peekN 0 ((w stz13c_1 2).dev.remapOff (arSrc (ar 520 1049600 16) / (w stz13c_1 2).dev.blockBytes)) 4) = false) ∧ (¬(arDst (ar 520 1049600 16) ≤ 0 ∧ 0 < arDst (ar 520 1049600 16) + arLen (ar 520 1049600 16)))) ∧
    (((w stz13c_1 3).dev.clocked = true) ∧ ((w stz13c_1 3).dev.asset.run = some q1) ∧ q1.done = arLen q1.desc) ∧
    (((w stz13c_1 5).dev.clocked = true) ∧ ((w stz13c_1 5).dev.rb Reg.asCtl 0 = true) ∧ ((w stz13c_1 5).dev.laddered ladAs = true) ∧
        ((w stz13c_1 5).dev.rf Reg.asPatrol 15 0 ≠ 0) ∧ ((w stz13c_1 5).dev.memReady = true) ∧ ((w stz13c_1 5).dev.asset.pcmd = none) ∧
        ((w stz13c_1 5).dev.asset.run = none) ∧ ((w stz13c_1 5).dev.nextValid (w stz13c_1 5).dev.logicalBlocks ((w stz13c_1 5).dev.asset.patrol / (w stz13c_1 5).dev.blockPages) = some (0, 2147483713))) ∧
    (((w stz13c_1 8).dev.clocked = true) ∧ ((w stz13c_1 8).dev.asset.pcmd ≠ none)) := by
  refine ⟨?_, ?_, ?_, ?_, ?_, ?_⟩ <;> decide +kernel

end C13c

namespace C13d

def rdy (d : Dev) := d.setRb Reg.memStat 0 true
def men (d : Dev) := { (d.setRb Reg.memCtl 0 true) with ladder := { d.ladder with running := [0, 1] } }
def ason (d : Dev) := (rdy (men d)).setRb Reg.asCtl 0 true
def gm (d : Dev) := setAll d [(Reg.asGeom, 0x1FFF00), (Reg.asCfg, 0x1401), (Reg.asRemapbase, 0)]
def val (e : Nat) (d : Dev) := d.writeBytes 0 1 0 (toBytes 4 e)
def stz13d_1 : List Dev := [ason (gm d0), val (2^31) ((ason (gm d0)).setReg (Reg.ptPerm 0 0) 0)]

theorem wit_AssetStoreRuns :
    ((WriteOk (w stz13d_1 0) Src.game Reg.asPcmd) ∧ ((w stz13d_1 0).dev.rb Reg.asPstat 0 = false) ∧
        ((w stz13d_1 0).dev.rb Reg.asCtl 0 = true) ∧ ((0#10).toNat < (w stz13d_1 0).dev.blockPages) ∧
        (((w stz13d_1 0).dev.remap (0#20).toNat).fst.fst ≠ 0)) := by
  decide +kernel

end C13d

namespace C14

def rdy (d : Dev) := d.setRb Reg.memStat 0 true
def fon (d : Dev) : Dev := { ((rdy d).setRb Reg.fmCtl 0 true) with ladder := { d.ladder with running := [0, 14] } }
def fd (op ss ds src dst len v : Nat) : Desc := mkD [(0,1,op),(12,2,0x55),(16,1,ss + ds*4),(24,8,src),(32,8,dst),(40,4,len),(44,4,v)]
def q0 (w : Desc) (k : Nat) (m : Option Nat): FmRun := ⟨2, 0, w, k, m⟩
def w0 := fd 0x20 1 2 0x103 0x205 13 0
def st2 (d : Dev) := (List.range 32).foldl (fun d n => d.setRf (Reg.fmnStat n) 2 0 2) (d.setRb Reg.fmStat 0 true)
def stz14_1 : List Dev := [d0, setAll d0 [(Reg.fmnCfg 3, 17)], d0.setReg (Reg.fmnCfg 4) 2, fon d0,
    (fon d0).setFm 3 (some (q0 w0 0 none)), (fon (setAll d0 [(Reg.fmnCfg 3,
    2)])).setFm 3 (some (q0 w0 0 none)) |> (·.setReg (Reg.fmnCfg 3) 5), st2 ((fon d0).setRb (Reg.fmnCtl 3) 0 true),
    (fon d0).setRf (Reg.fmnStat 5) 2 0 1, fon (d0.setReg (Reg.fmnCfg 4) 9)]
def stz14_2 : List Dev := [(rung 2 3 3 [w0] (fon d0)).setFm 3 (some (q0 w0 13 none)),
    (rung 2 3 3 [w0] (fon d0)).setFm 3 (some (q0 w0 3 (some 3))),
    ((rung 2 3 3 [w0] (fon d0)).setFm 3 (some (q0 w0 3 (some 3)))).setRb (Reg.fmnCtl 3) 0 true]
def ws : List Desc := [fd 0x20 1 2 0x103 0x205 13 0, fd 0x20 1 3 0x104 0x204 12 0,
    fd 0x20 1 1 0x103 0x205 13 0,fd 0x20 1 1 0x103 0x105 13 0, fd 0x20 1 2 0x103 0x205 0 0, fd 0x21 0 1 0 0x205 13 0x11223344,
    fd 0x21 0 3 0 0x204 12 0x11223344, fd 0x22 1 2 0x100 0x200 20 0, fd 0x22 1 1 0x100 0x100 20 0, fd 0x22 1 2 0x103 0x203 2 0]
def ini (d : Dev) := ((d.writeBytes 0 1 0x100 ((List.range 30).map (fun i => BitVec.ofNat 8 (i + 1)))).writeBytes 6 1 0x200 ((List.range 10).map (fun i => BitVec.ofNat 8 (i + 1)))).storeWord 17 (memBase 17 + 0) 5 true
def cf (d : Dev) := setAll (fon d) [(Reg.fmnCfg 3, 1), (Reg.fmnCfg 1, 2)]
def stz14_3 : List Dev := (ws.map (fun w => rung 2 3 3 [w] (cf (ini d0))))

theorem wit_FlumeSwitches :
    ((WriteOk (w stz14_1 0) Src.game Reg.fmCtl) ∧ ((w stz14_1 0).dev.rb Reg.fmCtl 0 = false) ∧
        (((w stz14_1 0).dev.fmSetCheck false).fst = 0)) ∧
    ((WriteOk (w stz14_1 0) Src.game (Reg.fmnCtl 0)) ∧ ((w stz14_1 0).dev.fmState 0 = 0) ∧ ((w stz14_1 0).dev.fm 0 = none)) ∧
    ((WriteOk (w stz14_1 1) Src.game Reg.fmCtl) ∧ ((w stz14_1 1).dev.rb Reg.fmCtl 0 = false) ∧
        (((w stz14_1 1).dev.fmSetCheck false).fst ≠ 0)) ∧
    ((WriteOk (w stz14_1 3) Src.game Reg.fmCtl) ∧ ((w stz14_1 3).dev.rb Reg.fmCtl 0 = true) ∧
        (∀ (n : Nat), n < 32 → (w stz14_1 3).dev.fm n = none)) ∧
    ((WriteOk (w stz14_1 3) Src.game Reg.fmCommit) ∧ ((w stz14_1 3).dev.rb Reg.fmCtl 0 = true) ∧
        (((w stz14_1 3).dev.fmSetCheck true).fst = 0)) ∧
    ((WriteOk (w stz14_1 4) Src.game Reg.fmCtl) ∧ ((w stz14_1 4).dev.rb Reg.fmCtl 0 = true) ∧ ((w stz14_1 4).dev.fm 3 ≠ none) ∧
        (∀ (n : Nat), n < 3 → (w stz14_1 4).dev.fm n = none)) ∧
    ((WriteOk (w stz14_1 4) Src.game (Reg.fmnCtl 3)) ∧ ((w stz14_1 4).dev.fmState 3 = 0) ∧ ((w stz14_1 4).dev.fm 3 ≠ none)) ∧
    (((w stz14_1 4).dev.clocked = true) ∧ ((FlumeFault.mk 7 0 true 1 (some 5) 78187493530).cause ≠ 0) ∧
        ((w stz14_1 4).dev.rb Reg.fmStat 0 = false) ∧ ((w stz14_1 4).dev.fm 3 ≠ none)) ∧
    ((WriteOk (w stz14_1 5) Src.game Reg.fmCommit) ∧ ((w stz14_1 5).dev.rb Reg.fmCtl 0 = true) ∧
        (((w stz14_1 5).dev.fmSetCheck true).fst ≠ 0)) ∧
    ((WriteOk (w stz14_1 6) Src.game Reg.fmCtl) ∧ ((w stz14_1 6).dev.rb Reg.fmStat 0 = true) ∧ ((w stz14_1 6).dev.fmState 0 = 2)) ∧
    ((WriteOk (w stz14_1 6) Src.game Reg.fmCtl) ∧ ((w stz14_1 6).dev.rb Reg.fmStat 0 = true) ∧ ((w stz14_1 6).dev.fmState 3 = 2) ∧
        ((w stz14_1 6).dev.rb (Reg.fmnCtl 3) 0 = true)) ∧
    ((WriteOk (w stz14_1 7) Src.game (Reg.fmnCtl 5)) ∧ ((w stz14_1 7).dev.fmState 5 = 1)) := by
  refine ⟨?_, ?_, ?_, ?_, ?_, ?_, ?_, ?_, ?_, ?_, ?_, ?_⟩ <;> decide +kernel

theorem wit_FlumeCompletes :
    (((w stz14_2 0).dev.clocked = true) ∧ ((w stz14_2 0).dev.fm 3 = some (q0 w0 13 none)) ∧ ((q0 w0 13 none).over = true)) ∧
    (((w stz14_2 1).dev.clocked = true) ∧ ((w stz14_2 1).dev.fm 3 = some (q0 w0 3 (some 3))) ∧ ((q0 w0 3 (some 3)).over = true) ∧
        ((q0 w0 3 (some 3)).mism.isSome = true)) ∧
    (((w stz14_2 2).dev.clocked = true) ∧ ((w stz14_2 2).dev.fm 3 = some (q0 w0 3 (some 3))) ∧ ((q0 w0 3 (some 3)).over = true) ∧
        ((w stz14_2 2).dev.rb (Reg.fmnCtl 3) 0 = true)) := by
  refine ⟨?_, ?_, ?_⟩ <;> decide +kernel

theorem wit_FlumeDescriptorsMove :
    (((w stz14_3 0).dev.clocked = true) ∧ ((w stz14_3 0).dev.memReady = true) ∧ ((w stz14_3 0).dev.rb Reg.fmCtl 0 = true) ∧
        ((w stz14_3 0).dev.laddered ladFlume = true) ∧ ((w stz14_3 0).dev.ringType 2 = 3) ∧
        ((w stz14_3 0).dev.fm ((w stz14_3 0).dev.ringUnit 2) = none) ∧ ((w stz14_3 0).dev.fmState ((w stz14_3 0).dev.ringUnit 2) = 0) ∧
        ((w stz14_3 0).dev.front 2 [32] = some (0, fd 32 1 2 259 517 13 0)) ∧ ((w stz14_3 0).dev.rb Reg.edcFlipSel 31 = false) ∧
        ((w stz14_3 0).dev.fmCheck ((w stz14_3 0).dev.ringUnit 2) (fd 32 1 2 259 517 13 0) = 0) ∧
        (0 < fmLen (fd 32 1 2 259 517 13 0)) ∧ (fmLen (fd 32 1 2 259 517 13 0) + (if 32 = 33 then fmDst (fd 32 1 2 259 517 13 0) else fmSrc (fd 32 1 2 259 517 13 0)) % 2048 ≤ 2048) ∧ (fmDspace (fd 32 1 2 259 517 13 0) ≠ 0) ∧ (∀ (i : Nat), i < fmLen (fd 32 1 2 259 517 13 0) → (w stz14_3 0).dev.fmMay (ringFn 2) (fmMem (fmDspace (fd 32 1 2 259 517 13 0))) (fmDst (fd 32 1 2 259 517 13 0) + i) 1 true = true ∧ (w stz14_3 0).dev.fmMay (ringFn 2) (fmMem (fmDspace (fd 32 1 2 259 517 13 0))) (fmDst (fd 32 1 2 259 517 13 0) + i) 1 false = true) ∧ (32 ≠ 33 → fmSspace (fd 32 1 2 259 517 13 0) ≠ 0 ∧ ∀ (i : Nat), i < fmLen (fd 32 1 2 259 517 13 0) → (w stz14_3 0).dev.fmMay (ringFn 2) (fmMem (fmSspace (fd 32 1 2 259 517 13 0))) (fmSrc (fd 32 1 2 259 517 13 0) + i) 1 false = true ∧ (w stz14_3 0).dev.badAt (fmMem (fmSspace (fd 32 1 2 259 517 13 0))) (fmSrc (fd 32 1 2 259 517 13 0) + i) 1 = false) ∧ (¬(0 = fmMem (fmDspace (fd 32 1 2 259 517 13 0)) ∧ fmDst (fd 32 1 2 259 517 13 0) ≤ 0 ∧ 0 < fmDst (fd 32 1 2 259 517 13 0) + fmLen (fd 32 1 2 259 517 13 0)))) ∧
    (((w stz14_3 3).dev.clocked = true) ∧ ((w stz14_3 3).dev.memReady = true) ∧ ((w stz14_3 3).dev.rb Reg.fmCtl 0 = true) ∧
        ((w stz14_3 3).dev.laddered ladFlume = true) ∧ ((w stz14_3 3).dev.ringType 2 = 3) ∧
        ((w stz14_3 3).dev.fm ((w stz14_3 3).dev.ringUnit 2) = none) ∧ ((w stz14_3 3).dev.fmState ((w stz14_3 3).dev.ringUnit 2) = 0) ∧
        ((w stz14_3 3).dev.front 2 [32] = some (0, fd 32 1 1 259 261 13 0)) ∧ ((w stz14_3 3).dev.rb Reg.edcFlipSel 31 = false) ∧
        ((w stz14_3 3).dev.fmCheck ((w stz14_3 3).dev.ringUnit 2) (fd 32 1 1 259 261 13 0) ≠ 0)) ∧
    (((w stz14_3 4).dev.clocked = true) ∧ ((w stz14_3 4).dev.memReady = true) ∧ ((w stz14_3 4).dev.rb Reg.fmCtl 0 = true) ∧
        ((w stz14_3 4).dev.laddered ladFlume = true) ∧ ((w stz14_3 4).dev.ringType 2 = 3) ∧
        ((w stz14_3 4).dev.fm ((w stz14_3 4).dev.ringUnit 2) = none) ∧ ((w stz14_3 4).dev.fmState ((w stz14_3 4).dev.ringUnit 2) = 0) ∧
        ((w stz14_3 4).dev.front 2 [32] = some (0, fd 32 1 2 259 517 0 0)) ∧ ((w stz14_3 4).dev.rb Reg.edcFlipSel 31 = false) ∧
        ((w stz14_3 4).dev.fmCheck ((w stz14_3 4).dev.ringUnit 2) (fd 32 1 2 259 517 0 0) = 0) ∧ (fmLen (fd 32 1 2 259 517 0 0) = 0)) ∧
    (((w stz14_3 5).dev.clocked = true) ∧ ((w stz14_3 5).dev.memReady = true) ∧ ((w stz14_3 5).dev.rb Reg.fmCtl 0 = true) ∧
        ((w stz14_3 5).dev.laddered ladFlume = true) ∧ ((w stz14_3 5).dev.ringType 2 = 3) ∧
        ((w stz14_3 5).dev.fm ((w stz14_3 5).dev.ringUnit 2) = none) ∧ ((w stz14_3 5).dev.fmState ((w stz14_3 5).dev.ringUnit 2) = 0) ∧
        ((w stz14_3 5).dev.front 2 [33] = some (0, fd 33 0 1 0 517 13 287454020)) ∧ ((w stz14_3 5).dev.rb Reg.edcFlipSel 31 = false) ∧
        ((w stz14_3 5).dev.fmCheck ((w stz14_3 5).dev.ringUnit 2) (fd 33 0 1 0 517 13 287454020) = 0) ∧
        (0 < fmLen (fd 33 0 1 0 517 13 287454020)) ∧ (fmLen (fd 33 0 1 0 517 13 287454020) + (if 33 = 33 then fmDst (fd 33 0 1 0 517 13 287454020) else fmSrc (fd 33 0 1 0 517 13 287454020)) % 2048 ≤ 2048) ∧ (fmDspace (fd 33 0 1 0 517 13 287454020) ≠ 0) ∧ (∀ (i : Nat), i < fmLen (fd 33 0 1 0 517 13 287454020) → (w stz14_3 5).dev.fmMay (ringFn 2) (fmMem (fmDspace (fd 33 0 1 0 517 13 287454020))) (fmDst (fd 33 0 1 0 517 13 287454020) + i) 1 true = true ∧ (w stz14_3 5).dev.fmMay (ringFn 2) (fmMem (fmDspace (fd 33 0 1 0 517 13 287454020))) (fmDst (fd 33 0 1 0 517 13 287454020) + i) 1 false = true) ∧ (33 ≠ 33 → fmSspace (fd 33 0 1 0 517 13 287454020) ≠ 0 ∧ ∀ (i : Nat), i < fmLen (fd 33 0 1 0 517 13 287454020) → (w stz14_3 5).dev.fmMay (ringFn 2) (fmMem (fmSspace (fd 33 0 1 0 517 13 287454020))) (fmSrc (fd 33 0 1 0 517 13 287454020) + i) 1 false = true ∧ (w stz14_3 5).dev.badAt (fmMem (fmSspace (fd 33 0 1 0 517 13 287454020))) (fmSrc (fd 33 0 1 0 517 13 287454020) + i) 1 = false) ∧ (¬(0 = fmMem (fmDspace (fd 33 0 1 0 517 13 287454020)) ∧ fmDst (fd 33 0 1 0 517 13 287454020) ≤ 0 ∧ 0 < fmDst (fd 33 0 1 0 517 13 287454020) + fmLen (fd 33 0 1 0 517 13 287454020)))) ∧
    (((w stz14_3 7).dev.clocked = true) ∧ ((w stz14_3 7).dev.memReady = true) ∧ ((w stz14_3 7).dev.rb Reg.fmCtl 0 = true) ∧
        ((w stz14_3 7).dev.laddered ladFlume = true) ∧ ((w stz14_3 7).dev.ringType 2 = 3) ∧
        ((w stz14_3 7).dev.fm ((w stz14_3 7).dev.ringUnit 2) = none) ∧ ((w stz14_3 7).dev.fmState ((w stz14_3 7).dev.ringUnit 2) = 0) ∧
        ((w stz14_3 7).dev.front 2 [34] = some (0, fd 34 1 2 256 512 20 0)) ∧ ((w stz14_3 7).dev.rb Reg.edcFlipSel 31 = false) ∧
        ((w stz14_3 7).dev.fmCheck ((w stz14_3 7).dev.ringUnit 2) (fd 34 1 2 256 512 20 0) = 0) ∧
        (0 < fmLen (fd 34 1 2 256 512 20 0)) ∧ (fmLen (fd 34 1 2 256 512 20 0) + (if 34 = 33 then fmDst (fd 34 1 2 256 512 20 0) else fmSrc (fd 34 1 2 256 512 20 0)) % 2048 ≤ 2048) ∧ (fmDspace (fd 34 1 2 256 512 20 0) ≠ 0) ∧ (∀ (i : Nat), i < fmLen (fd 34 1 2 256 512 20 0) → (w stz14_3 7).dev.fmMay (ringFn 2) (fmMem (fmDspace (fd 34 1 2 256 512 20 0))) (fmDst (fd 34 1 2 256 512 20 0) + i) 1 true = true ∧ (w stz14_3 7).dev.fmMay (ringFn 2) (fmMem (fmDspace (fd 34 1 2 256 512 20 0))) (fmDst (fd 34 1 2 256 512 20 0) + i) 1 false = true) ∧ (34 ≠ 33 → fmSspace (fd 34 1 2 256 512 20 0) ≠ 0 ∧ ∀ (i : Nat), i < fmLen (fd 34 1 2 256 512 20 0) → (w stz14_3 7).dev.fmMay (ringFn 2) (fmMem (fmSspace (fd 34 1 2 256 512 20 0))) (fmSrc (fd 34 1 2 256 512 20 0) + i) 1 false = true ∧ (w stz14_3 7).dev.badAt (fmMem (fmSspace (fd 34 1 2 256 512 20 0))) (fmSrc (fd 34 1 2 256 512 20 0) + i) 1 = false) ∧ (∀ (i : Nat), i < fmLen (fd 34 1 2 256 512 20 0) → (w stz14_3 7).dev.badAt (fmMem (fmDspace (fd 34 1 2 256 512 20 0))) (fmDst (fd 34 1 2 256 512 20 0) + i) 1 = false)) := by
  refine ⟨?_, ?_, ?_, ?_, ?_⟩ <;> decide +kernel

end C14

namespace C15

def ev (d : Dev) := [0, 127].foldl (fun d k => d.setRf (Reg.pinkCfg k) 15 14 3) d
def own5 (d : Dev) := setAll d [(Reg.pinOwn 33, 0), (Reg.pinOwn 64, 0x80000001)]
def pat (u base mask val : Nat) (extra : Nat) (d : Dev) := setAll d [(Reg.pinPatCfg u, BitVec.ofNat 32 (1 + 2 * base + extra)),
    (Reg.pinPatMask u, BitVec.ofNat 32 mask), (Reg.pinPatVal u, BitVec.ofNat 32 val)]
def coil1 (d : Dev) : Dev := (setAll d [(Reg.drvOutCfg 1, 0x00200C01 + 0x3FC), (Reg.drvOutLim 1, 0x00100064), (Reg.drvBudget, 500),
    (Reg.drvWin, 3), (Reg.drvPwm, 50)]).setDrv { d.io.drv with on := true }
def sts : List Dev := [d0, (ev d0), own5 d0, pat 3 20 1 1 0x700 d0, (pat 3 20 1 0 0x700 d0),
    (pat 3 20 1 0 0x700 d0).setRb (Reg.pinPatStat 3) 1 true,
  coil1 ((pat 3 20 1 0 0x10700 d0).setRb (Reg.pinPatStat 3) 1 true),
      ((pat 3 20 1 0 0x10700 d0).setRb (Reg.pinPatStat 3) 1 true).setReg (Reg.pinPatown 3) 3, (pat 3 100 1 0 0x700 d0),
      (d0.setReg (Reg.pinkFunc 33) 1), d0.setReg (Reg.pinkFunc 64) 2]
def stz15_1 : List Dev := sts
def coilSt (k : Nat) (d : Dev) := (coil1 d).setRf (Reg.drvOutStat 1) 1 0 k
def stz15_2 : List Dev := [d0, coil1 d0, own5 (coil1 d0), coilSt 1 d0, coilSt 2 d0, coilSt 3 d0,
    (coil1 d0).setRf (Reg.drvOutStat 9) 1 0 3, (coil1 d0).setDrv { (coil1 d0).io.drv with charges := [⟨450,2⟩] },
    (coil1 d0).setDrv { (coil1 d0).io.drv with charges := [⟨4500,2⟩] }]

theorem wit_PinsFollow :
    (((w stz15_1 0).dev.power ≠ 3) ∧ ((w stz15_1 0).dev.level 0 ≠ true)) ∧
    ((WriteOk (w stz15_1 0) Src.game (Reg.pinkFunc 0)) ∧ ((w stz15_1 0).dev.owns (masterOf Src.game) 0 = true) ∧
        (pinFuncOk 0 (fld (0#32) 2 0) = true)) ∧
    ((WriteOk (w stz15_1 0) Src.game (Reg.pinkGpio 0)) ∧ ((w stz15_1 0).dev.owns (masterOf Src.game) 0 = true) ∧
        ((w stz15_1 0).dev.func 0 = 0) ∧ (bit (0#32) 1 = false)) ∧
    ((WriteOk (w stz15_1 0) Src.custodian (Reg.pinOwn 0)) ∧ ((w stz15_1 0).dev.rb (Reg.pinOwn 0) 31 = false) ∧ (fld (0#32) 2 0 < 6)) ∧
    ((WriteOk (w stz15_1 0) Src.game Reg.pinCommit) ∧ (∀ (u : Nat), u < 8 → (w stz15_1 0).dev.patCheck u = 0)) ∧
    ((WriteOk (w stz15_1 0) Src.game (Reg.pinkFunc 0)) ∧ ((w stz15_1 0).dev.owns (masterOf Src.game) 0 = true) ∧
        (pinFuncOk 0 (fld (2#32) 2 0) = false)) ∧
    ((WriteOk (w stz15_1 0) Src.game (Reg.pinkGpio 0)) ∧ ((w stz15_1 0).dev.owns (masterOf Src.game) 0 = true) ∧
        ((w stz15_1 0).dev.func 0 = 0) ∧ (bit (2#32) 1 = true) ∧ ((w stz15_1 0).dev.rb (Reg.pinkCfg 0) 13 = false)) ∧
    ((WriteOk (w stz15_1 0) Src.custodian (Reg.pinOwn 0)) ∧ ((w stz15_1 0).dev.rb (Reg.pinOwn 0) 31 = false) ∧ (6 ≤ fld (7#32) 2 0)) ∧
    ((WriteOk (w stz15_1 0) (Src.lp 1) (Reg.pinkFunc 0)) ∧ ((w stz15_1 0).dev.owns (masterOf (Src.lp 1)) 0 = false)) ∧
    (((w stz15_1 1).dev.power ≠ 3) ∧ ((w stz15_1 1).dev.level 0 ≠ true) ∧
        ((w stz15_1 1).dev.rb (Reg.pinkCfg 0) (if true = true then 14 else 15) = true)) ∧
    ((WriteOk (w stz15_1 2) Src.custodian (Reg.pinOwn 64)) ∧ ((w stz15_1 2).dev.rb (Reg.pinOwn 64) 31 = true)) := by
  refine ⟨?_, ?_, ?_, ?_, ?_, ?_, ?_, ?_, ?_, ?_, ?_⟩ <;> decide +kernel

theorem wit_CoilsKeepBudget :
    ((WriteOk (w stz15_2 0) Src.game Reg.drvFire) ∧ ((w stz15_2 0).dev.owns (masterOf Src.game) (32 + 1) = true)) ∧
    (((w stz15_2 0).dev.startable 1 = false)) ∧
    ((WriteOk (w stz15_2 0) (Src.lp 1) Reg.drvFire) ∧ ((w stz15_2 0).dev.owns (masterOf (Src.lp 1)) (32 + 1) = false)) ∧
    (((w stz15_2 1).dev.clocked = true) ∧ ((w stz15_2 1).dev.startable 1 = true) ∧ ((w stz15_2 1).dev.drvPend = []) ∧
        ((w stz15_2 1).dev.drvLoad + (w stz15_2 1).dev.lf (Reg.drvOutLim 1) 15 0 ≤ (w stz15_2 1).dev.lf Reg.drvBudget 15 0) ∧
        ((w stz15_2 1).dev.lf (Reg.drvOutCfg 1) 31 16 ≠ 0)) ∧
    (((w stz15_2 3).dev.clocked = true) ∧ ((w stz15_2 3).dev.coil 1 = 1)) ∧
    (((w stz15_2 3).dev.clocked = true) ∧ ((w stz15_2 3).dev.coilOn 1 = true) ∧ ((w stz15_2 3).dev.lf (Reg.drvOutLim 1) 31 16 ≠ 0)) ∧
    (((w stz15_2 6).dev.clocked = true) ∧ ((w stz15_2 6).dev.startable 1 = true) ∧ ((w stz15_2 6).dev.drvPend ≠ [])) := by
  refine ⟨?_, ?_, ?_, ?_, ?_, ?_, ?_⟩ <;> decide +kernel

end C15

namespace C15b

def enc (g : Nat) (d : Dev) := setAll ((((d.setRb (Reg.ioCtl 2) 0 true).setReg (Reg.pinkFunc 96) 1).setReg (Reg.pinkFunc 97) 1)) [(Reg.encCfg 0, BitVec.ofNat 32 (g * 65536))]
def at' (t : Nat) (d : Dev) := { d with time := { d.time with tclk := t } }
def coinc (i : Nat) (d : Dev) := setAll (d.setRb (Reg.ioCtl 0) i true) [(Reg.cioCoinCfg i, BitVec.ofNat 32 (2 * 4 + 5 * 16384)),
    (Reg.cioCoinGap i, 1)]
def adc (lo hi : Nat) (d : Dev) := setAll (d.setRb (Reg.ioCtl 1) 3 true) [(Reg.adcChWin 3, f2 lo hi)]
def w (k v : Nat) (d : Dev) := setAll (d.setRb (Reg.ioCtl 0) (16 + k) true) [(Reg.cioTo k, BitVec.ofNat 32 v)]
def stz15b_1 : List Dev := [d0, (at' 20000 (enc 5 d0)).setLevel 96 true, ((at' 20000 (enc 5 d0)).setLevel 97 true).setDec 0 ⟨0,
    some 19999, none, false⟩,  ((at' 20000 (enc 5 d0)).setLevel 97 true).setDec 0 ⟨0, some 1, some (3,5,none), false⟩, adc 100 200 d0,
    adc 0 4095 d0, at' 20000 (coinc 1 d0), at' 40000 (coinc 1 d0), at' 90000 (coinc 9 (coinc 1 d0)), at' 100000 (coinc 9 d0),
    (coinc 1 d0).setCoin 1 ⟨some 5, false, none⟩, w 2 0 d0, w 3 (1 + 1024) d0, w 3 1 d0]

theorem wit_InputsMeasured :
    ((WriteOk (Tests.w stz15b_1 0) Src.game (Reg.encCnt 0)) ∧ ((Tests.w stz15b_1 0).dev.owns (masterOf Src.game) (96 + 2 * 0) = true)) ∧
    (2 ^ 1 ≤ [4, 5].length) ∧
    (((Tests.w stz15b_1 0).dev.watchFlag 1 0 = false) ∧
        ((Tests.w stz15b_1 0).dev.lf (Reg.cioCoinCfg 0) 13 2 * 10000 ≤ (Tests.w stz15b_1 0).dev.time.tclk - 0) ∧
        ((Tests.w stz15b_1 0).dev.time.tclk - 0 ≤ (Tests.w stz15b_1 0).dev.lf (Reg.cioCoinCfg 0) 25 14 * 10000) ∧
        (∀ (f : Nat), none = some f → (Tests.w stz15b_1 0).dev.lf (Reg.cioCoinGap 0) 11 0 * 10000 ≤ 0 - f)) ∧
    (((Tests.w stz15b_1 1).dev.ioOn sbEnc 0 = true) ∧ ((Tests.w stz15b_1 1).dev.encPhase 0 ≠ ((Tests.w stz15b_1 1).dev.dec 0).phase) ∧
        (∀ (x : Nat × Word × Option Nat), ((Tests.w stz15b_1 1).dev.dec 0).edge = some x → x.fst ≠ (Tests.w stz15b_1 1).dev.time.tclk) ∧ (∀ (l : Nat), ((Tests.w stz15b_1 1).dev.dec 0).last = some l → (Tests.w stz15b_1 1).dev.lf (Reg.encCfg 0) 31 16 ≤ (Tests.w stz15b_1 1).dev.time.tclk - l)) ∧
    (((Tests.w stz15b_1 1).dev.watchFlag 1 0 = false) ∧
        ((Tests.w stz15b_1 1).dev.lf (Reg.cioCoinCfg 0) 13 2 * 10000 ≤ (Tests.w stz15b_1 1).dev.time.tclk - 0) ∧
        ((Tests.w stz15b_1 1).dev.lf (Reg.cioCoinCfg 0) 25 14 * 10000 < (Tests.w stz15b_1 1).dev.time.tclk - 0)) ∧
    (((Tests.w stz15b_1 2).dev.ioOn sbEnc 0 = true) ∧ ((Tests.w stz15b_1 2).dev.encPhase 0 ≠ ((Tests.w stz15b_1 2).dev.dec 0).phase) ∧
        (∀ (x : Nat × Word × Option Nat), ((Tests.w stz15b_1 2).dev.dec 0).edge = some x → x.fst ≠ (Tests.w stz15b_1 2).dev.time.tclk) ∧ (((Tests.w stz15b_1 2).dev.dec 0).last = some 19999) ∧ ((Tests.w stz15b_1 2).dev.time.tclk - 19999 < (Tests.w stz15b_1 2).dev.lf (Reg.encCfg 0) 31 16) ∧ (((Tests.w stz15b_1 2).dev.dec 0).told = false)) ∧
    (((Tests.w stz15b_1 4).dev.clocked = true) ∧ ((Tests.w stz15b_1 4).dev.adcChannel = some 3) ∧
        ((Tests.w stz15b_1 4).dev.lf (Reg.adcChCfg 3) 2 0 = 0) ∧
        ((decide ((0#12).toNat < (Tests.w stz15b_1 4).dev.lf (Reg.adcChWin 3) 11 0) || decide ((Tests.w stz15b_1 4).dev.lf (Reg.adcChWin 3) 27 16 < (0#12).toNat)) = true) ∧ ((Tests.w stz15b_1 4).dev.rb (Reg.adcChVal 3) 12 = false)) ∧
    (((Tests.w stz15b_1 6).dev.watchFlag 1 1 = false) ∧ some 0 = some 0 ∧
        ((Tests.w stz15b_1 6).dev.lf (Reg.cioCoinCfg 1) 13 2 * 10000 ≤ (Tests.w stz15b_1 6).dev.time.tclk - 0) ∧
        ((Tests.w stz15b_1 6).dev.time.tclk - 0 ≤ (Tests.w stz15b_1 6).dev.lf (Reg.cioCoinCfg 1) 25 14 * 10000) ∧
        (0 - 0 < (Tests.w stz15b_1 6).dev.lf (Reg.cioCoinGap 1) 11 0 * 10000)) ∧
    (((Tests.w stz15b_1 6).dev.watchFlag 1 1 = false) ∧
        ((Tests.w stz15b_1 6).dev.time.tclk - 1 < (Tests.w stz15b_1 6).dev.lf (Reg.cioCoinCfg 1) 13 2 * 10000)) ∧
    (((Tests.w stz15b_1 10).dev.clocked = true) ∧ ((Tests.w stz15b_1 10).dev.ioOn sbCio 1 = true) ∧
        (((Tests.w stz15b_1 10).dev.coin 1).start ≠ none) ∧ (((Tests.w stz15b_1 10).dev.coin 1).long = false)) ∧
    (((Tests.w stz15b_1 11).dev.clocked = true) ∧ ((Tests.w stz15b_1 11).dev.ioOn sbCio (16 + 2) = true) ∧
        ((Tests.w stz15b_1 11).dev.rb Reg.cioTostat 2 = false) ∧
        ((Tests.w stz15b_1 11).dev.lb (Reg.cioTo 2) 0 = false ∨ (Tests.w stz15b_1 11).dev.stuck 2 = true)) := by
  refine ⟨?_, ?_, ?_, ?_, ?_, ?_, ?_, ?_, ?_, ?_, ?_⟩ <;> decide +kernel

end C15b

namespace C15c

def ok : Dev := setAll d0 ([(Reg.drvWin, 3), (Reg.drvPwm, 50), (Reg.drvBudget, 500)] ++ (List.range 16).map (fun i => (Reg.adcChWin i,
    f2 0 100)) ++ (List.range 12).map (fun i => (Reg.cioCoinCfg i, 5 * 16384)) ++ (List.range 8).flatMap (fun i => [(Reg.ledTim i,
    BitVec.ofNat 32 (1 + 2 * 256 + 3 * 65536)), (Reg.ledCfg i, f2 4 5000)]) ++ (List.range 4).map (fun i => (Reg.uaBaud i, 600)))
def on (l : List (Nat × Nat)) (d : Dev) := l.foldl (fun d e => d.setRb (Reg.ioCtl e.1) e.2 true) d
def all8 := on [(0,1),(1,2),(2,3),(3,0),(4,1),(5,1),(6,0),(6,1),(7,1),(7,0),(5,0)] ok
def ua (q : UartSt) (d : Dev) := d.setUa 0 q
def stz15c_1 : List Dev := [d0, ok, all8, ((all8.setReg (Reg.pinOwn 64) 4).setReg (Reg.pinOwn 112) 4).setReg (Reg.pinOwn 120) 4,
    ua ⟨List.replicate 64 3, List.replicate 64 (4,true,false), some 7⟩ all8, ua ⟨List.replicate 63 3, [(4,true,false)], none⟩ all8,
    ua ⟨[], [(4,true,false)], some 7⟩ all8, (all8.setSpi 0 ⟨[1,2,3,4,5], [7], some 2⟩).setI2c 1 (some 0x0780),
    (all8.setI2c 1 (some 0x30000)), all8.setI2c 0 (some 0x1F80), all8.setRb (Reg.ledStat 1) 0 true]

theorem wit_PortsAndStringsRun :
    ((WriteOk (w stz15c_1 0) Src.game (Reg.ioCtl 0)) ∧
        (List.filter (fun (i : Nat) => bit (1#32) i != (w stz15c_1 0).dev.ioOn 0 i) (ioInstances 0) = [0]) ∧
        ((match ioPin 0 0 with | some k => (w stz15c_1 0).dev.owns (masterOf Src.game) k | none => true) = true) ∧
        (bit (1#32) 0 = true) ∧ ((w stz15c_1 0).dev.ioCheck 0 0 ≠ 0)) ∧
    ((WriteOk (w stz15c_1 0) Src.game (Reg.ioCtl 1)) ∧
        (List.filter (fun (i : Nat) => bit (1#32) i != (w stz15c_1 0).dev.ioOn 1 i) (ioInstances 1) = [0]) ∧
        ((match ioPin 1 0 with | some k => (w stz15c_1 0).dev.owns (masterOf Src.game) k | none => true) = true) ∧
        (bit (1#32) 0 = true) ∧ ((w stz15c_1 0).dev.ioCheck 1 0 = 0)) ∧
    ((WriteOk (w stz15c_1 0) Src.game (Reg.uaData 0)) ∧ ((w stz15c_1 0).dev.owns (masterOf Src.game) (120 + 2 * 0) = true) ∧
        (((w stz15c_1 0).dev.ua 0).tx.length < 64)) ∧
    ((ReadOk (w stz15c_1 0) Src.game (Reg.uaData 0)) ∧ (((w stz15c_1 0).dev.ua 0).rx = [])) ∧
    ((WriteOk (w stz15c_1 0) (Src.lp 1) (Reg.ioCtl 0)) ∧
        (List.filter (fun (i : Nat) => bit (1#32) i != (w stz15c_1 0).dev.ioOn 0 i) (ioInstances 0) = [0]) ∧
        ((match ioPin 0 0 with | some k => (w stz15c_1 0).dev.owns (masterOf (Src.lp 1)) k | none => true) = false)) ∧
    ((WriteOk (w stz15c_1 2) Src.game (Reg.ioCtl 0)) ∧
        (List.filter (fun (i : Nat) => bit (0#32) i != (w stz15c_1 2).dev.ioOn 0 i) (ioInstances 0) = [1]) ∧
        ((match ioPin 0 1 with | some k => (w stz15c_1 2).dev.owns (masterOf Src.game) k | none => true) = true) ∧
        (bit (0#32) 1 = false)) ∧
    ((WriteOk (w stz15c_1 2) Src.game (Reg.ioCommit 0)) ∧ 1 ∈ ioInstances 0 ∧ ((w stz15c_1 2).dev.ioOn 0 1 = true) ∧
        (∀ (j : Nat), j ∈ ioInstances 0 → (w stz15c_1 2).dev.ioOn 0 j = true → (w stz15c_1 2).dev.ioCheck 0 j = 0 ∧
        (5 ≤ 0 → (w stz15c_1 2).dev.portBusy 0 j = false))) ∧
    ((WriteOk (w stz15c_1 2) Src.game (Reg.ioCommit 3)) ∧ 0 ∈ ioInstances 3 ∧ ((w stz15c_1 2).dev.ioOn 3 0 = true)) ∧
    ((WriteOk (w stz15c_1 2) Src.game (Reg.ioCommit 4)) ∧ 1 ∈ ioInstances 4 ∧ ((w stz15c_1 2).dev.ioOn 4 1 = true)) ∧
    (((w stz15c_1 2).dev.clocked = true) ∧ ((w stz15c_1 2).dev.ioOn sbUa 0 = true) ∧ (((w stz15c_1 2).dev.ua 0).rx.length < 64)) ∧
    ((WriteOk (w stz15c_1 2) Src.game (Reg.spiCmd 0)) ∧ ((w stz15c_1 2).dev.ioOn sbSpi 0 = true) ∧
        (((w stz15c_1 2).dev.spi 0).cmd = none) ∧ (fld (0#32) 15 0 = 0)) ∧
    ((WriteOk (w stz15c_1 2) Src.game (Reg.i2cCmd 0)) ∧ ((w stz15c_1 2).dev.ioOn sbI2c 0 = true) ∧ ((w stz15c_1 2).dev.i2c 0 = none)) ∧
    ((WriteOk (w stz15c_1 2) Src.game (Reg.spiCmd 0)) ∧ ((w stz15c_1 2).dev.ioOn sbSpi 0 = true) ∧
        (((w stz15c_1 2).dev.spi 0).cmd = none) ∧ (fld (1#32) 15 0 ≠ 0)) ∧
    ((WriteOk (w stz15c_1 4) Src.game (Reg.uaData 0)) ∧ ((w stz15c_1 4).dev.owns (masterOf Src.game) (120 + 2 * 0) = true) ∧
        (64 ≤ ((w stz15c_1 4).dev.ua 0).tx.length)) ∧
    (((w stz15c_1 4).dev.clocked = true) ∧ ((w stz15c_1 4).dev.ioOn sbUa 0 = true) ∧ (64 ≤ ((w stz15c_1 4).dev.ua 0).rx.length)) ∧
    (((w stz15c_1 4).dev.clocked = true) ∧ (((w stz15c_1 4).dev.ua 0).busy = some 7#8)) ∧
    ((ReadOk (w stz15c_1 5) Src.game (Reg.uaData 0)) ∧ (((w stz15c_1 5).dev.ua 0).rx = [(4#8, true, false)])) ∧
    (((w stz15c_1 7).dev.clocked = true) ∧ (((w stz15c_1 7).dev.spi 0).cmd = some 2#32)) ∧
    (((w stz15c_1 7).dev.clocked = true) ∧ ((w stz15c_1 7).dev.i2c 1 = some 1920#32) ∧ (bit (1920#32) 7 = true)) ∧
    (((w stz15c_1 8).dev.clocked = true) ∧ ((w stz15c_1 8).dev.i2c 1 = some 196608#32) ∧ (bit (196608#32) 7 = false)) ∧
    (((w stz15c_1 10).dev.clocked = true) ∧ ((w stz15c_1 10).dev.rb (Reg.ledStat 1) 0 = true)) := by
  refine ⟨?_, ?_, ?_, ?_, ?_, ?_, ?_, ?_, ?_, ?_, ?_, ?_, ?_, ?_, ?_, ?_, ?_, ?_, ?_, ?_, ?_⟩ <;> decide +kernel

end C15c

namespace C17

def lga (op w inc : Nat) (d : Dev) := setAll d [(Reg.ptPerm 24 0, 0xFFFFFFFF), (Reg.lgLpaddr 0,
    BitVec.ofNat 32 (w + op * 65536 + inc * 2^31)), (Reg.lgLpaddr 1, BitVec.ofNat 32 (w + op * 65536 + inc * 2^31))]
def grant (d : Dev) := setAll d [(Reg.ptPerm 4 0, 0xFFFFFFFF)]
def ini (d : Dev) := d.writeBytes 18 1 36 [0xFF,0xFF,0xFF,0xFE]
def lrun : LgRun := ⟨none, 3, 4, ⟨0,0,0⟩, 5, 6⟩
def rn (q st : List LgWrite) (d : Dev) := d.setLg { d.lg with run := some lrun, queue := q, stalled := st }
def opsS : List Dev := [0,1,2].flatMap (fun op => [lga op 9 1 (grant (ini d0)), lga op 32767 1 (ini d0),
    (lga op 9 0 (grant (ini d0))).setRb Reg.lgStat 2 true, rn [] [] (lga op 9 1 (grant d0)),
    rn (List.replicate 256 ⟨3,9,2,1⟩) [⟨4,9,0,1⟩] (lga op 32767 1 (grant d0))])
def st (l : List LgWrite) (d : Dev) := d.setLg { d.lg with stalled := l }
def stz17_1 : List Dev := (opsS ++ [st [⟨2, 9, 1, 0xFFFFFFFF⟩] (grant (ini d0)), st [⟨3, 9, 2, 0xFFFFFFFF⟩,⟨3, 9, 2,
    0xFFFFFFFF⟩] (grant (ini d0)), st [⟨3, 32767, 0, 0xFFFFFFFF⟩,⟨2, 9, 1, 0xFFFFFFFF⟩] (ini d0), st [⟨2, 9, 1,
    0xFFFFFFFF⟩] (lga 0 9 1 (grant (ini d0)))])
def stz17_2 : List Dev := [0x02000000, 0x02000040,0x03000080,0x04000000,0x01000000].flatMap (fun p => [0,1,2,3,7].flatMap (fun sl => [0,1,5,7].flatMap (fun sk => [0,9].map (fun sq => let d := setAll (d0.setRb Reg.pwrStrap 3 true) [(Reg.asLgpart, BitVec.ofNat 32 p), (Reg.lgSlot, BitVec.ofNat 32 sl), (Reg.lgSeq, BitVec.ofNat 32 sq)]; d.setLg { d.lg with skip := sk }))))

theorem wit_LedgerWordsChange :
    ((WriteOk (w stz17_1 0) (Src.lp 0) (Reg.lgLpdata 0)) ∧ ((w stz17_1 0).dev.rf (Reg.lgLpaddr 0) 17 16 = 0) ∧
        ((w stz17_1 0).dev.lgMay (2 + 0) ((w stz17_1 0).dev.rf (Reg.lgLpaddr 0) 14 0) true = true) ∧
        ((w stz17_1 0).dev.rb Reg.lgStat 2 = false) ∧ ((w stz17_1 0).dev.lg.run = none) ∧ ((w stz17_1 0).dev.flipArmed 18 = false) ∧
        (¬(0 = 18 ∧ 4 * (w stz17_1 0).dev.rf (Reg.lgLpaddr 0) 14 0 ≤ 0 ∧ 0 < 4 * (w stz17_1 0).dev.rf (Reg.lgLpaddr 0) 14 0 + 4))) ∧
    ((ReadOk (w stz17_1 0) (Src.lp 0) (Reg.lgLpdata 0)) ∧
        ((w stz17_1 0).dev.lgMay (2 + 0) ((w stz17_1 0).dev.rf (Reg.lgLpaddr 0) 14 0) false = true)) ∧
    ((WriteOk (w stz17_1 1) (Src.lp 0) (Reg.lgLpdata 0)) ∧ ((w stz17_1 1).dev.rf (Reg.lgLpaddr 0) 17 16 = 0) ∧
        ((w stz17_1 1).dev.lgMay (2 + 0) ((w stz17_1 1).dev.rf (Reg.lgLpaddr 0) 14 0) true = false)) ∧
    ((ReadOk (w stz17_1 1) (Src.lp 0) (Reg.lgLpdata 0)) ∧
        ((w stz17_1 1).dev.lgMay (2 + 0) ((w stz17_1 1).dev.rf (Reg.lgLpaddr 0) 14 0) false = false)) ∧
    ((WriteOk (w stz17_1 2) (Src.lp 0) (Reg.lgLpdata 0)) ∧ ((w stz17_1 2).dev.rf (Reg.lgLpaddr 0) 17 16 = 0) ∧
        ((w stz17_1 2).dev.lgMay (2 + 0) ((w stz17_1 2).dev.rf (Reg.lgLpaddr 0) 14 0) true = true) ∧
        ((w stz17_1 2).dev.rb Reg.lgStat 2 = true)) ∧
    ((WriteOk (w stz17_1 3) (Src.lp 0) (Reg.lgLpdata 0)) ∧ ((w stz17_1 3).dev.rf (Reg.lgLpaddr 0) 17 16 = 0) ∧
        ((w stz17_1 3).dev.lgMay (2 + 0) ((w stz17_1 3).dev.rf (Reg.lgLpaddr 0) 14 0) true = true) ∧
        ((w stz17_1 3).dev.rb Reg.lgStat 2 = false) ∧ ((w stz17_1 3).dev.lg.run ≠ none) ∧ ((w stz17_1 3).dev.lg.queue.length < 256)) ∧
    ((WriteOk (w stz17_1 4) (Src.lp 0) (Reg.lgLpdata 0)) ∧ ((w stz17_1 4).dev.rf (Reg.lgLpaddr 0) 17 16 = 0) ∧
        ((w stz17_1 4).dev.lgMay (2 + 0) ((w stz17_1 4).dev.rf (Reg.lgLpaddr 0) 14 0) true = true) ∧
        ((w stz17_1 4).dev.rb Reg.lgStat 2 = false) ∧ ((w stz17_1 4).dev.lg.run ≠ none) ∧ (256 ≤ (w stz17_1 4).dev.lg.queue.length)) ∧
    (((w stz17_1 15).dev.clocked = true) ∧ ((w stz17_1 15).dev.lg.stalled = [LgWrite.mk 2 9 1 4294967295]) ∧
        ((w stz17_1 15).dev.lg.run = none) ∧ ((w stz17_1 15).dev.rb Reg.lgStat 2 = false) ∧ ((w stz17_1 15).dev.flipArmed 18 = false) ∧
        ((LgWrite.mk 2 9 1 4294967295).word < 32768)) := by
  refine ⟨?_, ?_, ?_, ?_, ?_, ?_, ?_, ?_⟩ <;> decide +kernel

theorem wit_NewestSlotNeverErased :
    (((wd stz17_2 0).lgPresent = true)) ∧
    (((wd stz17_2 1).lgPresent = true) ∧ ((wd stz17_2 1).rf Reg.lgSeq 31 0 ≠ 0) ∧
        ((wd stz17_2 1).rf Reg.lgSlot 3 0 ∈ (wd stz17_2 1).lgBlocks)) := by
  refine ⟨?_, ?_⟩ <;> decide +kernel

end C17

namespace C17b

def cw (op x : Nat) := mkD [(0,1,op),(12,2,9),(16,1,x)]
def lset (d : Dev) := setAll (d.setRb Reg.pwrStrap 3 true) [(Reg.asLgpart, 0x02000000), (Reg.lgHcap, 4700), (Reg.lgHdiv, 5000),
    (Reg.lgHvmin, 5000), (Reg.lgHpwr, 10), (Reg.asGeom, 2)]
def lon (d : Dev) := ((lset d).setRb Reg.lgCtl 0 true).setRb Reg.asCtl 0 true
def rg (w : Desc) (d : Dev) := rung 2 7 0 [w] d
def lrun : LgRun := ⟨some (2, 0, cw 0x60 0), 1, 4, ⟨0,0,0⟩, 5, 6⟩
def issued (w : Desc) (d : Dev) := d.setRing 2 { d.ring 2 with issue := [(0, none), (2, none)] }
def stz17b_1 : List Dev := [rg (cw 0x60 0) (lset d0), rg (cw 0x60 0) (lon d0), rg (cw 0x61 0) (lon d0),
    (issued (cw 0x60 0) (lon d0)).setLg { (lon d0).lg with run := some lrun, skip := 2 },
    ((lon d0)).setLg { (lon d0).lg with run := some {lrun with from' := none}, skip := 2 }]

theorem wit_LedgerCommits :
    (((w stz17b_1 0).dev.clocked = true) ∧ ((w stz17b_1 0).dev.front 2 [96] = some (0, cw 96 0)) ∧ ((w stz17b_1 0).dev.lg.run = none) ∧
        (lgClean (cw 96 0) = true) ∧ ((w stz17b_1 0).dev.lgStep1 ≠ 0)) ∧
    (((w stz17b_1 1).dev.clocked = true) ∧ ((w stz17b_1 1).dev.front 2 [96] = some (0, cw 96 0)) ∧ ((w stz17b_1 1).dev.lg.run = none) ∧
        (lgClean (cw 96 0) = true) ∧ ((w stz17b_1 1).dev.lgStep1 = 0) ∧
        (holdupOk (holdupVolt (0#12).toNat ((w stz17b_1 1).dev.lf Reg.lgHdiv 15 0)) ((w stz17b_1 1).dev.lf Reg.lgHcap 19 0) ((w stz17b_1 1).dev.lf Reg.lgHvmin 15 0) ((w stz17b_1 1).dev.lf Reg.lgHpwr 19 0) = false) ∧ (holdupVolt (0#12).toNat ((w stz17b_1 1).dev.lf Reg.lgHdiv 15 0) < 65536)) ∧
    (((w stz17b_1 1).dev.clocked = true) ∧ ((w stz17b_1 1).dev.front 2 [96] = some (0, cw 96 0)) ∧ ((w stz17b_1 1).dev.lg.run = none) ∧
        (lgClean (cw 96 0) = true) ∧ ((w stz17b_1 1).dev.lgStep1 = 0) ∧
        (holdupOk (holdupVolt (4000#12).toNat ((w stz17b_1 1).dev.lf Reg.lgHdiv 15 0)) ((w stz17b_1 1).dev.lf Reg.lgHcap 19 0) ((w stz17b_1 1).dev.lf Reg.lgHvmin 15 0) ((w stz17b_1 1).dev.lf Reg.lgHpwr 19 0) = true) ∧ (holdupVolt (4000#12).toNat ((w stz17b_1 1).dev.lf Reg.lgHdiv 15 0) < 65536)) ∧
    (((w stz17b_1 2).dev.clocked = true) ∧ ((w stz17b_1 2).dev.front 2 [97] = some (0, cw 97 0)) ∧ (lgClean (cw 97 0) = true) ∧
        (holdupVolt (0#12).toNat ((w stz17b_1 2).dev.lf Reg.lgHdiv 15 0) < 65536)) ∧
    (((w stz17b_1 3).dev.clocked = true) ∧ ((w stz17b_1 3).dev.lg.run = some lrun) ∧ ((w stz17b_1 3).dev.lg.emerg = false) ∧
        ((w stz17b_1 3).dev.lg.apply = false) ∧ ((w stz17b_1 3).dev.lg.queue = [])) := by
  refine ⟨?_, ?_, ?_, ?_, ?_⟩ <;> decide +kernel

end C17b

namespace C17c

def sl (b sq : Nat) (v : Bool) : SlotImage := ⟨BitVec.ofNat 4 b, BitVec.ofNat 32 sq, v, [1,2,3]⟩
def lset (d : Dev) := setAll (d.setRb Reg.pwrStrap 3 true) [(Reg.ptPerm 24 0, 0xFFFFFFFF), (Reg.asLgpart, 0x02000000), (Reg.lgHcap,
    4700), (Reg.lgHdiv, 5000), (Reg.lgHvmin, 5000), (Reg.lgHpwr, 10), (Reg.asGeom, 2)]
def lon (d : Dev) := (((lset d).setRb Reg.lgCtl 0 true).setRb Reg.asCtl 0 true).setRb Reg.lgStat 3 true
def lrun : LgRun := ⟨some (2, 0, mkD []), 1, 4, ⟨0,0,0⟩, 5, 6⟩
def dirty (d : Dev) := d.setRb Reg.lgStat 1 true
def rn (d : Dev) := d.setLg { d.lg with run := some lrun }
def stz17c_1 : List Dev := [d0, lset d0, (lset d0).setRb Reg.pwrStat 0 true, lon d0, dirty (lon d0), rn (dirty (lon d0)),
    dirty ((lon d0).setRb Reg.lgCtl 0 false), rn (lon d0), (lon d0).setReg Reg.lgHcap 0, d0.setRb Reg.pwrStat 0 true,
    (lon d0).setRb Reg.lgStat 3 false]

theorem wit_LedgerSealsAndRestores :
    (((w stz17c_1 0).dev.power < 2) ∧ ((w stz17c_1 0).dev.frozen = false) ∧ ((w stz17c_1 0).dev.rb Reg.lgStat 3 = true) ∧
        ((w stz17c_1 0).dev.rb Reg.lgCtl 0 = false ∨ (w stz17c_1 0).dev.rb Reg.lgStat 1 = false)) ∧
    (((w stz17c_1 0).dev.power ≠ 3)) ∧
    ((WriteOk (w stz17c_1 0) Src.custodian Reg.lgCtl) ∧ ((w stz17c_1 0).dev.rb Reg.lgStat 3 = true)) ∧
    ((WriteOk (w stz17c_1 0) Src.custodian Reg.lgCtl) ∧ ((w stz17c_1 0).dev.rb Reg.lgCtl 0 = false) ∧ ((w stz17c_1 0).dev.lgCheck ≠ 0)) ∧
    ((WriteOk (w stz17c_1 1) Src.custodian Reg.lgCtl) ∧ ((w stz17c_1 1).dev.rb Reg.lgCtl 0 = false) ∧
        ((w stz17c_1 1).dev.lgCheck = 0) ∧ ((w stz17c_1 1).dev.lg.run = none)) ∧
    (((w stz17c_1 2).dev.clocked = true) ∧ ((w stz17c_1 2).dev.fnReady 0 = true) ∧ ((w stz17c_1 2).dev.fnReady 1 = false) ∧
        ((w stz17c_1 2).dev.flipArmed 18 = false) ∧ ((w stz17c_1 2).dev.ledgerPresent = true) ∧ newestSlot [] = none) ∧
    (((w stz17c_1 2).dev.clocked = true) ∧ ((w stz17c_1 2).dev.fnReady 0 = true) ∧ ((w stz17c_1 2).dev.fnReady 1 = false) ∧
        ((w stz17c_1 2).dev.flipArmed 18 = false) ∧ ((w stz17c_1 2).dev.ledgerPresent = true) ∧
        (newestSlot [sl 0 7 true, sl 1 8 true, sl 2 9 false] = some (sl 1 8 true))) ∧
    ((WriteOk (w stz17c_1 3) Src.custodian Reg.lgCommit) ∧ ((w stz17c_1 3).dev.rb Reg.lgCtl 0 = true) ∧
        ((w stz17c_1 3).dev.lgCheck = 0) ∧ ((w stz17c_1 3).dev.lg.run = none)) ∧
    (((w stz17c_1 4).dev.power < 2) ∧ ((w stz17c_1 4).dev.frozen = false) ∧ ((w stz17c_1 4).dev.rb Reg.lgStat 3 = true) ∧
        ((w stz17c_1 4).dev.rb Reg.lgCtl 0 = true) ∧ ((w stz17c_1 4).dev.rb Reg.lgStat 1 = true) ∧ ((w stz17c_1 4).dev.lg.run = none) ∧
        ((w stz17c_1 4).dev.lgStep1 = 0)) ∧
    (((w stz17c_1 5).dev.power < 2) ∧ ((w stz17c_1 5).dev.frozen = false) ∧ ((w stz17c_1 5).dev.rb Reg.lgStat 3 = true) ∧
        ((w stz17c_1 5).dev.rb Reg.lgCtl 0 = true) ∧ ((w stz17c_1 5).dev.rb Reg.lgStat 1 = true) ∧ ((w stz17c_1 5).dev.lg.run ≠ none)) ∧
    ((WriteOk (w stz17c_1 5) Src.custodian Reg.lgCommit) ∧ ((w stz17c_1 5).dev.rb Reg.lgCtl 0 = true) ∧
        ((w stz17c_1 5).dev.lgCheck = 0) ∧ ((w stz17c_1 5).dev.lg.run ≠ none)) ∧
    ((WriteOk (w stz17c_1 8) Src.custodian Reg.lgCommit) ∧ ((w stz17c_1 8).dev.rb Reg.lgCtl 0 = true) ∧
        ((w stz17c_1 8).dev.lgCheck ≠ 0)) ∧
    (((w stz17c_1 9).dev.clocked = true) ∧ ((w stz17c_1 9).dev.fnReady 0 = true) ∧ ((w stz17c_1 9).dev.fnReady 1 = false) ∧
        ((w stz17c_1 9).dev.flipArmed 18 = false) ∧ ((w stz17c_1 9).dev.ledgerPresent = false)) ∧
    ((WriteOk (w stz17c_1 10) Src.custodian Reg.lgCtl) ∧ ((w stz17c_1 10).dev.rb Reg.lgStat 3 = false)) := by
  refine ⟨?_, ?_, ?_, ?_, ?_, ?_, ?_, ?_, ?_, ?_, ?_, ?_, ?_, ?_⟩ <;> decide +kernel

end C17c

namespace C18

def gst (st : Nat) (m : Bool) (x : Nat) (d : Dev) := ((setAll (d.setRb Reg.clkStat 7 true) [(Reg.glCfg,
    BitVec.ofNat 32 (1 + 5 * 256 + 3 * 2^18 * 0))]).setRb Reg.glCtl 0 true).setReg Reg.glStat (BitVec.ofNat 32 (st + 8 * b2n m + x))
def sched : Nat := 2^14
def sts : List Dev := [d0, d0.setRb Reg.clkStat 7 true, gst 1 false 0 d0, gst 1 true sched d0, gst 2 true 0 d0, gst 3 false sched d0,
    gst 3 true sched d0, gst 2 false 0 d0, (gst 4 true 0 d0).setGl { d0.gl with conflict := true },
    setAll (gst 3 false 0 d0) [(Reg.glCfg, 0)]]
def stz18_1 : List Dev := sts

theorem wit_LinkElectsAndTrains :
    ((WriteOk (w stz18_1 0) Src.game Reg.glCtl) ∧ ((w stz18_1 0).dev.rb Reg.glCtl 0 = false) ∧ ((w stz18_1 0).dev.glCheck false ≠ 0)) ∧
    ((WriteOk (w stz18_1 1) Src.game Reg.glCtl) ∧ ((w stz18_1 1).dev.rb Reg.glCtl 0 = false) ∧ ((w stz18_1 1).dev.glCheck false = 0)) ∧
    ((WriteOk (w stz18_1 2) Src.game Reg.glCtl) ∧ ((w stz18_1 2).dev.rb Reg.glCtl 0 = true)) ∧
    ((WriteOk (w stz18_1 2) Src.game Reg.glCommit) ∧ ((w stz18_1 2).dev.rb Reg.glCtl 0 = true)) ∧
    (((w stz18_1 2).dev.clocked = true) ∧ ((w stz18_1 2).dev.glState = 1) ∧ ((w stz18_1 2).dev.lb Reg.glCfg 0 = true) ∧
        ((w stz18_1 2).dev.gl.silent = false)) ∧
    (((w stz18_1 2).dev.clocked = true) ∧ ((w stz18_1 2).dev.glState ≠ 0) ∧ ((w stz18_1 2).dev.lb Reg.glCfg 0 = true) ∧
        ((0#8).toNat < (w stz18_1 2).dev.lf Reg.glCfg 15 8)) ∧
    (((w stz18_1 2).dev.clocked = true) ∧ ((w stz18_1 2).dev.glState ≠ 0) ∧ ((w stz18_1 2).dev.lb Reg.glCfg 0 = true) ∧
        ((5#8).toNat = (w stz18_1 2).dev.lf Reg.glCfg 15 8) ∧ ((w stz18_1 2).dev.glState = 1)) ∧
    (((w stz18_1 2).dev.clocked = true) ∧ ((w stz18_1 2).dev.glState ≠ 0) ∧ ((w stz18_1 2).dev.lb Reg.glCfg 0 = true) ∧
        ((w stz18_1 2).dev.lf Reg.glCfg 15 8 < (65#8).toNat)) ∧
    (((w stz18_1 2).dev.clocked = true) ∧ ((w stz18_1 2).dev.glState ≠ 0) ∧ ((w stz18_1 2).dev.glMaster = false)) ∧
    ((WriteOk (w stz18_1 3) Src.game Reg.glCtl) ∧ ((w stz18_1 3).dev.rb Reg.glCtl 0 = true) ∧ ((w stz18_1 3).dev.glState ≠ 0) ∧
        ((w stz18_1 3).dev.gl.conflict = false) ∧ ((w stz18_1 3).dev.glMaster = true)) ∧
    (((w stz18_1 4).dev.clocked = true) ∧ ((w stz18_1 4).dev.glState = 2) ∧ ((w stz18_1 4).dev.glMaster = true) ∧
        ((w stz18_1 4).dev.gl.ready = false) ∧ ((w stz18_1 4).dev.glPeriod = some 10000) ∧
        (1000 + 0 + 8 * (11 + (0 + 1) * (8 * (3 + 1) + 2)) ≤ 10000) ∧
        (3 = 3 ∨ 10000 < 1000 + 0 + 8 * (11 + (0 + 1) * (8 * (3 + 2) + 2)))) ∧
    (((w stz18_1 4).dev.clocked = true) ∧ ((w stz18_1 4).dev.glState = 2) ∧ ((w stz18_1 4).dev.glMaster = true) ∧
        ((w stz18_1 4).dev.gl.ready = false) ∧ ((w stz18_1 4).dev.glPeriod = some 10000) ∧
        (1000 + 10000 + 8 * (11 + (0 + 1) * 10) > 10000)) ∧
    (((w stz18_1 4).dev.clocked = true) ∧ ((w stz18_1 4).dev.glState = 2) ∧ ((w stz18_1 4).dev.glMaster = true) ∧
        ((w stz18_1 4).dev.gl.ready = false) ∧ ((w stz18_1 4).dev.glPeriod = some 10000)) ∧
    ((WriteOk (w stz18_1 5) Src.game Reg.glCtl) ∧ ((w stz18_1 5).dev.rb Reg.glCtl 0 = true) ∧ ((w stz18_1 5).dev.glState ≠ 0) ∧
        ((w stz18_1 5).dev.gl.conflict = false) ∧ ((w stz18_1 5).dev.glMaster = false) ∧ ((w stz18_1 5).dev.glState = 3)) ∧
    (((w stz18_1 7).dev.clocked = true) ∧ ((w stz18_1 7).dev.glState = 2) ∧ ((w stz18_1 7).dev.glMaster = false)) ∧
    ((WriteOk (w stz18_1 8) Src.game Reg.glCtl) ∧ ((w stz18_1 8).dev.rb Reg.glCtl 0 = true) ∧ ((w stz18_1 8).dev.glState ≠ 0) ∧
        ((w stz18_1 8).dev.gl.conflict = true)) ∧
    (((w stz18_1 9).dev.clocked = true) ∧ ((w stz18_1 9).dev.glState ≠ 0) ∧ ((w stz18_1 9).dev.lb Reg.glCfg 0 = false)) := by
  refine ⟨?_, ?_, ?_, ?_, ?_, ?_, ?_, ?_, ?_, ?_, ?_, ?_, ?_, ?_, ?_, ?_, ?_⟩ <;> decide +kernel

end C18

namespace C18b

def mkS (l : List Nat) : LinkSlot := let b := l.map (BitVec.ofNat 8); ⟨true, b, BitVec.ofNat 16 (crc16 b)⟩
def sl1 := mkS [1,2,3,4,2,3,0xAA,0xBB]
def pk0 (f m : Nat) : Packet := ⟨BitVec.ofNat 16 f, 0, 2, BitVec.ofNat 8 m, 0, [sl1, sl1, LinkSlot.none]⟩
def pk (f m : Nat) : Packet := { pk0 f m with hcrc := BitVec.ofNat 16 (crc16 (pk0 f m).head) }
def gst (st : Nat) (m : Bool) (x : Nat) (d : Dev) := ((setAll (d.setRb Reg.clkStat 7 true) [(Reg.sysTbase, 4), (Reg.glCfg,
    BitVec.ofNat 32 (1 + 5 * 256 ))]).setRb Reg.glCtl 0 true).setReg Reg.glStat (BitVec.ofNat 32 (st + 8 * b2n m + x + 16 * 1 + 256 * 2))
def sched : Nat := 2^14
def due (d : Dev) := d.setGl { d.gl with due := true }
def sts : List Dev := [gst 3 false sched d0, due (gst 3 true sched d0), gst 3 true sched d0, gst 2 false 0 d0,
    d0.setGl { d0.gl with tx := some ([], false) }, setAll d0 [(Reg.glTxdata 0, 0x11223344), (Reg.glTxdata 15, 0x55667788)],
 (gst 3 false sched d0).setGl { d0.gl with rx := List.replicate 16 (0, []) },
     (gst 3 false sched d0).setGl { d0.gl with asm := [(0, some [9])] }]
def stz18b_1 : List Dev := sts

theorem wit_LinkCarriesPackets :
    (((w stz18b_1 0).dev.clocked = true) ∧ ((w stz18b_1 0).dev.glState ≠ 0) ∧ ((w stz18b_1 0).dev.glMaster = false) ∧
        ((pk0 0 5).good = false)) ∧
    ((WriteOk (w stz18b_1 0) Src.game Reg.glTxctl) ∧ ((w stz18b_1 0).dev.gl.tx = none) ∧ (0#7 = 0 ∨ 64 < (0#7).toNat)) ∧
    ((WriteOk (w stz18b_1 0) Src.game Reg.glTxctl) ∧ ((w stz18b_1 0).dev.gl.tx = none) ∧ (0 < (1#7).toNat) ∧ ((1#7).toNat ≤ 64)) ∧
    ((WriteOk (w stz18b_1 0) Src.game Reg.glRxctl)) ∧
    ((0 < (w stz18b_1 0).dev.glNodes) ∧ (([sl1, mkS [1, 2, 3, 4, 0, 3, 0, 0], sl1].getD 0 LinkSlot.none).good = true) ∧
        (([sl1, mkS [1, 2, 3, 4, 0, 3, 0, 0], sl1].getD 0 LinkSlot.none).mlen ≠ 0) ∧
        (([sl1, mkS [1, 2, 3, 4, 0, 3, 0, 0], sl1].getD 0 LinkSlot.none).first = true) ∧
        (([sl1, mkS [1, 2, 3, 4, 0, 3, 0, 0], sl1].getD 0 LinkSlot.none).last = true) ∧ ((w stz18b_1 0).dev.gl.rx.length < 16)) ∧
    (((w stz18b_1 0).dev.clocked = true) ∧ ((w stz18b_1 0).dev.glState ≠ 0) ∧ ((w stz18b_1 0).dev.glMaster = false) ∧
        ((pk 0 5).good = true) ∧ ((w stz18b_1 0).dev.glState = 3) ∧ ((w stz18b_1 0).dev.glTimed = true) ∧
        ((w stz18b_1 0).dev.inSched = true) ∧ ((w stz18b_1 0).dev.gl.adopt = false) ∧
        ((pk 0 5).frame.toNat = (w stz18b_1 0).dev.time.frame)) ∧
    (((w stz18b_1 0).dev.clocked = true) ∧ ((w stz18b_1 0).dev.glState ≠ 0) ∧ ((w stz18b_1 0).dev.glMaster = false) ∧
        ((pk 7 5).good = true) ∧ ((w stz18b_1 0).dev.glState = 3) ∧ ((w stz18b_1 0).dev.glTimed = true) ∧
        ((w stz18b_1 0).dev.inSched = true) ∧ ((w stz18b_1 0).dev.gl.adopt = false) ∧
        ((pk 7 5).frame.toNat ≠ (w stz18b_1 0).dev.time.frame)) ∧
    (((w stz18b_1 1).dev.clocked = true) ∧ ((w stz18b_1 1).dev.glState = 3) ∧ ((w stz18b_1 1).dev.glMaster = true) ∧
        ((w stz18b_1 1).dev.gl.due = true)) ∧
    (((w stz18b_1 1).dev.clocked = true) ∧ ((w stz18b_1 1).dev.glState = 3) ∧ ((w stz18b_1 1).dev.glMaster = true) ∧
        ((pk 0 6).good = true) ∧ (BitVec.toNat (pk 0 6).mid ≠ (w stz18b_1 1).dev.lf Reg.glCfg 15 8)) ∧
    ((WriteOk (w stz18b_1 4) Src.game Reg.glTxctl) ∧ ((w stz18b_1 4).dev.gl.tx ≠ none)) ∧
    ((0 < (w stz18b_1 6).dev.glNodes) ∧ (([sl1, mkS [1, 2, 3, 4, 0, 3, 0, 0], sl1].getD 0 LinkSlot.none).good = true) ∧
        (([sl1, mkS [1, 2, 3, 4, 0, 3, 0, 0], sl1].getD 0 LinkSlot.none).mlen ≠ 0) ∧
        (([sl1, mkS [1, 2, 3, 4, 0, 3, 0, 0], sl1].getD 0 LinkSlot.none).first = true) ∧
        (([sl1, mkS [1, 2, 3, 4, 0, 3, 0, 0], sl1].getD 0 LinkSlot.none).last = true) ∧ (16 ≤ (w stz18b_1 6).dev.gl.rx.length)) := by
  refine ⟨?_, ?_, ?_, ?_, ?_, ?_, ?_, ?_, ?_, ?_, ?_⟩ <;> decide +kernel

end C18b

namespace C19

def M48 : Nat := 2^48
def tm (t : Nat) (cfg stat : Nat) (k ccfg step : Nat) (q : TmrSt) (d : Dev) : Dev :=
  (setAll d [(Reg.tmrCfg t, BitVec.ofNat 32 cfg), (Reg.tmrStat t, BitVec.ofNat 32 stat), (Reg.tmrCmpCfg t k, BitVec.ofNat 32 ccfg),
      (Reg.tmrCmpStep t k, BitVec.ofNat 32 step), (Reg.pinOwn (48+t), 0)]).setTmr t q
def all19 : List Dev := [d0] ++ [0, 3, 15].flatMap (fun t => [0, 0x20000, 0x30000].flatMap (fun run => [0, 2].flatMap (fun k => [0, 5,
    M48 - 1].flatMap (fun c => [1, 4, 6, 8, 0x10, 0x17, 0x1F].map (fun cc =>
    tm t 0x21 (run + 0x100 * 2^k) k cc (if cc < 0x17 then 0 else 7) ⟨c, 0xFFFF, [(0,5),(2,5)], [(0, 0x8000), (2,0)], 0x123456789A,
        77⟩ d0)))))
  ++ [(tm 3 0x21 0x20100 0 0x17 7 ⟨5, 0, [(0,4)], [], 0, 0⟩ d0).setRf Reg.pwrState 5 4 2, tm 3 0x21 0x20100 0 0x17 7 ⟨M48, 0, [(0,4)],
      [], 0, 0⟩ d0]
def stz19_1 : List Dev := all19
def stz19_3 : List Dev := (all19.take 60 |>.drop 40) ++ all19.drop (all19.length - 3)

theorem wit_TimersCount :
    ((WriteOk (w stz19_1 0) Src.game Reg.tmrGo)) ∧
    ((WriteOk (w stz19_1 0) Src.game Reg.tmrHalt)) ∧
    ((WriteOk (w stz19_1 0) Src.game (Reg.tmrCntLo 0)) ∧ ((w stz19_1 0).dev.owns (masterOf Src.game) (48 + 0) = true) ∧
        ((w stz19_1 0).dev.tmrOn 0 = false)) ∧
    ((ReadOk (w stz19_1 0) Src.game (Reg.tmrCntLo 0))) ∧
    ((WriteOk (w stz19_1 0) Src.game (Reg.tmrCmpLo 0 0)) ∧ ((w stz19_1 0).dev.owns (masterOf Src.game) (48 + 0) = true) ∧
        ((0#32).toNat + Tab.get (fun (x : Nat) => 0) ((w stz19_1 0).dev.tmr 0).vHi 0 * 2 ^ 32 < 2 ^ 48) ∧
        (((w stz19_1 0).dev.tmr 0).cnt < 2 ^ 48) ∧ (((0#32).toNat + Tab.get (fun (x : Nat) => 0) ((w stz19_1 0).dev.tmr 0).vHi 0 * 2 ^ 32 + 2 ^ 48 - ((w stz19_1 0).dev.tmr 0).cnt) % 2 ^ 48 = 0) ∧ ((w stz19_1 0).dev.rb (Reg.tmrCmpCfg 0 0) 4 = false)) ∧
    ((WriteOk (w stz19_1 0) Src.game (Reg.tmrCmpCfg 0 0)) ∧ ((w stz19_1 0).dev.owns (masterOf Src.game) (48 + 0) = true)) ∧
    ((ReadOk (w stz19_1 0) Src.game (Reg.tmrCaprLo 0))) ∧
    ((WriteOk (w stz19_1 0) Src.game (Reg.tmrCmpLo 0 0)) ∧ ((w stz19_1 0).dev.owns (masterOf Src.game) (48 + 0) = true) ∧
        ((1#32).toNat + Tab.get (fun (x : Nat) => 0) ((w stz19_1 0).dev.tmr 0).vHi 0 * 2 ^ 32 < 2 ^ 48) ∧
        (((w stz19_1 0).dev.tmr 0).cnt < 2 ^ 48) ∧ (0 < ((1#32).toNat + Tab.get (fun (x : Nat) => 0) ((w stz19_1 0).dev.tmr 0).vHi 0 * 2 ^ 32 + 2 ^ 48 - ((w stz19_1 0).dev.tmr 0).cnt) % 2 ^ 48) ∧ (((1#32).toNat + Tab.get (fun (x : Nat) => 0) ((w stz19_1 0).dev.tmr 0).vHi 0 * 2 ^ 32 + 2 ^ 48 - ((w stz19_1 0).dev.tmr 0).cnt) % 2 ^ 48 < 2 ^ 47)) ∧
    ((WriteOk (w stz19_1 0) (Src.lp 1) Reg.tmrGo) ∧ (bit (1#32) 0 = true) ∧
        ((fun (n : Nat) => bit (1#32) n && (w stz19_1 0).dev.owns (masterOf (Src.lp 1)) (48 + n)) 0 = false)) ∧
    ((WriteOk (w stz19_1 1) Src.game (Reg.tmrCmpLo 0 0)) ∧ ((w stz19_1 1).dev.owns (masterOf Src.game) (48 + 0) = true) ∧
        ((0#32).toNat + Tab.get (fun (x : Nat) => 0) ((w stz19_1 1).dev.tmr 0).vHi 0 * 2 ^ 32 < 2 ^ 48) ∧
        (((w stz19_1 1).dev.tmr 0).cnt < 2 ^ 48) ∧ (2 ^ 47 ≤ ((0#32).toNat + Tab.get (fun (x : Nat) => 0) ((w stz19_1 1).dev.tmr 0).vHi 0 * 2 ^ 32 + 2 ^ 48 - ((w stz19_1 1).dev.tmr 0).cnt) % 2 ^ 48) ∧ ((w stz19_1 1).dev.rb (Reg.tmrCmpCfg 0 0) 3 = false)) ∧
    (((w stz19_1 8).dev.power ≠ 3) ∧ ((w stz19_1 8).dev.cmpDue 0 0 = true) ∧
        ((w stz19_1 8).dev.rb (Reg.tmrCmpCfg 0 0) 4 = false ∨ BitVec.toNat ((w stz19_1 8).dev.reg (Reg.tmrCmpStep 0 0)) = 0)) ∧
    (((w stz19_1 9).dev.power ≠ 3) ∧ ((w stz19_1 9).dev.cmpDue 0 0 = true) ∧ ((w stz19_1 9).dev.rb (Reg.tmrCmpCfg 0 0) 2 = true)) ∧
    (((w stz19_1 13).dev.power ≠ 3) ∧ ((w stz19_1 13).dev.cmpDue 0 0 = true) ∧ ((w stz19_1 13).dev.rb (Reg.tmrCmpCfg 0 0) 4 = true) ∧
        (BitVec.toNat ((w stz19_1 13).dev.reg (Reg.tmrCmpStep 0 0)) ≠ 0)) ∧
    ((WriteOk (w stz19_1 23) Src.game (Reg.tmrCmpLo 0 2)) ∧ ((w stz19_1 23).dev.owns (masterOf Src.game) (48 + 0) = true) ∧
        ((0#32).toNat + Tab.get (fun (x : Nat) => 0) ((w stz19_1 23).dev.tmr 0).vHi 2 * 2 ^ 32 < 2 ^ 48) ∧
        (((w stz19_1 23).dev.tmr 0).cnt < 2 ^ 48) ∧ (((0#32).toNat + Tab.get (fun (x : Nat) => 0) ((w stz19_1 23).dev.tmr 0).vHi 2 * 2 ^ 32 + 2 ^ 48 - ((w stz19_1 23).dev.tmr 0).cnt) % 2 ^ 48 = 0) ∧ ((w stz19_1 23).dev.rb (Reg.tmrCmpCfg 0 2) 4 = false) ∧ ((w stz19_1 23).dev.rb (Reg.tmrCmpCfg 0 2) 2 = true)) ∧
    ((WriteOk (w stz19_1 43) Src.game (Reg.tmrCntLo 0)) ∧ ((w stz19_1 43).dev.owns (masterOf Src.game) (48 + 0) = true) ∧
        ((w stz19_1 43).dev.tmrOn 0 = true)) ∧
    (((w stz19_1 57).dev.power ≠ 3) ∧ ((w stz19_1 57).dev.counting = true) ∧ ((w stz19_1 57).dev.tmrOn 0 = true) ∧
        (((w stz19_1 57).dev.tmr 0).cnt < 2 ^ 48) ∧ (2 ^ 48 ≤ ((w stz19_1 57).dev.tmr 0).cnt + (w stz19_1 57).dev.edgeStep) ∧
        ((w stz19_1 57).dev.rb (Reg.tmrCfg 0) 5 = true)) := by
  refine ⟨?_, ?_, ?_, ?_, ?_, ?_, ?_, ?_, ?_, ?_, ?_, ?_, ?_, ?_, ?_, ?_⟩ <;> decide +kernel

theorem wit_TimersKeepTime :
    (((wd stz19_3 0).tmrOn 3 = false)) ∧
    (((wd stz19_3 21).tmrOn 3 = true) ∧ ((wd stz19_3 21).io.acc < 128) ∧ (((wd stz19_3 21).tmr 3).cnt < 2 ^ 48)) := by
  refine ⟨?_, ?_⟩ <;> decide +kernel

end C19

namespace C20

def bm : Beam := ⟨5,6,7⟩
def ps (l : List (Nat × PendSt)) (d : Dev) := l.foldl (fun d e => d.setPend e.1 e.2) d
def h0 : Dev := let d := setAll d0 [(Reg.hiCtl 0, 1), (Reg.hiEqcfg 0, 2), (Reg.hiEqcfg 1, 3), (Reg.hiEqbaseLo 0, 0x10000), (Reg.icCtl,
    1), (Reg.icSrc 40, 0x03000003 ||| 0x500), (Reg.icSrc 41, 0x03000003 ||| 0x300), (Reg.icSrc 3, 0x03030003), (Reg.icSrc 300,
    0x0303000F)]
  (d.setFn 0 { d.fn 0 with bme := true, eqCount := 3, eqHead := 3 })
def h1 := ps [(40, ⟨1, bm, true, some 0⟩), (41, ⟨2, bm, true, some 0⟩), (3, ⟨2, bm, false, none⟩)] h0
def lpw (d : Dev) := (d.setLp 0 { d.lp 0 with mode := .run, irqWait := true }).setLp 1 { d.lp 1 with mode := .run, cause := 5 }
def all20 : List Dev := [d0, h0, h1, lpw h1, (lpw h1).setRf (Reg.icWeir 3) 31 0 0x00100005, setAll (lpw h0) [(Reg.icSrc 40, 0x19)],
    setAll h0 [(Reg.icTier0, 0x0300)], setAll h0 [(Reg.icTier0, 0x0301)], setAll h0 [(Reg.icSrclock 1, 0x300)], ps [(3, ⟨65535, bm,
    true, none⟩)] (setAll h0 [(Reg.icSrclock 0, 0x9)]),
  (let d := (lpw h1).setRf (Reg.icWeir 3) 31 0 0x00100005; { d with ic := { d.ic with weir := [(3, ⟨2, 5⟩)] } }),
      setAll d0 [(Reg.icCfg, 1)], h1.setFn 0 { h1.fn 0 with eqHead := 0xFFFFFFFF }, ps [(300, ⟨3, bm, true, some 2⟩), (40, ⟨3, bm,
      true, some 2⟩)] (lpw h0), setAll (lpw h0) [(Reg.icSrc 40, 0x7 <<< 1 ||| 1), (Reg.icSrc 2, 0x19), (Reg.icSrc 1, 0xB)]]
def stz20_1 : List Dev := all20
def stz20_2 : List Dev := all20

theorem wit_EventsDelivered :
    (((w stz20_1 0).dev.rb (Reg.icSrc 0) 0 = false)) ∧
    ((WriteOk (w stz20_1 0) Src.game (Reg.icSrc 0)) ∧ eventReserved 0 = false ∧
        ((w stz20_1 0).dev.srcLocked 0 = false ∨ Src.game = Src.custodian) ∧
        ((w stz20_1 0).dev.srcCheck (masterOf Src.game) 0 0#32 = 0) ∧ (bit (0#32) 0 = false)) ∧
    ((WriteOk (w stz20_1 0) Src.game (Reg.icSrc 0)) ∧ eventReserved 0 = false ∧
        ((w stz20_1 0).dev.srcLocked 0 = false ∨ Src.game = Src.custodian) ∧
        ((w stz20_1 0).dev.srcCheck (masterOf Src.game) 0 0#32 = 0)) ∧
    ((WriteOk (w stz20_1 0) Src.game Reg.icCommit) ∧ (tiersOk (w stz20_1 0).dev.shadowTiers = true) ∧
        ((w stz20_1 0).dev.lpHolds = false)) ∧
    ((WriteOk (w stz20_1 0) Src.game (Reg.icSrc 0)) ∧ eventReserved 0 = false ∧
        ((w stz20_1 0).dev.srcLocked 0 = false ∨ Src.game = Src.custodian) ∧
        ((w stz20_1 0).dev.srcCheck (masterOf Src.game) 0 7#32 ≠ 0)) ∧
    ((WriteOk (w stz20_1 0) Src.game (Reg.icSrc 511)) ∧ eventReserved 511 = true) ∧
    (((w stz20_1 1).dev.rb (Reg.icSrc 3) 0 = true)) ∧
    (((w stz20_1 2).dev.clocked = true) ∧ ((w stz20_1 2).dev.idle 0 = true) ∧ (((w stz20_1 2).dev.pend 3).count ≠ 0) ∧
        (srcTgt ((w stz20_1 2).dev.reg (Reg.icSrc 3)) 0 = true)) ∧
    (((w stz20_1 2).dev.clocked = true) ∧ ((w stz20_1 2).dev.eventNext 0 = some 41)) ∧
    ((WriteOk (w stz20_1 3) Src.game Reg.icCommit) ∧ (tiersOk (w stz20_1 3).dev.shadowTiers = true) ∧
        ((w stz20_1 3).dev.lpHolds = true)) ∧
    ((WriteOk (w stz20_1 6) Src.game Reg.icCommit) ∧ (tiersOk (w stz20_1 6).dev.shadowTiers = false)) ∧
    ((WriteOk (w stz20_1 8) Src.game (Reg.icSrc 40)) ∧ eventReserved 40 = false ∧ ((w stz20_1 8).dev.srcLocked 40 = true) ∧
        Src.game ≠ Src.custodian) ∧
    (((w stz20_1 10).dev.clocked = true) ∧ (((w stz20_1 10).dev.weir 3).hc ≠ 0) ∧ ((w stz20_1 10).dev.rf (Reg.icWeir 3) 31 16 ≠ 0) ∧
        (((w stz20_1 10).dev.pend 3).count ≠ 0) ∧ (srcGroup ((w stz20_1 10).dev.reg (Reg.icSrc 3)) = 3)) := by
  refine ⟨?_, ?_, ?_, ?_, ?_, ?_, ?_, ?_, ?_, ?_, ?_, ?_, ?_⟩ <;> decide +kernel

theorem wit_UrgencyAndRoundRobin :
    (((wd stz20_2 2).compat = false) ∧ (((40, PendSt.mk 1 bm true (some 0)).fst, (40,
        PendSt.mk 1 bm true (some 0)).snd).snd.count ≠ 0) ∧
        (((40, PendSt.mk 1 bm true (some 0)).fst, (40, PendSt.mk 1 bm true (some 0)).snd).snd.shown = some 0)) ∧
    (((wd stz20_2 2).compat = false) ∧ (((41, PendSt.mk 2 bm true (some 0)).fst, (41,
        PendSt.mk 2 bm true (some 0)).snd).snd.count ≠ 0) ∧
        (((41, PendSt.mk 2 bm true (some 0)).fst, (41, PendSt.mk 2 bm true (some 0)).snd).snd.shown = some 0)) ∧
    (((wd stz20_2 5).compat = false) ∧ ((wd stz20_2 5).ready 2 = true) ∧ ((wd stz20_2 5).ready 3 = true) ∧
        (∀ (m : Nat), m < 6 → srcTgt ((wd stz20_2 5).reg (Reg.icSrc 40)) m = (decide (m = 2) || decide (m = 3)))) ∧
    (((wd stz20_2 13).compat = false) ∧ (((40, PendSt.mk 3 bm true (some 2)).fst, (40,
        PendSt.mk 3 bm true (some 2)).snd).snd.count ≠ 0) ∧
        (((40, PendSt.mk 3 bm true (some 2)).fst, (40, PendSt.mk 3 bm true (some 2)).snd).snd.shown = some 2)) := by
  refine ⟨?_, ?_, ?_, ?_⟩ <;> decide +kernel

end C20

namespace C21

def all21 : List Dev := [d0, setAll d0 [(Reg.ptCust, 0x90), (Reg.ptLock, 0x1)], setAll d0 [(Reg.ptVlog, 0xFFFFC000), (Reg.ptLock,
    0x10)], setAll d0 [(Reg.ptVlog, 0x00054123)], setAll d0 [(Reg.ptValid 7, 3), (Reg.ptValid 4, 3)]]
def stz21_1 : List Dev := all21

theorem wit_AccessTablesDecide :
    ((0 = 0 ∨ 128 ≤ 0 ∧ 0 < 256 ∧ 0 % 4 = 0) ∧ ((w stz21_1 0).dev.serves Src.game = true) ∧ (∀ (n : Fin 4), Src.game ≠ Src.lp n) ∧
        Src.game ≠ Src.debug ∧ (Src.game = Src.game → (w stz21_1 0).dev.rb Reg.ptCust 0 = false) ∧
        ((w stz21_1 0).dev.rb Reg.ptLock 0 = false) ∧ ((w stz21_1 0).dev.tableOk 0 0 3#32 = true)) ∧
    ((0 = 0 ∨ 128 ≤ 0 ∧ 0 < 256 ∧ 0 % 4 = 0) ∧ ((w stz21_1 0).dev.serves Src.custodian = true)) ∧
    ((0 = 0 ∨ 128 ≤ 0 ∧ 0 < 256 ∧ 0 % 4 = 0) ∧ (WriteOk (w stz21_1 0) Src.game Reg.ptVlog)) ∧
    ((0 = 0 ∨ 128 ≤ 0 ∧ 0 < 256 ∧ 0 % 4 = 0) ∧ ((w stz21_1 0).dev.rb Reg.ptVlog 14 = false)) ∧
    ((128 = 0 ∨ 128 ≤ 128 ∧ 128 < 256 ∧ 128 % 4 = 0) ∧ ((w stz21_1 0).dev.serves Src.game = true) ∧
        (∀ (n : Fin 4), Src.game ≠ Src.lp n) ∧ Src.game ≠ Src.debug ∧
        (Src.game = Src.game → (w stz21_1 0).dev.rb Reg.ptCust 0 = false) ∧ ((w stz21_1 0).dev.rb Reg.ptLock 0 = false) ∧
        ((w stz21_1 0).dev.tableOk 0 128 3#32 = false)) ∧
    ((0 = 0 ∨ 128 ≤ 0 ∧ 0 < 256 ∧ 0 % 4 = 0) ∧ ((w stz21_1 0).dev.serves Src.debug = true) ∧ (∀ (n : Fin 4), Src.debug ≠ Src.lp n) ∧
        (Src.debug = Src.debug ∨ Src.debug = Src.game ∧
        (w stz21_1 0).dev.rb Reg.ptCust 0 = true ∨ (w stz21_1 0).dev.rb Reg.ptLock 0 = true)) ∧
    ((0 = 0 ∨ 128 ≤ 0 ∧ 0 < 256 ∧ 0 % 4 = 0) ∧ ((w stz21_1 2).dev.rb Reg.ptVlog 14 = true)) := by
  refine ⟨?_, ?_, ?_, ?_, ?_, ?_, ?_⟩ <;> decide +kernel

end C21

namespace C21b

def mr (d : Dev) := (d.setRb (Reg.memCtl) 0 true).setRb Reg.memStat 0 true
def all21 : List Dev := [d0, mr d0, (mr d0), setAll (mr d0) [(Reg.ptPerm 1 0, 0), (Reg.ptPerm 2 0, 0), (Reg.ptPerm 0 0, 0),
    (Reg.ptPerm 3 0, 0)], { d0 with memc := { d0.memc with waiting := [⟨13, 4, none⟩, ⟨0, 8, none⟩] } },
  d0.setLp 1 { d0.lp 1 with io := [.rd 16 true, .rd 6 false] }]
def stz21b_1 : List Dev := all21

theorem wit_AccessesReachMemory :
    (((w stz21b_1 0).dev.serves Src.game = true) ∧ ((w stz21b_1 0).dev.admits (masterOf Src.game) (placeOf Src.game 0) true = true) ∧
        5#4 ≠ 15) ∧
    (((w stz21b_1 0).dev.serves (fnSrc 0) = true) ∧ ((w stz21b_1 0).dev.badRead (fnSrc 0) 0 = false) ∧
        ((w stz21b_1 0).dev.admits 0 (placeOf (fnSrc 0) 0) false = true)) ∧
    ((Bar.bar4 = Bar.bar2 ∧ 6 = 0 ∧ 0 = (w stz21b_1 0).dev.bar2Byte 0 ∧ 0 < 268435456 ∧ (w stz21b_1 0).dev.memReady = true ∧
        (fun (m : Nat) => ((w stz21b_1 0).dev.memc.waiting.any fun (h : HeldAccess) => decide (h.master = m)) = false) 0 ∨ Bar.bar4 = Bar.bar4 ∧ 6 = 6 ∧ 0 = 0 / 4 * 4 ∧ 0 < 67108864) ∧ (0 + 4 ≤ (w stz21b_1 0).dev.memBytes 6) ∧ ((w stz21b_1 0).dev.serves Src.game = true) ∧ ((w stz21b_1 0).dev.mayWrite 0 6 0 4 = true) ∧ 5#4 ≠ 0 ∧ ((w stz21b_1 0).dev.badAt 6 0 4 = false) ∧ ((w stz21b_1 0).dev.flipArmed 6 = false)) ∧
    ((Bar.bar4 = Bar.bar2 ∧ 6 = 0 ∧ 0 = (w stz21b_1 0).dev.bar2Byte 0 ∧ 0 < 268435456 ∧ (w stz21b_1 0).dev.memReady = true ∧
        (fun (m : Nat) => ((w stz21b_1 0).dev.memc.waiting.any fun (h : HeldAccess) => decide (h.master = m)) = false) 0 ∨ Bar.bar4 = Bar.bar4 ∧ 6 = 6 ∧ 0 = 0 / 4 * 4 ∧ 0 < 67108864) ∧ (0 + 4 ≤ (w stz21b_1 0).dev.memBytes 6) ∧ ((w stz21b_1 0).dev.serves Src.game = true) ∧ ((w stz21b_1 0).dev.mayWrite 0 6 0 4 = true) ∧ 5#4 ≠ 0 ∧ ((w stz21b_1 0).dev.badAt 6 0 4 = false) ∧ ((w stz21b_1 0).dev.flipArmed 6 = false) ∧ (0 ≠ 6 ∨ 0 < 0 ∨ 0 + 4 ≤ 0)) ∧
    ((Bar.bar4 = Bar.bar2 ∧ 6 = 0 ∧ 0 = (w stz21b_1 0).dev.bar2Byte 0 ∧ 0 < 268435456 ∧ (w stz21b_1 0).dev.memReady = true ∧
        (fun (m : Nat) => ((w stz21b_1 0).dev.memc.waiting.any fun (h : HeldAccess) => decide (h.master = m)) = false) 0 ∨ Bar.bar4 = Bar.bar4 ∧ 6 = 6 ∧ 0 = 0 / 4 * 4 ∧ 0 < 67108864) ∧ (0 + 4 ≤ (w stz21b_1 0).dev.memBytes 6) ∧ ((w stz21b_1 0).dev.serves Src.game = true) ∧ ((w stz21b_1 0).dev.mayTouch 0 6 0 4 false = true) ∧ ((w stz21b_1 0).dev.badAt 6 0 4 = false)) ∧
    (((w stz21b_1 0).dev.power < 2) ∧ (0 / 4 * 4 + 4 ≤ (w stz21b_1 0).dev.memBytes 6) ∧
        ((w stz21b_1 0).dev.mayWrite 13 6 (0 / 4 * 4) 4 = true) ∧ ((w stz21b_1 0).dev.badAt 6 (0 / 4 * 4) 4 = false) ∧
        ((w stz21b_1 0).dev.flipArmed 6 = false)) ∧
    (((w stz21b_1 0).dev.clocked = true)) ∧
    (((w stz21b_1 0).dev.serves Src.game = true) ∧ ((w stz21b_1 0).dev.admits (masterOf Src.game) (placeOf Src.game 16) true = false)) ∧
    (((w stz21b_1 0).dev.serves (fnSrc 0) = true) ∧ ((w stz21b_1 0).dev.badRead (fnSrc 0) 16 = false) ∧
        ((w stz21b_1 0).dev.admits 0 (placeOf (fnSrc 0) 16) false = false)) ∧
    (((w stz21b_1 0).dev.serves Src.game = true) ∧ ((w stz21b_1 0).dev.admits (masterOf Src.game) (placeOf Src.game 1048600) true = true) ∧ ((placeOf Src.game 1048600).key / 1048576 = 1) ∧ ((placeOf Src.game 1048600).key ≠ Reg.pwrState) ∧ ((regDesc (placeOf Src.game 1048600).key).isSome = true)) ∧
    ((Bar.bar2 = Bar.bar2 ∧ 0 = 0 ∧ 0 = (w stz21b_1 3).dev.bar2Byte 0 ∧ 0 < 268435456 ∧ (w stz21b_1 3).dev.memReady = true ∧
        (fun (m : Nat) => ((w stz21b_1 3).dev.memc.waiting.any fun (h : HeldAccess) => decide (h.master = m)) = false) 0 ∨ Bar.bar2 = Bar.bar4 ∧ 0 = 6 ∧ 0 = 0 / 4 * 4 ∧ 0 < 67108864) ∧ (0 + 4 ≤ (w stz21b_1 3).dev.memBytes 0) ∧ ((w stz21b_1 3).dev.serves Src.game = true) ∧ ((w stz21b_1 3).dev.mayTouch 0 0 0 4 false = false)) ∧
    (((w stz21b_1 4).dev.clocked = true) ∧ (List.find? (fun (h : HeldAccess) => decide (h.master = 0)) (w stz21b_1 4).dev.memc.waiting = some (HeldAccess.mk 0 8 none)) ∧ ((w stz21b_1 4).dev.fabricFull = false) ∧ ((w stz21b_1 4).dev.memReady = false)) ∧
    (((w stz21b_1 5).dev.clocked = true) ∧ (((w stz21b_1 5).dev.lp 1).io = [IoOp.rd 16 true, IoOp.rd 6 false]) ∧ true = true) := by
  refine ⟨?_, ?_, ?_, ?_, ?_, ?_, ?_, ?_, ?_, ?_, ?_, ?_, ?_⟩ <;> decide +kernel

end C21b

namespace C22q

def pw (n : Nat) (d : Dev) := d.setRf Reg.pwrState 5 4 n
def lad (l : LadderSt) (d : Dev) : Dev := { d with ladder := l }
def rich : Dev := ((ported 0 0 (live 0 (setAll d0 [(Reg.clkStat, 0x10005), (Reg.pwrWake, 0xFFFFFFFF), (Reg.pinOwn 40, 3), (Reg.auCtl,
    1), (Reg.pwrTherm, 0x6E)]))).setByte (memBase 6 + 1000) 7).setByte (memBase 0 + 5) 9
def L1 : LadderSt := { used := 9, pending := [2,3,5,9,11,12], running := [0,1], told := false }
def all22 : List Dev := [d0, rich, lad L1 rich, lad { L1 with told := true, used := 15, pending := [] } rich,
    lad {used := 0, pending := [], running := [0,1,2,3,4,5,6,7,8,9,10,11], told := false} (rich.setRb Reg.auCtl 0 false),
  pw 1 (lad {used := 0, pending := [], running := [2,3,4,5,6,9], told := false} rich),
      pw 2 (lad {used := 0, pending := [], running := [2,3,4,5,6,9], told := false} { rich with io := { rich.io with wakes := [.timer 3] } }), pw 2 ((rich.setRb Reg.pwrState 8 true).setReg Reg.pwrWake 0),
  pw 3 rich, { rich with pwr := { rich.pwr with dimReq := true, holdReq := true, released := true, warned := true } },
      { rich with pwr := { rich.pwr with offReq := true } }, { rich with pwr := { rich.pwr with tripping := true } },
      rich.setRb Reg.pwrStat 2 true, pw 1 (rich.setRb Reg.pwrCfg 0 true), rich.setRf Reg.pwrTherm 15 8 9,
  rich.setLg { rich.lg with run := some ⟨none,0,0,⟨0,0,0⟩,0,0⟩ }]
def stz22q_1 : List Dev := all22

theorem wit_LadderGrantsInOrder :
    (((w stz22q_1 0).dev.clocked = true) ∧ ((w stz22q_1 0).dev.ladder.pending.Nodup)) ∧
    (((w stz22q_1 0).dev.ladder.pending = []) ∧ ((w stz22q_1 0).dev.ladder.used + ladderWeight 0 ≤ 15)) ∧
    (((w stz22q_1 2).dev.ladder.pending ≠ [] ∨ 15 < (w stz22q_1 2).dev.ladder.used + ladderWeight 0) ∧
        ((w stz22q_1 2).dev.ladder.told = false)) ∧
    (((w stz22q_1 3).dev.ladder.pending ≠ [] ∨ 15 < (w stz22q_1 3).dev.ladder.used + ladderWeight 0) ∧
        ((w stz22q_1 3).dev.ladder.told = true)) := by
  refine ⟨?_, ?_, ?_, ?_⟩ <;> decide +kernel

end C22q

namespace C22r

def pw (n : Nat) (d : Dev) := d.setRf Reg.pwrState 5 4 n
def lad (l : LadderSt) (d : Dev) : Dev := { d with ladder := l }
def rich : Dev := ((ported 0 0 (live 0 (setAll d0 [(Reg.clkStat, 0x10005), (Reg.pwrWake, 0xFFFFFFFF), (Reg.pinOwn 40, 3), (Reg.auCtl,
    1), (Reg.pwrTherm, 0x6E)]))).setByte (memBase 6 + 1000) 7).setByte (memBase 0 + 5) 9
def L1 : LadderSt := { used := 9, pending := [2,3,5,9,11,12], running := [0,1], told := false }
def all22 : List Dev := [d0, rich, lad L1 rich, lad { L1 with told := true, used := 15, pending := [] } rich,
    lad {used := 0, pending := [], running := [0,1,2,3,4,5,6,7,8,9,10,11], told := false} (rich.setRb Reg.auCtl 0 false),
  pw 1 (lad {used := 0, pending := [], running := [2,3,4,5,6,9], told := false} rich),
      pw 2 (lad {used := 0, pending := [], running := [2,3,4,5,6,9], told := false} { rich with io := { rich.io with wakes := [.timer 3] } }), pw 2 ((rich.setRb Reg.pwrState 8 true).setReg Reg.pwrWake 0),
  pw 3 rich, { rich with pwr := { rich.pwr with dimReq := true, holdReq := true, released := true, warned := true } },
      { rich with pwr := { rich.pwr with offReq := true } }, { rich with pwr := { rich.pwr with tripping := true } },
      rich.setRb Reg.pwrStat 2 true, pw 1 (rich.setRb Reg.pwrCfg 0 true), rich.setRf Reg.pwrTherm 15 8 9,
  rich.setLg { rich.lg with run := some ⟨none,0,0,⟨0,0,0⟩,0,0⟩ }]
def stz22r_1 : List Dev := all22

theorem wit_PowerStatesFollow :
    ((WriteOk (w stz22r_1 0) Src.game Reg.pwrState) ∧ ((w stz22r_1 0).dev.power = 0)) ∧
    ((WriteOk (w stz22r_1 0) Src.game Reg.pwrState) ∧ ((w stz22r_1 0).dev.rb Reg.clkStat 16 = false)) ∧
    ((WriteOk (w stz22r_1 0) Src.game Reg.pwrState) ∧ ((w stz22r_1 0).dev.lg.run = none)) ∧
    ((WriteOk (w stz22r_1 1) Src.game Reg.pwrState) ∧ ((w stz22r_1 1).dev.rb Reg.clkStat 16 = true) ∧
        ((w stz22r_1 1).dev.mayHold = false)) ∧
    ((WriteOk (w stz22r_1 4) Src.game Reg.pwrState) ∧ ((w stz22r_1 4).dev.rb Reg.clkStat 16 = true) ∧
        ((w stz22r_1 4).dev.mayHold = true)) ∧
    ((WriteOk (w stz22r_1 5) Src.game Reg.pwrState) ∧ ((w stz22r_1 5).dev.power = 1) ∧ ((w stz22r_1 5).dev.laddered 2 = true)) ∧
    (((w stz22r_1 6).dev.power = 2) ∧ ((w stz22r_1 6).dev.rb Reg.pwrWake (wakeBit WakeCause.pcie) = true) ∧
        ((w stz22r_1 6).dev.wakeStands WakeCause.pcie = true) ∧ ((w stz22r_1 6).dev.laddered 2 = true) ∧
        ((w stz22r_1 6).dev.rb Reg.pwrState 8 = false ∨ 2 < 2 ∨ 7 ≤ 2)) ∧
    (((w stz22r_1 6).dev.power = 2) ∧ ((w stz22r_1 6).dev.rb Reg.pwrWake (wakeBit (WakeCause.pattern 2)) = false ∨ (w stz22r_1 6).dev.wakeStands (WakeCause.pattern 2) = false)) ∧
    (((w stz22r_1 9).dev.pwr.dimReq = true) ∧ ((w stz22r_1 9).dev.power = 0) ∧ ((w stz22r_1 9).dev.soEn 0 = true)) ∧
    (((w stz22r_1 9).dev.pwr.dimReq = true) ∧ ((w stz22r_1 9).dev.power = 0) ∧ (((w stz22r_1 9).dev.feed 0).isSome = true)) ∧
    (((w stz22r_1 9).dev.clocked = true) ∧ ((w stz22r_1 9).dev.pwr.holdReq = true) ∧ ((w stz22r_1 9).dev.soEn 0 = true)) ∧
    (((w stz22r_1 10).dev.power ≠ 3) ∧ ((w stz22r_1 10).dev.pwr.offReq = true)) ∧
    ((WriteOk (w stz22r_1 15) Src.game Reg.pwrState) ∧ ((w stz22r_1 15).dev.lg.run.isSome = true)) := by
  refine ⟨?_, ?_, ?_, ?_, ?_, ?_, ?_, ?_, ?_, ?_, ?_, ?_, ?_⟩ <;> decide +kernel

theorem wit_ResetsRestore :
    (((w stz22r_1 0).dev.power ≠ 3) ∧ (0 ≠ Reg.pwrCfg ∧ 0 ≠ Reg.pwrRstcause ∧ 0 ≠ Reg.lgStat)) ∧
    (((w stz22r_1 0).dev.power ≠ 3)) ∧
    (((w stz22r_1 8).dev.power = 3) ∧ (0 ≠ Reg.pwrCfg ∧ 0 ≠ Reg.pwrRstcause ∧ 0 ≠ Reg.lgStat)) ∧
    (((w stz22r_1 8).dev.power = 3)) ∧
    (((w stz22r_1 13).dev.power < 2) ∧ ((w stz22r_1 13).dev.rb Reg.pwrCfg 0 = true) ∧ hiRegister 13631488 = true) := by
  refine ⟨?_, ?_, ?_, ?_, ?_⟩ <;> decide +kernel

theorem wit_DeviceStartsAndFreezes :
    (((w stz22r_1 0).dev.power ≠ 3) ∧ ((w stz22r_1 0).dev.pwr.released = false)) ∧
    (((w stz22r_1 0).dev.power ≠ 3) ∧ ((0#12).toInt ≤ 4 * ↑((w stz22r_1 0).dev.rf Reg.pwrTherm 7 0) - 20)) ∧
    (((w stz22r_1 0).dev.power ≠ 3) ∧ (4 * ↑((w stz22r_1 0).dev.rf Reg.pwrTherm 7 0) < (440#12).toInt) ∧
        ((w stz22r_1 0).dev.pwr.warned = false)) ∧
    (((w stz22r_1 0).dev.power ≠ 3) ∧ (460 ≤ (460#12).toInt) ∧ ((w stz22r_1 0).dev.pwr.tripping = false)) ∧
    (((w stz22r_1 0).dev.power < 2) ∧ ((w stz22r_1 0).dev.frozen = false)) ∧
    (((w stz22r_1 1).dev.power ≠ 3) ∧ ((w stz22r_1 1).dev.rb Reg.clkStat 2 = true)) ∧
    (((w stz22r_1 1).dev.power ≠ 3) ∧ (460 ≤ (460#12).toInt) ∧ ((w stz22r_1 1).dev.pwr.tripping = false) ∧
        ((w stz22r_1 1).dev.rf Reg.pwrTherm 15 8 = 0) ∧ ((w stz22r_1 1).dev.pwr.offReq = false)) ∧
    (((w stz22r_1 9).dev.clocked = true) ∧ ((w stz22r_1 9).dev.pwr.released = true) ∧ ((w stz22r_1 9).dev.fnReady 0 = false)) ∧
    (((w stz22r_1 11).dev.power ≠ 3) ∧ ((w stz22r_1 11).dev.pwr.tripping = true) ∧ ((w stz22r_1 11).dev.pwr.offReq = false) ∧
        ((w stz22r_1 11).dev.soEn 0 = true)) ∧
    (((w stz22r_1 12).dev.power < 2) ∧ ((w stz22r_1 12).dev.frozen = true)) := by
  refine ⟨?_, ?_, ?_, ?_, ?_, ?_, ?_, ?_, ?_, ?_⟩ <;> decide +kernel

end C22r

end Sys2Proof.Tests
end

section
/-! SUPPORT. A line processor's unit triggers (R151, R156): what one move to a trigger port does, and what the word's end adds to it. -/

namespace Sys2Proof.Machine

open Sys2Proof

/-! ### Ports -/

/-- A port read after a port write. -/
theorem LpSt.get_put (l : LpSt) (p q : Nat) (v : Word) : (l.put p v).get q = if q = p then v else l.get q :=
  Tab.get_put _ _ _ _ _

@[simp] theorem LpSt.get_put_same (l : LpSt) (p : Nat) (v : Word) : (l.put p v).get p = v := by
  rw [LpSt.get_put, if_pos rfl]

theorem LpSt.get_put_ne (l : LpSt) (p q : Nat) (v : Word) (h : q ≠ p) : (l.put p v).get q = l.get q := by
  rw [LpSt.get_put, if_neg h]

@[simp] theorem Dev.lp_setPortOf_same (d : Dev) (n p : Nat) (v : Word) : (d.setPortOf n p v).lp n = (d.lp n).put p v :=
  Dev.lp_setLp_same _ _ _

@[simp] theorem Dev.setPortOf_regs (d : Dev) (n p : Nat) (v : Word) : (d.setPortOf n p v).regs = d.regs := rfl

@[simp] theorem Dev.lpFlag_regs (d : Dev) (n : Nat) (m : Word) : (d.lpFlag n m).regs = d.regs := rfl

@[simp] theorem Dev.lpFlag_stat (d : Dev) (n : Nat) (m : Word) : ((d.lpFlag n m).lp n).get 118 = (d.lp n).get 118 ||| m := by
  simp [Dev.lpFlag]

theorem Dev.lpFlag_get_ne (d : Dev) (n q : Nat) (m : Word) (h : q ≠ 118) : ((d.lpFlag n m).lp n).get q = (d.lp n).get q := by
  rw [Dev.lpFlag, Dev.lp_setPortOf_same, LpSt.get_put_ne _ _ _ _ h]

/-! ### What a unit leaves alone -/

/-- Between d and e a unit of line processor n wrote its result ports: it changed no other port, neither where the program stands nor
what it waits for, no other line processor, no memory, no queue and no interface. -/
structure UnitFrame (d e : Dev) (n : Nat) (ports : List Nat) : Prop where
  pc : (e.lp n).pc = (d.lp n).pc
  preds : (e.lp n).preds = (d.lp n).preds
  rep : (e.lp n).rep = (d.lp n).rep
  wait : (e.lp n).wait = (d.lp n).wait
  stack : (e.lp n).stack = (d.lp n).stack
  io : (e.lp n).io = (d.lp n).io
  get : ∀ p, p ∉ ports → (e.lp n).get p = (d.lp n).get p
  others : ∀ m, m ≠ n → e.lp m = d.lp m
  mem : e.mem = d.mem
  syn : e.syn = d.syn
  twq : e.twq = d.twq
  sent : e.sent = d.sent

/-- A unit may write fewer ports than its frame allows. -/
theorem UnitFrame.mono {d e : Dev} {n : Nat} {ps qs : List Nat} (h : UnitFrame d e n ps) (hs : ps ⊆ qs) : UnitFrame d e n qs :=
  { h with get := fun p hp => h.get p fun hm => hp (hs hm) }

theorem UnitFrame.trans {d e f : Dev} {n : Nat} {ps : List Nat} (h : UnitFrame d e n ps) (k : UnitFrame e f n ps) : UnitFrame d f n ps where
  pc := k.pc.trans h.pc
  preds := k.preds.trans h.preds
  rep := k.rep.trans h.rep
  wait := k.wait.trans h.wait
  stack := k.stack.trans h.stack
  io := k.io.trans h.io
  get p hp := (k.get p hp).trans (h.get p hp)
  others m hm := (k.others m hm).trans (h.others m hm)
  mem := k.mem.trans h.mem
  syn := k.syn.trans h.syn
  twq := k.twq.trans h.twq
  sent := k.sent.trans h.sent

/-- A port write is a unit's write of that port. -/
theorem Dev.setPortOf_unitFrame (d : Dev) (n p : Nat) (v : Word) : UnitFrame d (d.setPortOf n p v) n [p] where
  get q hq := by rw [Dev.lp_setPortOf_same, LpSt.get_put_ne _ _ _ _ (by simpa using hq)]
  others m hm := Dev.lp_setLp_ne _ _ _ _ hm
  pc := by rw [Dev.lp_setPortOf_same]; rfl
  preds := by rw [Dev.lp_setPortOf_same]; rfl
  rep := by rw [Dev.lp_setPortOf_same]; rfl
  wait := by rw [Dev.lp_setPortOf_same]; rfl
  stack := by rw [Dev.lp_setPortOf_same]; rfl
  io := by rw [Dev.lp_setPortOf_same]; rfl
  mem := rfl
  syn := rfl
  twq := rfl
  sent := rfl

/-- A sticky flag is a write of SYS.STAT. -/
theorem Dev.lpFlag_unitFrame (d : Dev) (n : Nat) (m : Word) : UnitFrame d (d.lpFlag n m) n [118] := Dev.setPortOf_unitFrame _ _ _ _

/-! ### The end of a word -/

/-- A word that asks for no branch, no repeat and no return. -/
def LpReq.plain : LpReq := ⟨none, none, false⟩

/-- The end of a plain word outside a repeat: line processor n goes on at the next word, and halts if it was stepped. -/
def Dev.lpNext (d : Dev) (n : Nat) : Dev := (d.lpAdvance n .plain none).lpSettle n

/-- Line processor n's state after a plain word. -/
def LpSt.next (l : LpSt) : LpSt :=
  { l with mode := if l.stepping then .halt else l.mode, stepping := false, repFresh := false, stalled := false, pc := (l.pc + 1) % 8192 }

/-- The end of a plain word is the line processor's next state, with the interrupt controller presenting again. -/
theorem Dev.lpNext_eq (d : Dev) (n : Nat) : ∃ e : Dev, d.lpNext n = e.present ∧ e.lp n = (d.lp n).next ∧ (∀ m, m ≠ n → e.lp m = d.lp m) ∧
    e.regs = d.regs ∧ e.mem = d.mem ∧ e.syn = d.syn ∧ e.twq = d.twq ∧ e.sent = d.sent := by
  refine ⟨_, rfl, ?_, ?_⟩
  · cases hs : (d.lp n).stepping <;> simp [Dev.lpAdvance, LpReq.plain, LpSt.next, hs]
  · cases hs : (d.lp n).stepping <;> simp +contextual [Dev.lpAdvance, LpReq.plain, hs, Dev.lp_setLp_ne]

@[simp] theorem Dev.present_lp (d : Dev) (m : Nat) : d.present.lp m = d.lp m := rfl

@[simp] theorem Dev.lp_lpNext_same (d : Dev) (n : Nat) : (d.lpNext n).lp n = (d.lp n).next := by
  obtain ⟨e, he, hl, -⟩ := d.lpNext_eq n
  rw [he, Dev.present_lp, hl]

theorem Dev.lp_lpNext_ne (d : Dev) (n m : Nat) (h : m ≠ n) : (d.lpNext n).lp m = d.lp m := by
  obtain ⟨e, he, -, ho, -⟩ := d.lpNext_eq n
  rw [he, Dev.present_lp, ho m h]

/-- The end of a plain word touches nothing but the line processor and what the interrupt controller presents. -/
theorem Dev.lpNext_frame (d : Dev) (n : Nat) : (d.lpNext n).regs = d.regs ∧ (d.lpNext n).mem = d.mem ∧ (d.lpNext n).syn = d.syn ∧
    (d.lpNext n).twq = d.twq ∧ (d.lpNext n).sent = d.sent := by
  obtain ⟨e, he, -, -, hf⟩ := d.lpNext_eq n
  rw [he]
  exact hf

@[simp] theorem LpSt.next_get (l : LpSt) (p : Nat) : l.next.get p = l.get p := rfl

/-- A unit's write and the end of its word make an issue that changed the unit's ports alone. -/
theorem UnitFrame.issued {d e : Dev} {n : Fin 4} {ps : List Nat} (h : UnitFrame d e n ps) (hrep : (d.lp n).rep = none)
    (hwait : (d.lp n).wait = .none) : Issued d (e.lpNext n) n ps := by
  obtain ⟨-, hmem, hsyn, htwq, hsent⟩ := e.lpNext_frame n
  rw [Issued, Dev.lp_lpNext_same]
  refine ⟨?_, h.rep.trans hrep, h.preds, h.stack, h.io, h.wait.trans hwait, h.get, fun m hm => ?_,
    hmem.trans h.mem, hsyn.trans h.syn, htwq.trans h.twq, hsent.trans h.sent⟩
  · rw [← h.pc]; rfl
  · rw [Dev.lp_lpNext_ne _ _ _ hm, h.others m hm]

/-! ### A trigger -/

/-- A line processor that may issue is in no beam wait. -/
theorem Dev.wait_of_lpReady {d : Dev} {n : Nat} (h : d.lpReady n = true) : (d.lp n).wait = .none := by
  simp only [Dev.lpReady, Bool.and_eq_true, decide_eq_true_eq] at h
  obtain ⟨⟨⟨-, hwait⟩, -⟩, -⟩ := h
  exact hwait

theorem orderMoves_single (e : Nat × Word) : orderMoves [e] = [e] := by
  by_cases h : e.1 = 63 ∨ e.1 = 118
  · rcases h with h | h <;> simp [orderMoves, h]
  · simp [orderMoves, not_or.mp h]

/-- A word of one immediate move neither stalls on IO.RES nor, away from IO.WR, on the posted writes. -/
theorem LpSt.stalls_val (l : LpSt) (p : Nat) (v : Word) (h : p ≠ 75) : l.stalls [(p, .val v)] = false := by
  simp [LpSt.stalls, h]

/-- A word of one move whose port write asks for no branch, repeat or return is that write and the end of the word. -/
theorem Dev.lpMoves_plain {d e : Dev} {n p : Nat} {v : Word} (hrep : (d.lp n).rep = none)
    (hw : Dev.portWrite n (d.lp n).preds false (d, .plain) (p, v) = (e, .plain)) : d.lpMoves n [(p, v)] = e.lpNext n := by
  rw [Dev.lpMoves, orderMoves_single, hrep]
  exact congrArg (fun r => (r.1.lpAdvance n r.2 none).lpSettle n) hw

/-- A trigger of a port whose write can neither return from a handler nor stall carries out its one move. -/
theorem Dev.lpTrigger_moves {d : Dev} {n p : Nat} (v : Word) (hr : d.lpReady n = true) (hio : p ≠ 75) (hret : p ≠ 106) :
    d.lpTrigger n p v = d.lpMoves n [(p, v)] := by
  rw [Dev.lpTrigger, if_pos hr]
  unfold Dev.lpExecute
  extract_lets
  rw [if_neg (by simp [hret]), if_neg (by rw [LpSt.stalls_val _ _ _ hio]; decide)]
  rfl

/-- A trigger command of a line processor that may issue has its port write's effect. -/
theorem Acts.of_lpTrigger {c : Instr} {s : State} {n : Fin 4} {p : Nat} {v : Word} {e : Dev} (h : Issues s n)
    (hc : exec c s = s.onClock (fun d => d.lpTrigger n p v)) (hio : p ≠ 75) (hret : p ≠ 106)
    (hw : Dev.portWrite n (s.dev.lp n).preds false (s.dev, .plain) (p, v) = (e, .plain)) : Acts c s (e.lpNext n) := by
  obtain ⟨hclk, hready, hrep⟩ := h
  rw [Acts, hc, State.onClock_run _ _ hclk, Dev.lpTrigger_moves v hready hio hret, Dev.lpMoves_plain hrep hw]

end Sys2Proof.Machine
end

section
/-! The ALU (R174 to R176). -/

namespace Sys2Proof.Machine

open Sys2Proof

/-! ### The rows of Table — ALU operations -/

/-- R175: a left shift by 32 or more gives 0. -/
theorem aluResult_shl (o v : Word) :
    aluResult 39 o v = (if 32 ≤ v.toNat % 256 then 0 else o <<< (v.toNat % 256), false) := by
  split
  next h => exact congrArg (·, false) (BitVec.shiftLeft_eq_zero h)
  · rfl

/-- R175: a right shift by 32 or more gives 0. -/
theorem aluResult_shr (o v : Word) :
    aluResult 40 o v = (if 32 ≤ v.toNat % 256 then 0 else o >>> (v.toNat % 256), false) := by
  split
  next h => exact congrArg (·, false) (BitVec.ushiftRight_eq_zero h)
  · rfl

/-- An arithmetic shift by the width or more leaves copies of the top bit. -/
theorem sshiftRight_of_ge (o : Word) (k : Nat) (h : 32 ≤ k) : o.sshiftRight k = if o.getLsbD 31 then 0xFFFFFFFF else 0 := by
  rw [← show o.msb = o.getLsbD 31 from BitVec.msb_eq_getLsbD_last o]
  cases hm : o.msb
  · rw [BitVec.sshiftRight_eq_of_msb_false hm, BitVec.ushiftRight_eq_zero h]
    rfl
  · rw [BitVec.sshiftRight_eq_of_msb_true hm, BitVec.ushiftRight_eq_zero h]
    rfl

/-- R175: an arithmetic shift by 32 or more gives 32 copies of bit 31. -/
theorem aluResult_sar (o v : Word) :
    aluResult 41 o v =
      (if 32 ≤ v.toNat % 256 then (if o.getLsbD 31 then 0xFFFFFFFF else 0) else o.sshiftRight (v.toNat % 256), false) := by
  split
  next h => exact congrArg (·, false) (sshiftRight_of_ge o _ h)
  · rfl

/-- R176: the negation, with V for the one word that is its own negative. -/
theorem aluResult_neg (o v : Word) : aluResult 43 o v = (-v, decide (v = 0x80000000)) :=
  congrArg (·, decide (v = 0x80000000)) (BitVec.zero_sub v)

theorem aluResult_min (o v : Word) : aluResult 44 o v = (if o.slt v then o else v, false) := by
  refine congrArg (·, false) ?_
  simp only [BitVec.slt, decide_eq_true_eq]
  rcases Int.lt_trichotomy o.toInt v.toInt with h | h | h
  · rw [if_pos (Int.le_of_lt h), if_pos h]
  · rw [BitVec.toInt_inj.mp h, ite_self, ite_self]
  · rw [if_neg (Int.not_le.mpr h), if_neg (Int.lt_asymm h)]

theorem aluResult_max (o v : Word) : aluResult 45 o v = (if o.slt v then v else o, false) := by
  refine congrArg (·, false) ?_
  simp only [BitVec.slt, decide_eq_true_eq]
  rcases Int.lt_trichotomy o.toInt v.toInt with h | h | h
  · rw [if_neg (Int.not_le.mpr h), if_pos h]
  · rw [BitVec.toInt_inj.mp h, ite_self, ite_self]
  · rw [if_pos (Int.le_of_lt h), if_neg (Int.lt_asymm h)]

/-- The signed 32-bit word nearest to z, and whether z lies outside the signed words. -/
def satWord (z : Int) : Word × Bool :=
  (if 2147483647 < z then 0x7FFFFFFF else if z < -2147483648 then 0x80000000 else BitVec.ofInt 32 z,
    decide (2147483647 < z ∨ z < -2147483648))

/-- The saturating results of the table: the nearest word, with V when the sum or difference lies outside. -/
theorem sat_eq_satWord (z : Int) :
    (if 2147483647 < z then ((0x7FFFFFFF : Word), true) else if z < -2147483648 then (0x80000000, true) else (BitVec.ofInt 32 z, false)) =
      satWord z := by
  unfold satWord
  split
  next h => simp [h]
  next h => split <;> simp [*]

theorem aluResult_adds (o v : Word) : aluResult 46 o v = satWord (o.toInt + v.toInt) := sat_eq_satWord _

theorem aluResult_subs (o v : Word) : aluResult 47 o v = satWord (o.toInt - v.toInt) := sat_eq_satWord _

/-! ### A trigger of the ALU -/

/-- ALU.RES takes a result, and SYS.STAT its V. -/
def Dev.aluWrite (d : Dev) (n : Nat) (r : Word × Bool) : Dev :=
  if r.2 then (d.setPortOf n 33 r.1).lpFlag n 1 else d.setPortOf n 33 r.1

theorem Dev.portWrite_alu (d : Dev) (n p : Nat) (v : Word) (p0 : BitVec 8) (rep : Bool) (q : LpReq) (hp : 34 ≤ p ∧ p ≤ 47) :
    Dev.portWrite n p0 rep (d, q) (p, v) = (d.aluWrite n (aluResult p ((d.lp n).get 32) v), q) := by
  simp only [Dev.portWrite, if_pos hp]
  rfl

theorem Dev.aluWrite_unitFrame (d : Dev) (n : Nat) (r : Word × Bool) : UnitFrame d (d.aluWrite n r) n [33, 118] := by
  have hres : UnitFrame d (d.setPortOf n 33 r.1) n [33, 118] := (Dev.setPortOf_unitFrame _ _ _ _).mono (by simp)
  unfold Dev.aluWrite
  split
  · exact hres.trans ((Dev.lpFlag_unitFrame _ _ _).mono (by simp))
  · exact hres

@[simp] theorem Dev.aluWrite_regs (d : Dev) (n : Nat) (r : Word × Bool) : (d.aluWrite n r).regs = d.regs := by
  unfold Dev.aluWrite
  split <;> rfl

@[simp] theorem Dev.aluWrite_res (d : Dev) (n : Nat) (r : Word × Bool) : ((d.aluWrite n r).lp n).get 33 = r.1 := by
  unfold Dev.aluWrite
  split
  · rw [Dev.lpFlag_get_ne _ _ _ _ (by decide), Dev.lp_setPortOf_same, LpSt.get_put_same]
  · rw [Dev.lp_setPortOf_same, LpSt.get_put_same]

@[simp] theorem Dev.aluWrite_stat (d : Dev) (n : Nat) (r : Word × Bool) :
    ((d.aluWrite n r).lp n).get 118 = if r.2 then (d.lp n).get 118 ||| 1 else (d.lp n).get 118 := by
  have hstat : ((d.setPortOf n 33 r.1).lp n).get 118 = (d.lp n).get 118 := (Dev.setPortOf_unitFrame _ _ _ _).get 118 (by simp)
  unfold Dev.aluWrite
  split
  · rw [Dev.lpFlag_stat, hstat]
  · exact hstat

/-- A command that triggers ALU port p gives that port's result and flag, and changes nothing else (R174, R176). -/
theorem aluTrigger_row {c : Instr} {s : State} {n : Fin 4} {v : Word} (h : Issues s n) (p : Nat) {r : Word × Bool}
    (hc : exec c s = s.onClock (fun d => d.lpTrigger n p v)) (hp : 34 ≤ p ∧ p ≤ 47) (hr : aluResult p ((s.dev.lp n).get 32) v = r) :
    ∃ e, Acts c s e ∧ Issued s.dev e n [33, 118] ∧ (e.lp n).get 33 = r.1 ∧
      (e.lp n).get 118 = (if r.2 then (s.dev.lp n).get 118 ||| 1 else (s.dev.lp n).get 118) ∧ e.regs = s.dev.regs := by
  have hw : Dev.portWrite n (s.dev.lp n).preds false (s.dev, .plain) (p, v) = (s.dev.aluWrite n r, .plain) := by
    rw [Dev.portWrite_alu _ _ _ _ _ _ _ hp, hr]
  have ⟨_, hready, hrep⟩ := h
  refine ⟨_, Acts.of_lpTrigger h hc (by omega) (by omega) hw, ?_, ?_, ?_, ?_⟩
  · exact (Dev.aluWrite_unitFrame _ _ _).issued hrep (Dev.wait_of_lpReady hready)
  · rw [Dev.lp_lpNext_same, LpSt.next_get, Dev.aluWrite_res]
  · rw [Dev.lp_lpNext_same, LpSt.next_get, Dev.aluWrite_stat]
  · rw [(Dev.lpNext_frame _ _).1, Dev.aluWrite_regs]

/-- Settles O21: every row is one trigger of the ALU, with its row's result. -/
theorem aluOperations : Obligations.AluOperations := by
  unfold Obligations.AluOperations
  intro s n v h o sh neg sum dif sat out
  simp only [List.forall_mem_cons]
  refine ⟨?add, ?sub, ?and, ?or, ?xor, ?shl, ?shr, ?sar, ?rot, ?neg, ?min, ?max, ?adds, ?subs, by simp⟩
  case add => exact aluTrigger_row h 34 rfl (by decide) rfl
  case sub => exact aluTrigger_row h 35 rfl (by decide) rfl
  case and => exact aluTrigger_row h 36 rfl (by decide) rfl
  case or => exact aluTrigger_row h 37 rfl (by decide) rfl
  case xor => exact aluTrigger_row h 38 rfl (by decide) rfl
  case shl => exact aluTrigger_row h 39 rfl (by decide) (aluResult_shl _ _)
  case shr => exact aluTrigger_row h 40 rfl (by decide) (aluResult_shr _ _)
  case sar => exact aluTrigger_row h 41 rfl (by decide) (aluResult_sar _ _)
  case rot => exact aluTrigger_row h 42 rfl (by decide) rfl
  case neg => exact aluTrigger_row h 43 rfl (by decide) (aluResult_neg _ _)
  case min => exact aluTrigger_row h 44 rfl (by decide) (aluResult_min _ _)
  case max => exact aluTrigger_row h 45 rfl (by decide) (aluResult_max _ _)
  case adds => exact aluTrigger_row h 46 rfl (by decide) (aluResult_adds _ _)
  case subs => exact aluTrigger_row h 47 rfl (by decide) (aluResult_subs _ _)

end Sys2Proof.Machine
end

section
/-! The comparison unit (R180). -/

namespace Sys2Proof.Machine

open Sys2Proof

/-- What a comparison of result c makes of its predicate, by MODE. -/
def cmpMode (mode : Nat) (was c : Bool) : Bool :=
  if mode = 1 then was && c else if mode = 2 then was || c else c

/-- The bits of a predicate register in which one predicate was set to b. -/
theorem getLsbD_setPred (w : BitVec 8) (p i : Nat) (b : Bool) (hi : i < 8) :
    (if b then w ||| (1 : BitVec 8) <<< p else w &&& ~~~((1 : BitVec 8) <<< p)).getLsbD i = if i = p then b else w.getLsbD i := by
  have hm : ((1 : BitVec 8) <<< p).getLsbD i = decide (i = p) := by
    rw [show (1 : BitVec 8) = 1#8 from rfl, ← BitVec.twoPow_eq, BitVec.getLsbD_twoPow]
    rcases Decidable.em (i = p) with rfl | h
    · rw [decide_eq_true hi, decide_eq_true rfl, Bool.true_and]
    · rw [decide_eq_false h, decide_eq_false (Ne.symm h), Bool.and_false]
  cases b
  · simp only [Bool.false_eq_true, if_false, BitVec.getLsbD_and, BitVec.getLsbD_not, hm, hi]
    by_cases h : i = p <;> simp [h]
  · simp only [if_true, BitVec.getLsbD_or, hm]
    by_cases h : i = p <;> simp [h]

/-- A comparison sets the predicate that CMP.CFG names, unless it names none. -/
theorem cmpPreds_eq (cfg o v : Word) (old now : BitVec 8) :
    cmpPreds cfg o v old now =
      if fld cfg 2 0 = 0 then now
      else if cmpMode (fld cfg 8 7) (old.getLsbD (fld cfg 2 0)) (cmpCond (fld cfg 6 3) o v) then now ||| (1 : BitVec 8) <<< fld cfg 2 0
      else now &&& ~~~((1 : BitVec 8) <<< fld cfg 2 0) := by
  unfold cmpPreds
  generalize fld cfg 8 7 = mode
  rcases mode with _ | _ | _ | mode <;> rfl

/-- A predicate after a comparison in a word that writes no other predicate (R180). -/
theorem cmpPreds_getLsbD (cfg o v : Word) (old : BitVec 8) (i : Nat) (hi : i < 8) :
    (cmpPreds cfg o v old old).getLsbD i =
      if i = fld cfg 2 0 ∧ fld cfg 2 0 ≠ 0 then cmpMode (fld cfg 8 7) (old.getLsbD i) (cmpCond (fld cfg 6 3) o v)
      else old.getLsbD i := by
  rw [cmpPreds_eq]
  by_cases hp : fld cfg 2 0 = 0
  · simp [hp]
  · rw [if_neg hp, getLsbD_setPred _ _ _ _ hi]
    by_cases h : i = fld cfg 2 0 <;> simp [h, hp]

/-- CMP.T updates the predicates and asks for nothing else. -/
theorem Dev.portWrite_cmp (d : Dev) (n : Nat) (v : Word) (p0 : BitVec 8) (rep : Bool) (q : LpReq) :
    Dev.portWrite n p0 rep (d, q) (62, v) =
      (d.setLp n { d.lp n with preds := cmpPreds ((d.lp n).get 61) ((d.lp n).get 60) v p0 (d.lp n).preds }, q) := rfl

/-- Settles O22: a comparison is one trigger that writes the predicates alone. -/
theorem comparisons : Obligations.Comparisons := by
  unfold Obligations.Comparisons
  intro s n v h l o p c hc hcond
  -- each row of the statement is `cmpCond` at that row's code, by definition
  have hrow : cmpCond (fld (l.get 61) 6 3) o v = c.2 := by
    rw [hcond]
    clear hcond
    simp only [List.mem_cons, List.not_mem_nil, or_false] at hc
    rcases hc with rfl | rfl | rfl | rfl | rfl | rfl | rfl | rfl | rfl | rfl | rfl | rfl | rfl | rfl | rfl | rfl <;> rfl
  refine ⟨_, Acts.of_lpTrigger h rfl (by decide) (by decide) (Dev.portWrite_cmp _ _ _ _ _ _), ?_⟩
  obtain ⟨hregs, hmem, -, htwq, hsent⟩ :=
    (s.dev.setLp n { l with preds := cmpPreds (l.get 61) o v l.preds l.preds }).lpNext_frame n
  refine ⟨?pc, fun q => ?get, fun i hi => ?preds, hregs, hmem, htwq, hsent, fun m hm => ?others⟩
  case pc => rw [Dev.lp_lpNext_same, Dev.lp_setLp_same]; rfl
  case get => rw [Dev.lp_lpNext_same, Dev.lp_setLp_same]; rfl
  case preds =>
    rw [Dev.lp_lpNext_same, Dev.lp_setLp_same, ← hrow]
    exact cmpPreds_getLsbD _ _ _ _ _ hi
  case others => rw [Dev.lp_lpNext_ne _ _ _ hm, Dev.lp_setLp_ne _ _ _ _ hm]

end Sys2Proof.Machine
end

section
/-! The access tables as reset leaves them (R412): the words that reset gives their registers, and the accesses these words permit. -/

namespace Sys2Proof.Machine

open Sys2Proof

/-! ### Where the table registers stand in the register index -/

/-- The multiples of a stride below its count fall on a one-dimensional array. -/
theorem dimsHit_mul {n i : Nat} (s : Nat) (hs : 0 < s) (hi : i < n) : dimsHit [(s, n)] (s * i) = true := by
  simp [dimsHit, Nat.mul_div_cancel_left i hs, hi]

/-- An index of each dimension gives an offset on a two-dimensional array whose rows fit the wider stride. -/
theorem dimsHit_mul_add {n k i j : Nat} (s u : Nat) (hi : i < n) (hj : j < k) (hu : 0 < u) (hrow : u * j < s) :
    dimsHit [(s, n), (u, k)] (s * i + u * j) = true := by
  have hs : 0 < s := Nat.zero_lt_of_lt hrow
  have hrow' : (s * i + u * j) % s = u * j := by rw [Nat.mul_add_mod, Nat.mod_eq_of_lt hrow]
  have hdiv : (s * i + u * j) / s = i := by rw [Nat.mul_add_div hs, Nat.div_eq_of_lt hrow, Nat.add_zero]
  simpa [dimsHit, hrow', hdiv, hi] using dimsHit_mul u hu hj

theorem ptRange_eq (t r : Nat) : Reg.ptRange t r = 0x200080 + 0x100 * t + 0x8 * r := rfl

theorem ptPerm_eq (t r : Nat) : Reg.ptPerm t r = 0x200084 + 0x100 * t + 0x8 * r := rfl

/-- A key in the 1 MiB of PT is looked up among the registers of PT. -/
theorem regDesc_pt (a : Nat) (h : a / 0x100000 = 2) : regDesc a = regsPt.find? (fun r => descHit r a) := by
  rw [regDesc, h, regBlock]

theorem regDesc_ptValid (t : Nat) (ht : t < 27) :
    regDesc (Reg.ptValid t) = some ⟨0x200000, [(0x100, 27)], 0xffff, 0x0, 0x0, 0x0, 0x0, 0x0, 0x1⟩ := by
  have hit : dimsHit [(0x100, 27)] (0x100 * t) = true := dimsHit_mul _ (by decide) ht
  rw [Reg.ptValid, regDesc_pt _ (by omega)]
  simp [regsPt, descHit, hit]

/-- The regions of a table stand at 0x80 and beyond in its 256 bytes, where its VALID does not. -/
theorem dimsHit_ptValid_of_region (t o : Nat) (h1 : 0x80 ≤ o) (h2 : o < 0x100) : dimsHit [(0x100, 27)] (0x100 * t + o) = false := by
  have hrest : (0x100 * t + o) % 0x100 ≠ 0 := by omega
  rw [dimsHit, dimsHit, beq_false_of_ne hrest, Bool.and_false]

theorem regDesc_ptRange (t r : Nat) (ht : t < 27) (hr : r < 16) :
    regDesc (Reg.ptRange t r) = some ⟨0x200080, [(0x100, 27), (0x8, 16)], 0xffffffff, 0x0, 0x0, 0x0, 0x0, 0x0, 0x0⟩ := by
  have hkey := ptRange_eq t r
  have hit : dimsHit [(0x100, 27), (0x8, 16)] (Reg.ptRange t r - 0x200080) = true := by
    rw [show Reg.ptRange t r - 0x200080 = 0x100 * t + 0x8 * r by omega]
    exact dimsHit_mul_add _ _ ht hr (by decide) (by omega)
  have notValid : dimsHit [(0x100, 27)] (Reg.ptRange t r - 0x200000) = false := by
    rw [show Reg.ptRange t r - 0x200000 = 0x100 * t + (0x80 + 0x8 * r) by omega]
    exact dimsHit_ptValid_of_region _ _ (by omega) (by omega)
  have hbase : 0x200080 ≤ Reg.ptRange t r := by omega
  rw [regDesc_pt _ (by omega)]
  simp only [regsPt, List.find?, descHit, hit, notValid, hbase, decide_true, Bool.and_true, Bool.and_false]

theorem regDesc_ptPerm (t r : Nat) (ht : t < 27) (hr : r < 16) :
    regDesc (Reg.ptPerm t r) = some ⟨0x200084, [(0x100, 27), (0x8, 16)], 0xffffffff, 0x0, 0x0, 0x0, 0x0, 0x0, 0x0⟩ := by
  have hkey := ptPerm_eq t r
  have hit : dimsHit [(0x100, 27), (0x8, 16)] (Reg.ptPerm t r - 0x200084) = true := by
    rw [show Reg.ptPerm t r - 0x200084 = 0x100 * t + 0x8 * r by omega]
    exact dimsHit_mul_add _ _ ht hr (by decide) (by omega)
  have notValid : dimsHit [(0x100, 27)] (Reg.ptPerm t r - 0x200000) = false := by
    rw [show Reg.ptPerm t r - 0x200000 = 0x100 * t + (0x84 + 0x8 * r) by omega]
    exact dimsHit_ptValid_of_region _ _ (by omega) (by omega)
  have notRange : dimsHit [(0x100, 27), (0x8, 16)] (Reg.ptPerm t r - 0x200080) = false := by
    have hrest : (Reg.ptPerm t r - 0x200080) % 0x100 % 0x8 ≠ 0 := by omega
    rw [dimsHit, dimsHit, dimsHit, beq_false_of_ne hrest, Bool.and_false, Bool.and_false]
  have hbase : 0x200084 ≤ Reg.ptPerm t r := by omega
  rw [regDesc_pt _ (by omega)]
  simp only [regsPt, List.find?, descHit, hit, notValid, notRange, hbase, decide_true, Bool.and_true, Bool.and_false]

/-! ### The words at reset -/

/-- PERM of region 0 at reset (R412). -/
def permReset (t : Nat) : Word := if t = 4 ∨ t = 24 then 0x3000000C else 0xFFFFFFFF

theorem lastGranuleReset_lt (t : Nat) : lastGranuleReset t < 65536 := by
  unfold lastGranuleReset
  split <;> decide

/-- A register right after reset reads its reset word. -/
theorem reg_atReset (a : Nat) : Dev.atReset.reg a = resetWord a := Tab.get_nil _ _

/-- At reset region 0 alone is in use. -/
theorem ptValid_atReset (t : Nat) (ht : t < 27) : Dev.atReset.reg (Reg.ptValid t) = 1 := by
  rw [reg_atReset, resetWord, regDesc_ptValid t ht]
  rfl

theorem ptRange_atReset (t r : Nat) (ht : t < 27) (hr : r < 16) :
    Dev.atReset.reg (Reg.ptRange t r) = if r = 0 then BitVec.ofNat 32 (lastGranuleReset t * 65536) else 0 := by
  have hkey := ptRange_eq t r
  have hregion : (Reg.ptRange t r - 0x200080) % 0x100 = 0 ↔ r = 0 := by omega
  have htable : (Reg.ptRange t r - 0x200080) / 0x100 = t := by omega
  rw [reg_atReset, resetWord, regDesc_ptRange t r ht hr]
  simp [hregion, htable]

theorem ptPerm_atReset (t r : Nat) (ht : t < 27) (hr : r < 16) :
    Dev.atReset.reg (Reg.ptPerm t r) = if r = 0 then permReset t else 0 := by
  have hkey := ptPerm_eq t r
  have hregion : (Reg.ptPerm t r - 0x200084) % 0x100 = 0 ↔ r = 0 := by omega
  have htable : (Reg.ptPerm t r - 0x200084) / 0x100 = t := by omega
  rw [reg_atReset, resetWord, regDesc_ptPerm t r ht hr]
  simp [hregion, htable, permReset]

/-- BASE of region 0 at reset. -/
theorem ptBase_atReset (t : Nat) (ht : t < 27) : Dev.atReset.rf (Reg.ptRange t 0) 15 0 = 0 := by
  have hlast := lastGranuleReset_lt t
  rw [Dev.rf, ptRange_atReset t 0 ht (by decide), if_pos rfl, fld, BitVec.toNat_ofNat]
  omega

/-- LIMIT of region 0 at reset. -/
theorem ptLimit_atReset (t : Nat) (ht : t < 27) : Dev.atReset.rf (Reg.ptRange t 0) 31 16 = lastGranuleReset t := by
  have hlast := lastGranuleReset_lt t
  rw [Dev.rf, ptRange_atReset t 0 ht (by decide), if_pos rfl, fld, BitVec.toNat_ofNat]
  omega

/-- MEM_CFG at reset gives LPDDR5 the capacity that the reset limit of table 0 covers (R417). -/
theorem lastGranule_atReset (t : Nat) : Dev.atReset.lastGranule t = lastGranuleReset t := by
  have hcap : Dev.atReset.dataCap / 1048576 - 1 = lastGranuleReset 0 := by decide
  rw [Dev.lastGranule, hcap]
  split
  next h => rw [h]
  next => rfl

/-! ### The accesses permitted at reset -/

/-- Table t grants at reset what PERM of region 0 grants, at every granule of the target. -/
theorem granted_atReset (m t g : Nat) (wr : Bool) (ht : t < 27) (hg : g ≤ lastGranuleReset t) :
    Dev.atReset.granted m t g wr = bit (permReset t) (2 * m + b2n wr) := by
  have region0 : (Dev.atReset.rb (Reg.ptValid t) 0 && decide (Dev.atReset.rf (Reg.ptRange t 0) 15 0 ≤ g) &&
      decide (g ≤ Dev.atReset.rf (Reg.ptRange t 0) 31 16) && Dev.atReset.rb (Reg.ptPerm t 0) (2 * m + b2n wr)) =
      bit (permReset t) (2 * m + b2n wr) := by
    rw [Dev.rb, Dev.rb, ptValid_atReset t ht, ptBase_atReset t ht, ptLimit_atReset t ht, ptPerm_atReset t 0 ht (by decide),
      decide_eq_true (Nat.zero_le g), decide_eq_true hg]
    rfl
  have others : ∀ r, r < 15 → Dev.atReset.rb (Reg.ptValid t) (r + 1) = false := by
    simp only [Dev.rb, ptValid_atReset t ht]
    decide
  rw [Dev.granted, List.range_succ_eq_map, List.any_cons, region0, List.any_map, List.any_eq_false.mpr, Bool.or_false]
  intro r hr
  simp [others r (List.mem_range.mp hr)]

/-- The bits of PERM at reset: every master, or in tables 4 and 24 masters 1 and 14 only. -/
theorem bit_permReset (m t : Nat) (wr : Bool) (hm : m < 16) :
    bit (permReset t) (2 * m + b2n wr) = (decide (t ≠ 4 ∧ t ≠ 24) || decide (m = 1) || decide (m = 14)) := by
  have hall : ∀ m, m < 16 → ∀ wr : Bool, bit 0xFFFFFFFF (2 * m + b2n wr) = true := by decide
  have htwo : ∀ m, m < 16 → ∀ wr : Bool, bit 0x3000000C (2 * m + b2n wr) = (decide (m = 1) || decide (m = 14)) := by decide
  by_cases h : t = 4 ∨ t = 24
  · have hnot : ¬(t ≠ 4 ∧ t ≠ 24) := by omega
    rw [permReset, if_pos h, htwo m hm wr, decide_eq_false hnot, Bool.false_or]
  · rw [permReset, if_neg h, hall m hm wr, decide_eq_true (not_or.mp h), Bool.true_or, Bool.true_or]

/-- An access that touches at least one byte and stays in the target is permitted at reset as PERM of region 0 says. -/
theorem permits_atReset (m t off len : Nat) (wr : Bool) (ht : t < 27) (hlen : 0 < len)
    (hin : off + len ≤ granule t * (lastGranuleReset t + 1)) :
    Dev.atReset.permits m t off len wr = bit (permReset t) (2 * m + b2n wr) := by
  have hlast : (off + len - 1) / granule t < lastGranuleReset t + 1 := Nat.div_lt_of_lt_mul (by omega)
  have hfirst : off / granule t ≤ (off + len - 1) / granule t := Nat.div_le_div_right (by omega)
  have hgranted : ∀ k ∈ rangeFrom (off / granule t) ((off + len - 1) / granule t + 1 - off / granule t),
      Dev.atReset.granted m t k wr = bit (permReset t) (2 * m + b2n wr) := by
    intro k hk
    obtain ⟨i, hi, rfl⟩ := List.mem_map.mp hk
    have := List.mem_range.mp hi
    exact granted_atReset m t _ wr ht (by omega)
  have hmem : off / granule t ∈ rangeFrom (off / granule t) ((off + len - 1) / granule t + 1 - off / granule t) :=
    List.mem_map.mpr ⟨0, List.mem_range.mpr (by omega), Nat.add_zero _⟩
  rw [Dev.permits, Bool.eq_iff_iff, List.all_eq_true]
  exact ⟨fun h => (hgranted _ hmem).symm.trans (h _ hmem), fun h k hk => (hgranted k hk).trans h⟩

/-- Settles O5: the reset words of each table, and that region 0 alone decides every access within the target. -/
theorem resetTables : Obligations.ResetTables := by
  unfold Obligations.ResetTables
  intro d t ht
  refine ⟨ptValid_atReset t ht, ptBase_atReset t ht, ?limit, ptPerm_atReset t 0 ht (by decide), fun r h1 hr => ?unused,
    fun m off len wr hm hlen hin => ?permits⟩
  case limit => exact (ptLimit_atReset t ht).trans (lastGranule_atReset t).symm
  case unused =>
    have hr0 : r ≠ 0 := by omega
    exact ⟨(ptRange_atReset t r ht hr).trans (if_neg hr0), (ptPerm_atReset t r ht hr).trans (if_neg hr0)⟩
  case permits => exact (permits_atReset m t off len wr ht hlen hin).trans (bit_permReset m t wr hm)

end Sys2Proof.Machine
end
